-- ==== Sys2Proof/Word.lean ====
section
/-! DEFINITION. The word types of R10 and their plainest arithmetic (R12). -/

namespace Sys2Proof

/-- R10: a byte is 8 bits. -/
abbrev Byte := BitVec 8
/-- R10: a half is 16 bits; an engine word has the same width (R44). -/
abbrev Half := BitVec 16
/-- R10: a word is 32 bits. -/
abbrev Word := BitVec 32
/-- R10: a dword is 64 bits. -/
abbrev Dword := BitVec 64
/-- A six-bit operand code of R94. -/
abbrev Code := BitVec 6
/-- A predicate register of R90: 512 bits. -/
abbrev Pred := BitVec 512
/-- An accumulator row of R221: 512 bytes, byte b at bits[8b+7:8b]. -/
abbrev AccRow := BitVec 4096
/-- A tile-file row of R218: 256 bytes, byte b at bits[8b+7:8b]. -/
abbrev TileRow := BitVec 2048

/-- R94: code 42 is `zero`, also the filler of unused operand fields (R108). -/
abbrev zeroCode : Code := 42#6

/-- R12: sext of a w-bit value to a dword. -/
def sext64 {w : Nat} (v : BitVec w) : Dword := v.signExtend 64
/-- R12: zext of a w-bit value to a dword. -/
def zext64 {w : Nat} (v : BitVec w) : Dword := v.zeroExtend 64
/-- 1 or 0 as a dword, as the comparison results of R111 give. -/
def bool64 (b : Bool) : Dword := if b then 1#64 else 0#64

end Sys2Proof
end

