-- ==== Sys2Proof/Config.lean ====
section
/-! DEFINITION. What an implementation or the package fixes once (R1 to R8), and the free values. -/

namespace Sys2Proof.Config

/-- R2: cores of one cluster. -/
def coresPerCluster : Nat := 12
/-- R2: package cores, 0 to 3071. -/
def coreCount : Nat := 3072
/-- R2: package clusters, 0 to 255. -/
def clusterCount : Nat := 256
/-- R1: layers, 0 to 15. -/
def layerCount : Nat := 16
/-- R3: at most twelve layers hold the compute role. -/
def maxComputeLayers : Nat := 12
/-- R418: partitions, 0 to 15. -/
def partCount : Nat := 16
/-- R34: the package's hardware queue slots. -/
def queueSlots : Nat := 128
/-- Scratchpad bytes of one core (R151). -/
def scratchBytes : Nat := 524288
/-- R318: synchronisation space, 64 MiB. -/
def syncBytes : Nat := 67108864
/-- R390, R161: bytes of a line, and of a fetch line. -/
def lineBytes : Nat := 128
/-- R169: lines of a core's 64 KiB instruction cache. -/
def codeLines : Nat := 512
/-- R139: entries of a load queue, and of a store queue. -/
def queueDepth : Nat := 64
/-- R47: commands held by a core's command queue to one engine identifier. -/
def cmdQueueDepth : Nat := 16
/-- R329: entries of an engine's pending table. -/
def pendingEntries : Nat := 2048
/-- R152: ranges of a core's scoreboard. -/
def scoreRanges : Nat := 16
/-- R38: cycles after which an unmet urgent request becomes PREEMPTLATE. -/
def preemptCycles : Nat := 65536
/-- R92: issue cycles after which an `endl` may change the active slot. -/
def endlCycles : Nat := 2048
/-- R92: cycles of a change of active slot. -/
def slotChangeCycles : Nat := 8
/-- R417: physical address of partition 0's doorbell frame. -/
def frameBase : Nat := 0x0000FFFFFF000000
/-- R417: bytes of the register region, the top of target 0's range. -/
def regionBytes : Nat := 0x1000000
/-- R417: bytes of one doorbell frame. -/
def frameBytes : Nat := 0x10000
/-- R65: the value the generator takes at task start, and in place of a written 0. -/
def seedDefault : Dword := 0x9E3779B97F4A7C15#64

/-- FREE VALUE (log 3): what fixes the frequency step of an island as it powers up, within the bounds of R439: the model's own count
of such moments, and the island; nothing constrains it. -/
opaque firstStep : Nat → Nat → Nat

/-- FREE VALUE (log 6): where page-table entries held (R404) differ from the one in memory, which of them the access at that time to
that address uses at that level, and none beyond their number; nothing constrains it. -/
opaque useHeld : Nat → Nat → Nat → Nat

/-- FREE VALUE (log 6): whether a load that binds when it issues takes a word's stale copy (R144); nothing constrains it. -/
opaque useCopy : Nat → Nat → Bool

/-- FREE VALUE (log 96): the code that R75 leaves open for an element, by its block scale and index, under a kept S that is NaN or
infinite; nothing constrains it. -/
opaque openCode : Nat → Nat → Fin 16

/-- FREE VALUE (log 96): the block scale that R75 leaves open for a 64-element block under a kept S that is NaN; nothing
constrains it. -/
opaque openScale : Nat → Fin 256

/-- FREE VALUE (log 98): the bytes of an entry spilled to a sync overflow area (R329), by the cycle and the byte's place; nothing
constrains it. -/
opaque spillByte : Nat → Nat → Byte

/-- FREE VALUE (log 105): what stands in a byte of host memory that the device held modified when the host's port was fenced (R414), by the
cycle and the address; nothing constrains it. -/
opaque droppedByte : Nat → Nat → Byte

/-- FREE VALUE (log 93): R390's home slice of each line under the hash that the firmware image names (R440); nothing constrains it. -/
opaque homeHash : Nat → Nat → Fin 1024

/-- FREE VALUE (log 34): the set of its home slice that each line falls in, of the 1,024 that R2's 2 MiB make in 16 ways of 128-byte
lines; nothing constrains it. -/
opaque llcSet : Nat → Fin 1024

end Sys2Proof.Config
end

