-- ==== Sys2Proof/Syntax.lean ====
section
/-! DEFINITION. The instruction set: every row of the opcode table, and the plain data its events carry. -/

namespace Sys2Proof

/-- Where an arrival at a barrier object comes from (R323, R326): it settles an object error by its source. -/
inductive ArrSrc where
  /-- An instruction of major 0x2E: the slot it issued from, its launch key and its context (R335). -/
  | instr (slot : Bool) (launch ctx : Nat)
  /-- An engine operation of a context of another core: partition, engine identifier, launch key and core × 2 + slot of its issuer
  (R51, R255, R342). -/
  | engine (part eng launch core : Nat)
  /-- DONEB of a retired launch (R40). -/
  | doneb (launch : Nat)
  /-- The event ring of a partition (R422). -/
  | evbar (part : Nat)
  /-- An upward arrival of the child object at the address, for the phase it carries (R324). -/
  | child (addr phase : Nat)
  /-- An upward arrival that came as a flit: source module, child address, phase (R435). -/
  | remote (mod addr phase part : Nat)
  /-- A `barrive` of another core's context: partition, launch key, core × 2 + slot (R335). -/
  | other (part launch core : Nat)
  deriving DecidableEq, Repr

/-- A 256-byte flit of R434, without its check code. -/
structure Flit where
  /-- Byte 0: 1 data, 2 read request, 3 acknowledgement, 4 arrival, 5 flip, 6 heartbeat, 7 refusal. -/
  kind : Nat
  /-- Byte 1 bit 0. -/
  poison : Bool
  /-- Bytes 2-3: source module. -/
  srcMod : Nat
  /-- Bytes 4-5: destination module. -/
  dstMod : Nat
  /-- Byte 6 bits[3:0]: source partition. -/
  srcPart : Nat
  /-- Byte 6 bits[7:4]: destination partition. -/
  dstPart : Nat
  /-- Bytes 8-15: the tag. -/
  tag : BitVec 64
  /-- Bytes 16-239: the payload used, at most 224 bytes. -/
  payload : List (BitVec 8)
  deriving DecidableEq, Repr

/-- One island's readings in an interval of R439. -/
structure IslandReading where
  /-- Package island, 0 to 127. -/
  island : Nat
  /-- Hottest sensor, degrees Celsius. -/
  temp : Nat
  /-- Heat flux, W/cm2. -/
  flux : Nat
  deriving DecidableEq, Repr

/-- The firmware image of R6 and R440, with what the fitted memory lets firmware record (R401, R438). -/
structure Image where
  /-- The check code holds (R440 step 1). -/
  good : Bool
  /-- MODID set from the image (R440 step 3). -/
  modid : BitVec 9
  /-- Compute layers named by the image; none means the default of R440 step 3. -/
  roles : Option (List Nat)
  /-- The root RCB's machine-physical address, written to ROOT. -/
  root : BitVec 64
  /-- Fitted HBM4E bytes (R401 target 0). -/
  hbm : Nat
  /-- Fitted LPDDR-6 bytes (R401 target 1). -/
  lpddr : Nat
  /-- CXL bytes enumerated behind expansion ports 0 and 1 (R438). -/
  cxl0 : Nat
  cxl1 : Nat
  /-- Rilot links that train (R440 step 4), each with the module that its heartbeats go to (R436). -/
  links : List (Nat × Nat)
  /-- R390, R440 step 3: the home hash it sets. -/
  hash : Nat
  /-- Memory cells the image loads: the root RCB and firmware's own structures (R440 step 3). -/
  cells : List (Nat × BitVec 8)
  deriving DecidableEq, Repr

/-- R107 to R109, R44, and the table of operations and events: one constructor per row of spec/opcode_table.json.
Sequencer instructions hold the fields of their word as the table names them (s is the stall count), engine words hold
their argument, and events hold what the agent outside the model, or the choice the spec leaves open, brings. -/
inductive Instr where
  /-- ADD (R111): Integer add of two registers modulo 2^64. -/
  | add (s : BitVec 2) (d a b : Code)
  /-- SUB (R111): Integer subtract. -/
  | sub (s : BitVec 2) (d a b : Code)
  /-- AND (R111): Bitwise and. -/
  | and (s : BitVec 2) (d a b : Code)
  /-- OR (R111): Bitwise or. -/
  | or (s : BitVec 2) (d a b : Code)
  /-- XOR (R111): Bitwise exclusive or. -/
  | xor (s : BitVec 2) (d a b : Code)
  /-- ANDN (R111): a and not b. -/
  | andn (s : BitVec 2) (d a b : Code)
  /-- SHL (R111): Shift left by b[5:0]. -/
  | shl (s : BitVec 2) (d a b : Code)
  /-- SHR (R111): Logical shift right by b[5:0]. -/
  | shr (s : BitVec 2) (d a b : Code)
  /-- SRA (R111): Arithmetic shift right by b[5:0]. -/
  | sra (s : BitVec 2) (d a b : Code)
  /-- ROTR (R111): Rotate right by b[5:0]. -/
  | rotr (s : BitVec 2) (d a b : Code)
  /-- MIN (R111): Signed minimum. -/
  | min (s : BitVec 2) (d a b : Code)
  /-- MAX (R111): Signed maximum. -/
  | max (s : BitVec 2) (d a b : Code)
  /-- MINN (R111): Unsigned minimum. -/
  | minn (s : BitVec 2) (d a b : Code)
  /-- MAXN (R111): Unsigned maximum. -/
  | maxn (s : BitVec 2) (d a b : Code)
  /-- SEQ (R111): Set 1 if equal. -/
  | seq (s : BitVec 2) (d a b : Code)
  /-- SNE (R111): Set 1 if not equal. -/
  | sne (s : BitVec 2) (d a b : Code)
  /-- SLT (R111): Set 1 if less, signed. -/
  | slt (s : BitVec 2) (d a b : Code)
  /-- SLTN (R111): Set 1 if less, unsigned. -/
  | sltn (s : BitVec 2) (d a b : Code)
  /-- SLE (R111): Set 1 if less or equal, signed. -/
  | sle (s : BitVec 2) (d a b : Code)
  /-- SLEN (R111): Set 1 if less or equal, unsigned. -/
  | slen (s : BitVec 2) (d a b : Code)
  /-- ADDS (R111): Saturating signed add, setting SAT on clamp. -/
  | adds (s : BitVec 2) (d a b : Code)
  /-- SUBS (R111): Saturating signed subtract. -/
  | subs (s : BitVec 2) (d a b : Code)
  /-- CLZ (R111): Count leading zeros. -/
  | clz (s : BitVec 2) (d a : Code)
  /-- CTZ (R111): Count trailing zeros. -/
  | ctz (s : BitVec 2) (d a : Code)
  /-- POPC (R111): Population count. -/
  | popc (s : BitVec 2) (d a : Code)
  /-- BSWAP (R111): Reverse the eight bytes. -/
  | bswap (s : BitVec 2) (d a : Code)
  /-- SXB (R111): Sign-extend byte. -/
  | sxb (s : BitVec 2) (d a : Code)
  /-- SXH (R111): Sign-extend half. -/
  | sxh (s : BitVec 2) (d a : Code)
  /-- SXW (R111): Sign-extend word. -/
  | sxw (s : BitVec 2) (d a : Code)
  /-- ZXB (R111): Zero-extend byte. -/
  | zxb (s : BitVec 2) (d a : Code)
  /-- ZXH (R111): Zero-extend half. -/
  | zxh (s : BitVec 2) (d a : Code)
  /-- ZXW (R111): Zero-extend word. -/
  | zxw (s : BitVec 2) (d a : Code)
  /-- SEL (R111): Select a or b by the old value of xd. -/
  | sel (s : BitVec 2) (d a b : Code)
  /-- ADDI (R112): Add sign-extended 12-bit immediate. -/
  | addi (s : BitVec 2) (d a : Code) (i : BitVec 12)
  /-- ANDI (R112): And with immediate. -/
  | andi (s : BitVec 2) (d a : Code) (i : BitVec 12)
  /-- ORI (R112): Or with immediate. -/
  | ori (s : BitVec 2) (d a : Code) (i : BitVec 12)
  /-- XORI (R112): Exclusive or with immediate. -/
  | xori (s : BitVec 2) (d a : Code) (i : BitVec 12)
  /-- SHLI (R112): Shift left by immediate. -/
  | shli (s : BitVec 2) (d a : Code) (i : BitVec 6)
  /-- SHRI (R112): Logical shift right by immediate. -/
  | shri (s : BitVec 2) (d a : Code) (i : BitVec 6)
  /-- SRAI (R112): Arithmetic shift right by immediate. -/
  | srai (s : BitVec 2) (d a : Code) (i : BitVec 6)
  /-- SLTI (R112): Set if less than immediate, signed. -/
  | slti (s : BitVec 2) (d a : Code) (i : BitVec 12)
  /-- SLTNI (R112): Set if less than immediate, unsigned. -/
  | sltni (s : BitVec 2) (d a : Code) (i : BitVec 12)
  /-- LI (R113): Load sign-extended 32-bit immediate (long form). -/
  | li (s : BitVec 2) (d : Code) (i : BitVec 32)
  /-- LHI (R113): Place 32-bit immediate in the upper half (long form). -/
  | lhi (s : BitVec 2) (d a : Code) (i : BitVec 32)
  /-- ADDL (R113): Add sign-extended 32-bit immediate (long form). -/
  | addl (s : BitVec 2) (d a : Code) (i : BitVec 32)
  /-- MUL (R114): Low 64 bits of product. -/
  | mul (s : BitVec 2) (d a b : Code)
  /-- MULH (R114): High 64 bits of signed product. -/
  | mulh (s : BitVec 2) (d a b : Code)
  /-- MULHN (R114): High 64 bits of unsigned product. -/
  | mulhn (s : BitVec 2) (d a b : Code)
  /-- DIV (R114): Signed division truncating towards zero. -/
  | div (s : BitVec 2) (d a b : Code)
  /-- DIVN (R114): Unsigned division. -/
  | divn (s : BitVec 2) (d a b : Code)
  /-- REM (R114): Signed remainder. -/
  | rem (s : BitVec 2) (d a b : Code)
  /-- REMN (R114): Unsigned remainder. -/
  | remn (s : BitVec 2) (d a b : Code)
  /-- FADD (R115): Floating add with rounding code, type in the major. -/
  | fadd (s t : BitVec 2) (d a b : Code) (r : BitVec 3)
  /-- FSUB (R115): Floating subtract. -/
  | fsub (s t : BitVec 2) (d a b : Code) (r : BitVec 3)
  /-- FMUL (R115): Floating multiply. -/
  | fmul (s t : BitVec 2) (d a b : Code) (r : BitVec 3)
  /-- FDIV (R115): Floating divide. -/
  | fdiv (s t : BitVec 2) (d a b : Code) (r : BitVec 3)
  /-- FSQRT (R115): Floating square root. -/
  | fsqrt (s t : BitVec 2) (d a : Code) (r : BitVec 3)
  /-- FMIN (R115): Floating minimum, no rounding. -/
  | fmin (s t : BitVec 2) (d a b : Code)
  /-- FMAX (R115): Floating maximum, no rounding. -/
  | fmax (s t : BitVec 2) (d a b : Code)
  /-- FMA (R115): Fused multiply-add into xd with one rounding. -/
  | fma (s t : BitVec 2) (d a b : Code) (r : BitVec 3)
  /-- FEQ (R116): Floating equality compare. -/
  | feq (s : BitVec 2) (d a b : Code) (t : BitVec 2)
  /-- FLT (R116): Floating less-than compare. -/
  | flt (s : BitVec 2) (d a b : Code) (t : BitVec 2)
  /-- FLE (R116): Floating less-or-equal compare. -/
  | fle (s : BitVec 2) (d a b : Code) (t : BitVec 2)
  /-- FUN (R116): Unordered test. -/
  | fun (s : BitVec 2) (d a b : Code) (t : BitVec 2)
  /-- FCLASS (R116): Classify a floating value. -/
  | fclass (s : BitVec 2) (d a : Code) (t : BitVec 2)
  /-- FNEG (R116): Invert sign bit. -/
  | fneg (s : BitVec 2) (d a : Code) (t : BitVec 2)
  /-- FABS (R116): Clear sign bit. -/
  | fabs (s : BitVec 2) (d a : Code) (t : BitVec 2)
  /-- CVT (R117): Convert between integer and floating types. -/
  | cvt (s : BitVec 2) (d a : Code) (e u : BitVec 4) (r : BitVec 3)
  /-- BR (R118): Unconditional branch with target check. -/
  | br (s : BitVec 2) (i : BitVec 18)
  /-- BEQZ (R118): Branch if zero. -/
  | beqz (s : BitVec 2) (a : Code) (i : BitVec 18)
  /-- BNEZ (R118): Branch if not zero. -/
  | bnez (s : BitVec 2) (a : Code) (i : BitVec 18)
  /-- BLTZ (R118): Branch if negative. -/
  | bltz (s : BitVec 2) (a : Code) (i : BitVec 18)
  /-- BGEZ (R118): Branch if non-negative. -/
  | bgez (s : BitVec 2) (a : Code) (i : BitVec 18)
  /-- BGTZ (R118): Branch if positive. -/
  | bgtz (s : BitVec 2) (a : Code) (i : BitVec 18)
  /-- BLEZ (R118): Branch if not positive. -/
  | blez (s : BitVec 2) (a : Code) (i : BitVec 18)
  /-- CALL (R119): Write link and branch to an entry line. -/
  | call (s : BitVec 2) (a : Code) (i : BitVec 18)
  /-- JR (R119): Jump to register address. -/
  | jr (s : BitVec 2) (a : Code)
  /-- JALR (R119): Write link and jump to register address. -/
  | jalr (s : BitVec 2) (d a : Code)
  /-- LOOP (R121): Open a hardware loop level or skip the body. -/
  | loop (s : BitVec 2) (a : Code) (i : BitVec 18)
  /-- ENDL (R122): Close loop level 0, rotate RRB, branch back or pop. -/
  | endl (s : BitVec 2)
  /-- YIELD (R124): Iteration boundary; stop for pre-emption or change active slot. -/
  | yield (s : BitVec 2)
  /-- ERET (R134): Return from supervisor or machine level, draining the landing buffer. -/
  | eret (s : BitVec 2)
  /-- TEND (R136): End the task and free its slot. -/
  | tend (s : BitVec 2)
  /-- HGET (R125): Read a handle slot. -/
  | hget (s : BitVec 2) (d n : Code)
  /-- NOP (R136): Do nothing. -/
  | nop (s : BitVec 2)
  /-- LEXIT (R123): Pop loop level 0 without branching. -/
  | lexit (s : BitVec 2)
  /-- SGET (R126): Read a control register. -/
  | sget (s : BitVec 2) (d : Code) (i : BitVec 12)
  /-- SSET (R126): Write a control register. -/
  | sset (s : BitVec 2) (a : Code) (i : BitVec 12)
  /-- HSET (R125): Set a handle slot index. -/
  | hset (s : BitVec 2) (d a : Code) (i : BitVec 12)
  /-- TRAP (R135): Raise SOFTTRAP. -/
  | trap (s : BitVec 2) (i : BitVec 12)
  /-- XSENDI (R127): Send two engine words from the second word (long form). -/
  | xsendi (s : BitVec 2) (e : BitVec 4) (w0 w1 : BitVec 16)
  /-- XSEND (R128): Send a push of xb then four words of xa to an engine. -/
  | xsend (s : BitVec 2) (e : BitVec 4) (a b : Code)
  /-- XSENDW (R128): Send eight words from two registers. -/
  | xsendw (s : BitVec 2) (e : BitVec 4) (a b : Code)
  /-- XSEQ (R128): Read an engine completion sequence number. -/
  | xseq (s : BitVec 2) (e : BitVec 4) (a : Code)
  /-- XWAIT (R128): Stall until the completion sequence number reaches a target. -/
  | xwait (s : BitVec 2) (e : BitVec 4) (a : Code)
  /-- XSENDM (R129): Send a block of engine words read from memory. -/
  | xsendm (s : BitVec 2) (e : BitVec 4) (a : Code) (h : BitVec 4) (i : BitVec 8)
  /-- LD_I64 (R154): Dword load, Memory format. -/
  | ldI64 (s : BitVec 2) (d a : Code) (h : BitVec 4) (i : BitVec 8)
  /-- LD_I32 (R154): Sign-extending word load, Memory format. -/
  | ldI32 (s : BitVec 2) (d a : Code) (h : BitVec 4) (i : BitVec 8)
  /-- ST_I64 (R154): Dword store, Memory format. -/
  | stI64 (s : BitVec 2) (d a : Code) (h : BitVec 4) (i : BitVec 8)
  /-- ST_I32 (R154): Word store, Memory format. -/
  | stI32 (s : BitVec 2) (d a : Code) (h : BitVec 4) (i : BitVec 8)
  /-- LD_I8 (R155): Sign-extending byte load, register offset. -/
  | ldI8 (s : BitVec 2) (d n b : Code)
  /-- LD_N8 (R155): Zero-extending byte load. -/
  | ldN8 (s : BitVec 2) (d n b : Code)
  /-- LD_I16 (R155): Sign-extending half load. -/
  | ldI16 (s : BitVec 2) (d n b : Code)
  /-- LD_N16 (R155): Zero-extending half load. -/
  | ldN16 (s : BitVec 2) (d n b : Code)
  /-- LD_I32_REG (R155): Sign-extending word load, register offset. -/
  | ldI32Reg (s : BitVec 2) (d n b : Code)
  /-- LD_N32 (R155): Zero-extending word load. -/
  | ldN32 (s : BitVec 2) (d n b : Code)
  /-- LD_I64_REG (R155): Dword load, register offset. -/
  | ldI64Reg (s : BitVec 2) (d n b : Code)
  /-- ST_I8 (R155): Byte store. -/
  | stI8 (s : BitVec 2) (d n b : Code)
  /-- ST_I16 (R155): Half store. -/
  | stI16 (s : BitVec 2) (d n b : Code)
  /-- ST_I32_REG (R155): Word store, register offset. -/
  | stI32Reg (s : BitVec 2) (d n b : Code)
  /-- ST_I64_REG (R155): Dword store, register offset. -/
  | stI64Reg (s : BitVec 2) (d n b : Code)
  /-- LD_ACQ_N32 (R146): Acquiring word load at a scope. -/
  | ldAcqN32 (s : BitVec 2) (d n b : Code) (c : BitVec 3)
  /-- LD_ACQ_I64 (R146): Acquiring dword load at a scope. -/
  | ldAcqI64 (s : BitVec 2) (d n b : Code) (c : BitVec 3)
  /-- ST_REL_I32 (R146): Releasing word store at a scope. -/
  | stRelI32 (s : BitVec 2) (d n b : Code) (c : BitVec 3)
  /-- ST_REL_I64 (R146): Releasing dword store at a scope. -/
  | stRelI64 (s : BitVec 2) (d n b : Code) (c : BitVec 3)
  /-- MARK (R145): Order the thread's accesses at a scope. -/
  | mark (s : BitVec 2) (c : BitVec 3)
  /-- PF_DC (R156): Prefetch hint into the coherent data cache. -/
  | pfDc (s : BitVec 2) (n b : Code)
  /-- PF_LLC (R156): Prefetch hint into the last-level cache. -/
  | pfLlc (s : BitVec 2) (n b : Code)
  /-- DLD (R157): Decoding load of one stored-format element. -/
  | dld (s : BitVec 2) (d n b : Code) (t : BitVec 3) (u : BitVec 2)
  /-- DST (R158): Decoding store of one element, whole-block or partial encode. -/
  | dst (s : BitVec 2) (d n b : Code) (t r : BitVec 3)
  /-- TLD (R159): Load memory rows into a tile register by geometry. -/
  | tld (s : BitVec 2) (d n b : Code) (k : BitVec 3)
  /-- TST (R159): Store a tile register to memory by geometry. -/
  | tst (s : BitVec 2) (d n b : Code) (k : BitVec 3)
  /-- CPUB (R175): Publish code lines at a scope: mark then discard copies. -/
  | cpub (s : BitVec 2) (d n b : Code) (c : BitVec 3)
  /-- CINV (R176): Discard code-line copies without ordering. -/
  | cinv (s : BitVec 2) (d n b : Code) (c : BitVec 3)
  /-- IFENCE (R177): Wait for loads and discard the fetch buffer. -/
  | ifence (s : BitVec 2)
  /-- CPROBE (R178): Read a fetch line's header as a fill would. -/
  | cprobe (s : BitVec 2) (d a : Code) (h : BitVec 4) (i : BitVec 8)
  /-- ASWP (R332): Atomic swap. -/
  | aswp (s : BitVec 2) (d n b : Code) (w : BitVec 1)
  /-- AADD (R332): Atomic add. -/
  | aadd (s : BitVec 2) (d n b : Code) (w : BitVec 1)
  /-- AAND (R332): Atomic and. -/
  | aand (s : BitVec 2) (d n b : Code) (w : BitVec 1)
  /-- AOR (R332): Atomic or. -/
  | aor (s : BitVec 2) (d n b : Code) (w : BitVec 1)
  /-- AXOR (R332): Atomic exclusive or. -/
  | axor (s : BitVec 2) (d n b : Code) (w : BitVec 1)
  /-- AMIN (R332): Atomic signed minimum. -/
  | amin (s : BitVec 2) (d n b : Code) (w : BitVec 1)
  /-- AMAX (R332): Atomic signed maximum. -/
  | amax (s : BitVec 2) (d n b : Code) (w : BitVec 1)
  /-- AMINN (R332): Atomic unsigned minimum. -/
  | aminn (s : BitVec 2) (d n b : Code) (w : BitVec 1)
  /-- AMAXN (R332): Atomic unsigned maximum. -/
  | amaxn (s : BitVec 2) (d n b : Code) (w : BitVec 1)
  /-- ACAS (R333): Atomic compare-and-swap from an even register pair. -/
  | acas (s : BitVec 2) (d n b : Code) (w : BitVec 1)
  /-- AFADD (R334): Atomic floating add. -/
  | afadd (s : BitVec 2) (d n b : Code) (w : BitVec 1)
  /-- BARRIVE (R335): Add one arrival to a barrier object, releasing at .p. -/
  | barrive (s : BitVec 2) (d n b : Code)
  /-- BWAIT (R336): Wait for a barrier phase and acquire. -/
  | bwait (s : BitVec 2) (d n b : Code)
  /-- BTEST (R336): Test a barrier phase without waiting. -/
  | btest (s : BitVec 2) (d n b : Code)
  /-- RRES (R337): Reserve ring indices. -/
  | rres (s : BitVec 2) (d n b : Code)
  /-- RPOST (R338): Mark a ring span filled, in index order. -/
  | rpost (s : BitVec 2) (d n b : Code)
  /-- RWFREE (R339): Wait until a ring span is free. -/
  | rwfree (s : BitVec 2) (d n b : Code)
  /-- RTFREE (R339): Test whether a ring span is free. -/
  | rtfree (s : BitVec 2) (d n b : Code)
  /-- RTAKE (R337): Claim ring indices. -/
  | rtake (s : BitVec 2) (d n b : Code)
  /-- RFREE (R338): Mark a ring span freed, in index order. -/
  | rfree (s : BitVec 2) (d n b : Code)
  /-- RWFILL (R339): Wait until a ring span is filled. -/
  | rwfill (s : BitVec 2) (d n b : Code)
  /-- RTFILL (R339): Test whether a ring span is filled. -/
  | rtfill (s : BitVec 2) (d n b : Code)
  /-- VADD (R197): Lanewise add. -/
  | vadd (s : BitVec 2) (d a b : BitVec 5) (p : BitVec 3) (m : BitVec 2)
  /-- VSUB (R197): Lanewise subtract. -/
  | vsub (s : BitVec 2) (d a b : BitVec 5) (p : BitVec 3) (m : BitVec 2)
  /-- VMUL (R197): Lanewise multiply. -/
  | vmul (s : BitVec 2) (d a b : BitVec 5) (p : BitVec 3) (m : BitVec 2)
  /-- VFMA (R197): Lanewise fused multiply-add. -/
  | vfma (s : BitVec 2) (d a b : BitVec 5) (p : BitVec 3) (m : BitVec 2)
  /-- VMIN (R197): Lanewise minimum. -/
  | vmin (s : BitVec 2) (d a b : BitVec 5) (p : BitVec 3) (m : BitVec 2)
  /-- VMAX (R197): Lanewise maximum. -/
  | vmax (s : BitVec 2) (d a b : BitVec 5) (p : BitVec 3) (m : BitVec 2)
  /-- VDIV (R197): Lanewise floating divide. -/
  | vdiv (s : BitVec 2) (d a b : BitVec 5) (p : BitVec 3) (m : BitVec 2)
  /-- VSQRT (R197): Lanewise square root. -/
  | vsqrt (s : BitVec 2) (d a : BitVec 5) (p : BitVec 3) (m : BitVec 2)
  /-- VEXP2 (R197): Lanewise FP32 power of two. -/
  | vexp2 (s : BitVec 2) (d a : BitVec 5) (p : BitVec 3) (m : BitVec 2)
  /-- VNEG (R197): Lanewise negate. -/
  | vneg (s : BitVec 2) (d a : BitVec 5) (p : BitVec 3) (m : BitVec 2)
  /-- VABS (R197): Lanewise absolute value. -/
  | vabs (s : BitVec 2) (d a : BitVec 5) (p : BitVec 3) (m : BitVec 2)
  /-- VCVT (R203): Lanewise type conversion. -/
  | vcvt (s : BitVec 2) (d a : BitVec 5) (p : BitVec 3) (m : BitVec 2)
  /-- VMULH (R197): Lanewise high half of integer product. -/
  | vmulh (s : BitVec 2) (d a b : BitVec 5) (p : BitVec 3) (m : BitVec 2)
  /-- VDOTB (R215): Block-scaled dot product of two frames into a main register. -/
  | vdotb (s : BitVec 2) (d a b : BitVec 5) (p : BitVec 3)
  /-- VQE8 (R214): Quantise two L8 groups into a frame. -/
  | vqe8 (s : BitVec 2) (d a : BitVec 5) (p : BitVec 3)
  /-- VQN4 (R213): Quantise 128 lanes to NQ4 codes. -/
  | vqn4 (s : BitVec 2) (d a : BitVec 5) (p : BitVec 3)
  /-- VAND (R198): Lanewise and. -/
  | vand (s : BitVec 2) (d a b : BitVec 5) (p : BitVec 3) (m : BitVec 2)
  /-- VOR (R198): Lanewise or. -/
  | vor (s : BitVec 2) (d a b : BitVec 5) (p : BitVec 3) (m : BitVec 2)
  /-- VXOR (R198): Lanewise exclusive or. -/
  | vxor (s : BitVec 2) (d a b : BitVec 5) (p : BitVec 3) (m : BitVec 2)
  /-- VANDN (R198): Lanewise and-not. -/
  | vandn (s : BitVec 2) (d a b : BitVec 5) (p : BitVec 3) (m : BitVec 2)
  /-- VSHL (R198): Lanewise shift left. -/
  | vshl (s : BitVec 2) (d a b : BitVec 5) (p : BitVec 3) (m : BitVec 2)
  /-- VSHR (R198): Lanewise logical shift right. -/
  | vshr (s : BitVec 2) (d a b : BitVec 5) (p : BitVec 3) (m : BitVec 2)
  /-- VSRA (R198): Lanewise arithmetic shift right. -/
  | vsra (s : BitVec 2) (d a b : BitVec 5) (p : BitVec 3) (m : BitVec 2)
  /-- VCLZ (R198): Lanewise leading-zero count. -/
  | vclz (s : BitVec 2) (d a : BitVec 5) (p : BitVec 3) (m : BitVec 2)
  /-- VPOPC (R198): Lanewise population count. -/
  | vpopc (s : BitVec 2) (d a : BitVec 5) (p : BitVec 3) (m : BitVec 2)
  /-- VCEQ (R199): Lanewise equality into a predicate. -/
  | vceq (s : BitVec 2) (d a b : BitVec 5) (p : BitVec 3) (m : BitVec 2)
  /-- VCLT (R199): Lanewise less-than into a predicate. -/
  | vclt (s : BitVec 2) (d a b : BitVec 5) (p : BitVec 3) (m : BitVec 2)
  /-- VCLE (R199): Lanewise less-or-equal into a predicate. -/
  | vcle (s : BitVec 2) (d a b : BitVec 5) (p : BitVec 3) (m : BitVec 2)
  /-- VCUN (R199): Lanewise unordered test into a predicate. -/
  | vcun (s : BitVec 2) (d a b : BitVec 5) (p : BitVec 3) (m : BitVec 2)
  /-- VSEL (R200): Lanewise select by predicate. -/
  | vsel (s : BitVec 2) (d a b : BitVec 5) (p : BitVec 3) (m : BitVec 2)
  /-- PAND (R201): Predicate and. -/
  | pand (s : BitVec 2) (d a b : BitVec 5)
  /-- POR (R201): Predicate or. -/
  | por (s : BitVec 2) (d a b : BitVec 5)
  /-- PXOR (R201): Predicate exclusive or. -/
  | pxor (s : BitVec 2) (d a b : BitVec 5)
  /-- PANDN (R201): Predicate and-not. -/
  | pandn (s : BitVec 2) (d a b : BitVec 5)
  /-- PNOR (R201): Predicate nor. -/
  | pnor (s : BitVec 2) (d a b : BitVec 5)
  /-- PNAND (R201): Predicate nand. -/
  | pnand (s : BitVec 2) (d a b : BitVec 5)
  /-- PNOT (R201): Predicate not. -/
  | pnot (s : BitVec 2) (d a : BitVec 5)
  /-- PFILL (R201): Predicate fill with ones. -/
  | pfill (s : BitVec 2) (d : BitVec 5)
  /-- VPCNT (R202): Count set predicate bits into a main register. -/
  | vpcnt (s : BitVec 2) (d a : BitVec 5)
  /-- VPLO (R202): Lowest set predicate bit. -/
  | vplo (s : BitVec 2) (d a : BitVec 5)
  /-- VPHI (R202): Highest set predicate bit. -/
  | vphi (s : BitVec 2) (d a : BitVec 5)
  /-- VMOV (R204): Lanewise move. -/
  | vmov (s : BitVec 2) (d a : BitVec 5) (p : BitVec 3) (m : BitVec 2)
  /-- VBCAST (R204): Broadcast o0 to every active lane. -/
  | vbcast (s : BitVec 2) (d : BitVec 5) (p : BitVec 3) (m : BitVec 2)
  /-- VIOTA (R204): Write lane numbers. -/
  | viota (s : BitVec 2) (d : BitVec 5) (p : BitVec 3) (m : BitVec 2)
  /-- VMOVX (R204): Move one lane to a main register. -/
  | vmovx (s : BitVec 2) (d a : BitVec 5) (p : BitVec 3)
  /-- VPERM (R205): Lane permutation by index vector. -/
  | vperm (s : BitVec 2) (d a b : BitVec 5) (p : BitVec 3) (m : BitVec 2)
  /-- VSLIDE (R205): Slide across two registers. -/
  | vslide (s : BitVec 2) (d a b : BitVec 5) (p : BitVec 3) (m : BitVec 2)
  /-- VCOMPRESS (R205): Pack active lanes. -/
  | vcompress (s : BitVec 2) (d a : BitVec 5) (p : BitVec 3)
  /-- VEXPAND (R205): Unpack into active lanes. -/
  | vexpand (s : BitVec 2) (d a : BitVec 5) (p : BitVec 3)
  /-- VRED (R206): Tree reduction of lanes into lane 0. -/
  | vred (s : BitVec 2) (d a : BitVec 5) (p : BitVec 3) (m : BitVec 2)
  /-- VSCAN (R207): Inclusive running scan. -/
  | vscan (s : BitVec 2) (d a : BitVec 5) (p : BitVec 3) (m : BitVec 2)
  /-- VMATCH (R208): Group lanes by key and reduce into leaders. -/
  | vmatch (s : BitVec 2) (d a b : BitVec 5) (p : BitVec 3)
  /-- VSTOP (R216): Test tokens against stop sets and post retire records. -/
  | vstop (s : BitVec 2) (d a b : BitVec 5) (p : BitVec 3)
  /-- VFENCE (R217): Wait for older vector instructions to complete. -/
  | vfence (s : BitVec 2)
  /-- VLD (R210): Vector load, raw or decoding. -/
  | vld (s : BitVec 2) (d : BitVec 5) (p : BitVec 3) (m : BitVec 2)
  /-- VST (R211): Vector store, raw or encoding. -/
  | vst (s : BitVec 2) (d : BitVec 5) (p : BitVec 3) (m : BitVec 2)
  /-- VLDG (R212): Vector gather. -/
  | vldg (s : BitVec 2) (d b : BitVec 5) (p : BitVec 3)
  /-- VSTG (R212): Vector scatter. -/
  | vstg (s : BitVec 2) (d b : BitVec 5) (p : BitVec 3)
  /-- ENG_PUSH (R44): Push a 15-bit literal on the engine stack. -/
  | engPush (v : BitVec 15)
  /-- ENG_LIT8 (R45): Push sign-extended 8-bit argument. -/
  | engLit8 (n : BitVec 8)
  /-- ENG_SHL (R45): Shift top left by the argument. -/
  | engShl (n : BitVec 8)
  /-- ENG_PICK (R45): Copy entry at a depth to the top. -/
  | engPick (n : BitVec 8)
  /-- MSET (R232): Set one field of the shadow set. -/
  | mset (f : BitVec 8)
  /-- MFMT (R232): Set FA and FB. -/
  | mfmt (b a : BitVec 4)
  /-- MTR (R232): Set TRB. -/
  | mtr (t : BitVec 1)
  /-- MCOS (R232): Set COS and optionally CSC. -/
  | mcos (c : BitVec 1)
  /-- MLEV (R232): Set one loop count. -/
  | mlev (l : BitVec 3)
  /-- MSTR (R232): Set six strides of one generator. -/
  | mstr (g : BitVec 3)
  /-- MEPI (R232): Set EPI and optionally E. -/
  | mepi (e : BitVec 1)
  /-- MGO (R233): Copy and check the active set, launch a matrix operation. -/
  | mgo (s : BitVec 1)
  /-- MSTAT (R235): Launch write of the status dword to a row. -/
  | mstat (c : BitVec 1)
  /-- MGRP (R268): Set a side-path group field. -/
  | mgrp (g : BitVec 4)
  /-- MSFM (R268): Set side-path factor format. -/
  | msfm (f : BitVec 3)
  /-- MSDS (R268): Set SD or SK strides. -/
  | msds (g : BitVec 1)
  /-- FGET (R247): Check and accept a tile fetch, taking pins. -/
  | fget (e r : BitVec 1) (h : BitVec 4)
  /-- FWARM (R257): Check and warm lines of a fetch span without pins. -/
  | fwarm (h : BitVec 4)
  /-- AGET (R281): Report an adapter version without pinning. -/
  | aget (w : BitVec 1) (h : BitVec 4)
  /-- APIN (R281): Pin the current adapter version. -/
  | apin (w : BitVec 1) (h : BitVec 4)
  /-- AUNPIN (R282): Remove a pin, retiring a drained slot. -/
  | aunpin (h : BitVec 4)
  /-- AALLOC (R283): Claim the spare slot and allocate pages for a new version. -/
  | aalloc (h : BitVec 4)
  /-- APUB (R284): Publish the built version. -/
  | apub (h : BitVec 4)
  /-- AABORT (R285): Abandon a build. -/
  | aabort (h : BitVec 4)
  /-- WCLAIM (R311): Claim up to k further task numbers. -/
  | wclaim (h : BitVec 4)
  /-- WSTAT (R312): Write a snapshot of the walk. -/
  | wstat (h : BitVec 4)
  /-- WLAUNCH (R314): Start a local walk in the cluster. -/
  | wlaunch (h : BitVec 4)
  /-- YARV (R342): Add an arrival to a barrier after older stores are performed. -/
  | yarv (p : BitVec 1)
  /-- YRED (R343): Reduce source elements into global destination. -/
  | yred (o : BitVec 3) (h : BitVec 4)
  /-- YADD (R344): Fire-and-forget atomic add. -/
  | yadd (w : BitVec 1) (h : BitVec 4)
  /-- LRET (R387): Mark a live sequence pending with a cause. -/
  | lret (c : BitVec 3)
  /-- LHOLD (R388): Set or clear HOLD. -/
  | lhold (h : BitVec 1)
  /-- LSTAT (R389): Write a partition-context status record. -/
  | lstat (h : BitVec 4)
  /-- LSEQ (R389): Write a copy of a sequence entry. -/
  | lseq (h : BitVec 4)
  /-- ENG_NOP (R45): Engine no-op. -/
  | engNop
  /-- ENG_DUP (R45): Duplicate top of stack. -/
  | engDup
  /-- ENG_DROP (R45): Drop top of stack. -/
  | engDrop
  /-- ENG_SWAP (R45): Swap top two entries. -/
  | engSwap
  /-- ENG_OVER (R45): Copy second entry to top. -/
  | engOver
  /-- ENG_CAT (R45): Concatenate hi and lo as hi*32768+lo. -/
  | engCat
  /-- ENG_ADD (R45): Add top two entries. -/
  | engAdd
  /-- ENG_SUB (R45): Subtract top two entries. -/
  | engSub
  /-- ENG_MUL (R45): Multiply top two entries. -/
  | engMul
  /-- ENG_AND (R45): And top two entries. -/
  | engAnd
  /-- ENG_OR (R45): Or top two entries. -/
  | engOr
  /-- MSWP (R232): Exchange active and shadow field sets. -/
  | mswp
  /-- MCPY (R232): Copy active set to shadow. -/
  | mcpy
  /-- MRST (R232): Reset both field sets. -/
  | mrst
  /-- MGEO (R232): Set M, N, K. -/
  | mgeo
  /-- MSRA (R232): Set A generator bases. -/
  | msra
  /-- MSRB (R232): Set B generator bases. -/
  | msrb
  /-- MDST (R232): Set C generator bases. -/
  | mdst
  /-- MSSR (R232): Set scale-row generator bases. -/
  | mssr
  /-- MBSF (R232): Set BSA and BSB. -/
  | mbsf
  /-- MTSC (R232): Set tensor scales TSA, TSB. -/
  | mtsc
  /-- MZERO (R234): Launch zeroing of an accumulator rectangle. -/
  | mzero
  /-- MSAVE (R240): Save accumulator and field sets to the owner's area. -/
  | msave
  /-- MLOAD (R240): Restore or reset accumulator for the sender and take ownership. -/
  | mload
  /-- MGCLR (R268): Clear all side-path group fields. -/
  | mgclr
  /-- MSAR (R268): Set alpha row. -/
  | msar
  /-- MSDB (R268): Set SD and SK bases. -/
  | msdb
  /-- FREL (R256): Release the pins of a named fetch. -/
  | frel
  /-- FDROP (R256): Release pins of every unreleased fetch of the context. -/
  | fdrop
  /-- WREL (R315): Return the task's permit now. -/
  | wrel
  /-- WSTOP (R316): Stop the walk in every cluster. -/
  | wstop
  /-- WDRAIN (R317): Drain the launch as at time-slice end. -/
  | wdrain
  /-- CCOPY (R354): Copy n bytes. -/
  | ccopy (s d : BitVec 4)
  /-- C2D (R355): Strided block copy. -/
  | c2d (s d : BitVec 4)
  /-- CFILL (R356): Fill with a repeating pattern. -/
  | cfill (d : BitVec 4)
  /-- CGATH (R357): Gather elements by index list. -/
  | cgath (s d : BitVec 4)
  /-- CSCAT (R357): Scatter elements by index list. -/
  | cscat (s d : BitVec 4)
  /-- CZIP (R359): Compress a dense vector into a Z-form stream. -/
  | czip (s d : BitVec 4)
  /-- CUNZ (R360): Expand a Z-form stream. -/
  | cunz (s d : BitVec 4)
  /-- CDF (R362): Decompress-and-fence into the dense view. -/
  | cdf (s d : BitVec 4)
  /-- CRPUT (R365): Send bytes to a remote module. -/
  | crput (s : BitVec 4)
  /-- CRGET (R366): Read bytes from a remote module. -/
  | crget (d : BitVec 4)
  /-- CRRED (R367): Reduce elements into remote memory. -/
  | crred (s : BitVec 4)
  /-- LSTEP (R378): One serving step: retire, admit, build and post a batch entry. -/
  | lstep
  /-- MX_OPERATION_COMPLETE (R230): A matrix operation finishes its steps, side correction and epilogue and counts; the next queued one starts. -/
  | mxOperationComplete
  /-- FETCH_PINS_TAKEN (R253): A fetch waiting for the 16-fetch limit takes its pins when one releases. -/
  | fetchPinsTaken (ctx : Nat)
  /-- FETCH_COMPLETE (R257): A fetch writes its last tile row or ends by fault, and counts. -/
  | fetchComplete (ctx : Nat)
  /-- FETCH_RELEASE (R255): A fetch releases its pins when its release condition is met, adding the operands-consumed arrival. -/
  | fetchRelease (ctx num : Nat)
  /-- FWARM_COMPLETE (R257): Warming fetch completes when its span is resident. -/
  | fwarmComplete (ctx : Nat)
  /-- ADAPTER_ACTION (R276): An adapter operation takes effect at its place in adapter order, writes its record and completes. -/
  | adapterAction (ctx : Nat)
  /-- LOCAL_WALK_COMPLETE (R314): Every task of a local walk has ended; the wlaunch completes and arrives. -/
  | localWalkComplete (walk : Nat)
  /-- SY_OPERATION_COMPLETE (R343): A sync-engine operation finishes and counts its arrival and sequence number. -/
  | syOperationComplete (ctx : Nat)
  /-- COPY_OPERATION_START (R346): A copy operation starts once the context's earlier operation completed and its scoreboard ranges are taken. -/
  | copyOperationStart (eng ctx : Nat)
  /-- COPY_OPERATION_COMPLETE (R352): A copy operation finishes or faults, counts its bytes and arrival, and releases ranges. -/
  | copyOperationComplete (eng ctx : Nat)
  /-- LSTEP_RESUME (R381): A waiting lstep resumes when its batch ring index becomes free and posts. -/
  | lstepResume (part : Nat)
  /-- RETIRE_RECORD (R386): A vstop retire record marks a live sequence pending. -/
  | retireRecord
  /-- LLCMD (R371): Host write delivering one command to ll from a host context. -/
  | llcmd (part port : Nat) (words : BitVec 64)
  /-- RESULT_LANDING (R99): A fixed-latency result lands at its schedule cycle and enters the latches. -/
  | resultLanding (slot : Bool)
  /-- LOAD_RETURN (R141): An interlocked load's value is bound and written. -/
  | loadReturn (slot : Bool) (idx : Nat) (fresh : Bool)
  /-- STORE_PERFORMED (R140): A store leaves the store queue into the cache or scratchpad. -/
  | storePerformed (slot : Bool)
  /-- VECTOR_COMPLETE (R189): A vector instruction completes its writes, loads and store entries. -/
  | vectorComplete (slot : Bool)
  /-- FETCH_FILL (R170): An instruction-line fill returns its sectors. -/
  | fetchFill (slot : Bool) (line : Nat)
  /-- ASYNC_ENTRY (R133): A held asynchronous cause is delivered at a boundary with EMASK clear. -/
  | asyncEntry
  /-- URGENT_PREEMPTION_REQUEST (R38): A request to stop a context at its next iteration boundary reaches the core. -/
  | urgentPreemptionRequest (slot : Bool)
  /-- PREEMPTLATE (R38): No boundary within 65,536 cycles of the request; fault and stop. -/
  | preemptlate (slot : Bool)
  /-- CONTEXT_SAVE (R93): After command queues drain, a stopped context is written to its save image. -/
  | contextSave (slot : Bool)
  /-- CONTEXT_RESTORE (R93): A saved context is restored into a slot, moving the accumulator if held elsewhere. -/
  | contextRestore (slot : Bool) (ctx : Nat)
  /-- TASK_END_COUNTED (R136): A task counts as ended once its engine operations and stores are done. -/
  | taskEndCounted (launch task : Nat) (byFault : Bool)
  /-- QUEUE_NOTIFY (R29): Doorbell write updating a region queue's tail. -/
  | queueNotify (part queue : Nat) (tail : BitVec 64)
  /-- QUEUE_SLOT_RELEASE (R34): A hardware queue slot frees and passes to the highest pending queue. -/
  | queueSlotRelease (qslot : Nat)
  /-- LAUNCH_ACTIVATION (R25): The dispatcher takes a ring entry, resolves inheritance and clamps. -/
  | launchActivation (qslot : Nat)
  /-- DEPENDENCES_MET (R33): All four dependences met; the launch leaves waiting with acquire. -/
  | dependencesMet (launch : Nat)
  /-- TIME_SLICE_END (R38): A partition's hold on a cluster reaches its slice and launches are drained. -/
  | timeSliceEnd (part : Nat)
  /-- LAUNCH_RETIREMENT (R40): Walk finished and tasks ended; PROGRESS, DONEB arrival, DONE and STATE updated. -/
  | launchRetirement (launch : Nat)
  /-- WICK_TAKE_LAUNCH (R291): A Wick takes a launch into a record slot and checks the nest record. -/
  | wickTakeLaunch (launch : Nat)
  /-- TASK_HAND_OFF (R298): The Wick hands a task to a core with a free permit. -/
  | taskHandOff
  /-- CLAIM_GRANT (R294): A claim reaches the home Wick and is granted the next task number. -/
  | claimGrant (launch cluster : Nat)
  /-- GANG_HAND_OFF (R300): Gang tasks are placed straight into reserved slots. -/
  | gangHandOff (launch : Nat)
  /-- TASK_START (R297): A queued task starts in an empty context slot with its indices. -/
  | taskStart (slot : Bool)
  /-- DRAIN_COMPLETE (R302): Drain's handed tasks have ended; WSAVE written and launch pre-empted. -/
  | drainComplete (launch : Nat)
  /-- ARRIVAL (R323): An arrival reaches a barrier object's home engine and settles it. -/
  | arrival (addr bytes : Nat) (poison : Bool) (src : ArrSrc)
  /-- CHILD_FLIP (R324): A parent's flip reaches a child and flips it and its children. -/
  | childFlip (child phase : Nat) (poison : Bool)
  /-- RING_SPAN_APPLIED (R338): A pending rpost or rfree is applied when its turn comes. -/
  | ringSpanApplied (idx : Nat)
  /-- WAIT_SATISFIED (R340): A waiting bwait, rwfill or rwfree finds its condition met and issues. -/
  | waitSatisfied (slot : Bool)
  /-- SYNC_SRAM_ERROR (R320): An uncorrectable error spoils a sync block. -/
  | syncSramError (addr : Nat)
  /-- HOME_READ (R393): A read request at a home slice, answered or forwarded. -/
  | homeRead (word from_ : Nat)
  /-- HOME_REGISTRATION (R393): A registration recorded at the home, with ack and revoke. -/
  | homeRegistration (word from_ : Nat) (mask : BitVec 4) (data : BitVec 32)
  /-- HOME_WRITE_BACK (R393): A write-back handled at the home. -/
  | homeWriteBack (word from_ : Nat) (data : BitVec 32)
  /-- FORWARDED_READ (R394): A core answers a forwarded read by its word state. -/
  | forwardedRead (word for_ : Nat)
  /-- REVOKE (R394): A core answers a revoke by sending its value. -/
  | revoke (word goal : Nat)
  /-- REGISTRATION_ACK (R394): Acknowledgement and revoked value arrive; a P word merges and becomes R. -/
  | registrationAck (word : Nat) (data : BitVec 32)
  /-- LINE_EVICTION (R392): An R word is evicted to the write-back buffer. -/
  | lineEviction (word : Nat)
  /-- HOST_ACCESS (R398): A host read or write of device memory at the home. -/
  | hostAccess (port addr : Nat) (write : Bool) (data : List (BitVec 8))
  /-- HOST_LINE_WRITEBACK (R398): A host writes back or gives up a line a device write waits on. -/
  | hostLineWriteback (port line : Nat) (data : Option (List (BitVec 8)))
  /-- UNCORRECTABLE_ERROR (R407): An uncorrectable memory error sets POISON at the line's home. -/
  | uncorrectableError (line : Nat) (latent : Bool)
  /-- SDREQ (R405): Shootdown request written to the doorbell page. -/
  | sdreq (part : Nat) (v : BitVec 64)
  /-- SHOOTDOWN_COMPLETE (R406): A shootdown request completes and SDDONE rises. -/
  | shootdownComplete (part : Nat)
  /-- AGENT_DEAD (R412): Heartbeat misses reach the limit; the agent is fenced. -/
  | agentDead (module : Bool) (id : Nat)
  /-- SNUFFER_SCRUB (R413): Snuffer scrubs a dead host's directory entry, marking LOST. -/
  | snufferScrub (line : Nat)
  /-- PCTL (R419): Enable or disable a partition. -/
  | pctl (part : Nat) (v : BitVec 64)
  /-- PTBASE (R420): Set the partition's page-table base. -/
  | ptbase (part : Nat) (v : BitVec 64)
  /-- SWIN (R420): Set the partition's sync window. -/
  | swin (part : Nat) (v : BitVec 64)
  /-- SDESC (R369): Set the serving-descriptor register, resetting the partition context. -/
  | sdesc (part : Nat) (v : BitVec 64)
  /-- EVRING (R422): Set the event ring and restart numbering. -/
  | evring (part : Nat) (v : BitVec 64)
  /-- WAYMASK (R424): Change cache ways, starting the reclaim walker. -/
  | waymask (part : Nat) (v : BitVec 64)
  /-- RECLAIM_VISIT (R424): The reclaim walker visits one line in a changed way. -/
  | reclaimVisit (part line : Nat)
  /-- RECLAIM_COMPLETE (R424): Every slice has finished; RECL clears and ways change hands. -/
  | reclaimComplete (part : Nat)
  /-- RGO (R427): Start a partition resize with the RMASK value. -/
  | rgo (part : Nat) (v : BitVec 64)
  /-- CLUSTER_RELEASE (R427): A leaving cluster meets the release condition and is cleared. -/
  | clusterRelease (part cluster : Nat)
  /-- ICREQ (R421): Host request to discard instruction copies of a range. -/
  | icreq (part : Nat) (v : BitVec 64)
  /-- ICREQ_COMPLETE (R421): An instruction-copy discard completes and ICDONE rises. -/
  | icreqComplete (part : Nat)
  /-- ROLE_TO_MEMORY_ONLY (R429): ROLEREQ OP 0: begin draining a compute layer. -/
  | roleToMemoryOnly (layer : Nat)
  /-- ROLE_TO_COMPUTE (R429): ROLEREQ OP 1: power a memory-only layer. -/
  | roleToCompute (layer : Nat)
  /-- ROLE_CANCEL_DRAIN (R429): ROLEREQ OP 2: cancel a drain in progress. -/
  | roleCancelDrain (layer : Nat)
  /-- LAYER_DRAIN_END (R429): A draining layer's clusters are released; flush and power down. -/
  | layerDrainEnd (layer : Nat)
  /-- LAYER_POWER_UP_COMPLETE (R429): Islands powered; clusters cleared; layer becomes compute. -/
  | layerPowerUpComplete (layer : Nat)
  /-- DEAD (R412): Management write declaring a host or module dead. -/
  | dead (v : BitVec 64)
  /-- HATTACH (R437): Attach a fenced host port again. -/
  | hattach (v : BitVec 64)
  /-- MANAGEMENT_REGISTER_WRITE (R415): Write to a management register with no behaviour of its own. -/
  | managementRegisterWrite (off : Nat) (v : BitVec 64)
  /-- BW_INTERVAL (R426): Bandwidth interval: controllers publish OVER and clusters adjust rate levels. -/
  | bwInterval (queues : List (List Nat))
  /-- ISLAND_FREQUENCY_INTERVAL (R439): 100 µs interval adjusting island frequencies for heat and power. -/
  | islandFrequencyInterval (readings : List IslandReading) (watts : Nat)
  /-- HEARTBEAT_PERIOD (R436): Period expiry sending heartbeats and counting misses. -/
  | heartbeatPeriod
  /-- HOST_HEARTBEAT (R436): A host driver writes a heartbeat to its management function. -/
  | hostHeartbeat (port : Nat)
  /-- FLIT_DATA (R434): A data flit arrives on a link. -/
  | flitData (link : Nat) (flit : Flit)
  /-- FLIT_READ_REQUEST (R434): A remote read request flit arrives. -/
  | flitReadRequest (link : Nat) (flit : Flit)
  /-- FLIT_ACKNOWLEDGEMENT (R365): An acknowledgement flit counts remote bytes as performed. -/
  | flitAcknowledgement (link : Nat) (flit : Flit)
  /-- FLIT_BARRIER_ARRIVAL (R435): A remote child's upward arrival flit reaches the parent. -/
  | flitBarrierArrival (link : Nat) (flit : Flit)
  /-- FLIT_BARRIER_FLIP (R435): A flip flit reaches a remote child and flips it if its phase matches. -/
  | flitBarrierFlip (link : Nat) (flit : Flit)
  /-- FLIT_HEARTBEAT (R436): A heartbeat flit from a peer module arrives. -/
  | flitHeartbeat (link : Nat) (flit : Flit)
  /-- FLIT_REFUSAL (R433): A refusal flit ends the refused remote operation at its source. -/
  | flitRefusal (link : Nat) (flit : Flit)
  /-- BRING_UP (R440): Module start from flash image through training and role setting. -/
  | bringUp
  /-- RE_FLASH (R6): Management re-flash of the firmware image, restarting bring-up. -/
  | reFlash (image : Image)
  /-- EXPANSION_DEVICE_LOST (R438): A CXL memory device behind an expansion port stops responding and is fenced as a dead host is, so reads behind it fault HOSTLOST and stores are dropped. -/
  | expansionDeviceLost (port : Nat)
  /-- LINK_LOSS (R436): One Rilot link stops being trained and carrying flits; its LINKST bit clears and traffic moves to the remaining links without fencing. -/
  | linkLoss (link : Nat)
  /-- WRITE_BACK_ACKNOWLEDGEMENT (R393): The home's acknowledgement of a write-back reaches the core, ending the word's W state and freeing the write-back buffer. -/
  | writeBackAcknowledgement (word : Nat)
  /-- FLIT_CHECK_CODE_FAILURE (R434): A flit arrives failing its 128-bit check code, or of reserved kind or wrong destination, and is sent again or dropped. -/
  | flitCheckCodeFailure (link : Nat) (flit : Flit)
  /-- RESERVED_ENCODING (R109): Issue of an instruction word with a reserved major or unassigned function, such as the all-zero word, faults ILLOP. -/
  | reservedEncoding (w : BitVec 32)
  /-- UNASSIGNED_ENGINE_OPCODE (R44): An operation word whose opcode its engine does not assign ends the command with EOPX. -/
  | unassignedEngineOpcode (w : BitVec 16)
  deriving DecidableEq, Repr

end Sys2Proof
end

