-- ==== Sys2Proof/WellFormed.lean ====
section
/-! DEFINITION. The static checks of R108 steps 2 and 3: which encodings fault ILLOP or ILLOPD by their fields alone,
and the operand positions, length, stall count and exposed latency of every sequencer instruction. -/

namespace Sys2Proof

/-- R94: codes an operand position may read. -/
def readable (c : Code) : Bool := c.toNat < 43 || (44 ≤ c.toNat && c.toNat < 50)

/-- R94: codes an operand position may write. -/
def writable (c : Code) : Bool := c.toNat < 40 || c = zeroCode

/-- One operand field of a sequencer instruction, in encoding order d, a, b, and how it is used. -/
inductive Field where
  /-- A code that is read. -/
  | r (c : Code)
  /-- A code that is written. -/
  | w (c : Code)
  /-- A code read at issue and then written (R111 `sel`, R115 `fma`, R330). -/
  | rw (c : Code)
  /-- R333: an even main-file register, read with its successor, then written. -/
  | pair (c : Code)
  /-- A handle-slot or slot number, 0 to 15 (R125, R148). -/
  | slot (c : Code)
  /-- A vector register name, with its repeat code: name plus repetitions stays within 31 (R196). -/
  | v (c : BitVec 5) (ms : BitVec 2)
  /-- A predicate name, with its repeat code (R183, R199). -/
  | p (c : BitVec 5) (ms : BitVec 2)
  /-- A main-file register written by a vector instruction (R187). -/
  | x (c : BitVec 5)
  /-- A three-bit field that must hold 0 (R192: pg of an instruction that reads no predicate). -/
  | z3 (c : BitVec 3)
  deriving DecidableEq, Repr

/-- R192: the number of repetitions a repeat code names. -/
def reps (ms : BitVec 2) : Nat := 2 ^ ms.toNat

/-- R108 step 3: the field's value when it may not stand there. -/
def Field.bad : Field → Option Dword
  | .r c => if readable c then none else some (zext64 c)
  | .w c => if writable c then none else some (zext64 c)
  | .rw c => if readable c && writable c then none else some (zext64 c)
  | .pair c => if c.toNat < 32 && c.toNat % 2 = 0 then none else some (zext64 c)
  | .slot c => if c.toNat < 16 then none else some (zext64 c)
  | .v c ms => if c.toNat + reps ms ≤ 32 then none else some (zext64 c)
  | .p c ms => if c.toNat + reps ms ≤ 8 then none else some (zext64 c)
  | .x _ => none
  | .z3 c => if c = 0#3 then none else some (zext64 c)

/-- The code a field reads, if it reads a register. -/
def Field.reads : Field → List Code
  | .r c => [c]
  | .rw c => [c]
  | .pair c => [c, c + 1#6]
  | _ => []

/-- The code a field writes, if it writes a register of the operand codes. -/
def Field.writes : Field → List Code
  | .w c => [c]
  | .rw c => [c]
  | .pair c => [c]
  | .x c => [c.zeroExtend 6]
  | _ => []

/-- What a sequencer instruction's fields say before it runs. -/
structure Shape where
  /-- R107: the stall count S. -/
  stall : BitVec 2
  /-- R107: its length in 32-bit words. -/
  words : Nat
  /-- R101: the exposed latency of its fixed-latency result; 0 when it has none. -/
  lat : Nat
  /-- R108 step 2 fails on the fields alone. -/
  illop : Bool
  /-- The operand fields in the order d, a, b. -/
  fields : List Field
  /-- R184: it carries o0 and o1. -/
  vector : Bool
  deriving DecidableEq, Repr

/-- A one-word instruction with a fixed-latency result. -/
def alu (s : BitVec 2) (lat : Nat) (fs : List Field) : Shape := ⟨s, 1, lat, false, fs, false⟩
/-- A one-word instruction without a fixed-latency result. -/
def plain (s : BitVec 2) (fs : List Field) : Shape := ⟨s, 1, 0, false, fs, false⟩
/-- A one-word instruction whose result is interlocked (R99). -/
def load (s : BitVec 2) (fs : List Field) : Shape := ⟨s, 1, 0, false, fs, false⟩
/-- A two-word instruction (R107, majors 0x30 to 0x33); the register forms have latency 1 (R101). -/
def long (s : BitVec 2) (fs : List Field) : Shape := ⟨s, 2, if fs.isEmpty then 0 else 1, false, fs, false⟩
/-- A vector instruction (R184, R187). -/
def vec (s : BitVec 2) (fs : List Field) : Shape := ⟨s, 1, 0, false, fs, true⟩
/-- The same shape, faulting ILLOP when the condition holds. -/
def Shape.orIllop (sh : Shape) (b : Bool) : Shape := { sh with illop := sh.illop || b }

/-- R101: `fdiv` and `fsqrt` take 20 cycles for `.f64`, 12 for `.f32` and 8 for `.f16` and `.bf16` (type code of R115). -/
def divLat (t : BitVec 2) : Nat := if t = 0#2 then 20 else if t = 1#2 then 12 else 8

/-- A static failure of R108. -/
inductive StaticFault where
  /-- Step 2. -/
  | illop
  /-- Step 3, with the offending field's value. -/
  | illopd (v : Dword)
  deriving DecidableEq, Repr

/-- R108 steps 2 and 3, in order. -/
def Shape.fault (sh : Shape) : Option StaticFault :=
  if sh.illop then some .illop
  else (sh.fields.findSome? Field.bad).map .illopd

/-- R96: the register codes an instruction reads, in the order a, b, d. -/
def Shape.readCodes (sh : Shape) : List Code :=
  match sh.fields with
  | .rw d :: rest => rest.flatMap Field.reads ++ [d]
  | .pair d :: rest => rest.flatMap Field.reads ++ [d, d + 1#6]
  | .r d :: .slot _ :: rest => rest.flatMap Field.reads ++ [d]
  | fs => fs.flatMap Field.reads ++ (if sh.vector then [32#6, 33#6] else [])

/-- The register codes an instruction writes. -/
def Shape.writeCodes (sh : Shape) : List Code := sh.fields.flatMap Field.writes

/-- The shape of a sequencer instruction; none for engine words and events. disp18 of `loop` is read as signed, so that bit 17 gives ILLOP
(R121; DESIGN CHOICE, log 108). -/
def Instr.shape : Instr → Option Shape
  | .add s d a b => some (alu s 1 [.w d, .r a, .r b])
  | .sub s d a b => some (alu s 1 [.w d, .r a, .r b])
  | .and s d a b => some (alu s 1 [.w d, .r a, .r b])
  | .or s d a b => some (alu s 1 [.w d, .r a, .r b])
  | .xor s d a b => some (alu s 1 [.w d, .r a, .r b])
  | .andn s d a b => some (alu s 1 [.w d, .r a, .r b])
  | .shl s d a b => some (alu s 1 [.w d, .r a, .r b])
  | .shr s d a b => some (alu s 1 [.w d, .r a, .r b])
  | .sra s d a b => some (alu s 1 [.w d, .r a, .r b])
  | .rotr s d a b => some (alu s 1 [.w d, .r a, .r b])
  | .min s d a b => some (alu s 1 [.w d, .r a, .r b])
  | .max s d a b => some (alu s 1 [.w d, .r a, .r b])
  | .minn s d a b => some (alu s 1 [.w d, .r a, .r b])
  | .maxn s d a b => some (alu s 1 [.w d, .r a, .r b])
  | .seq s d a b => some (alu s 1 [.w d, .r a, .r b])
  | .sne s d a b => some (alu s 1 [.w d, .r a, .r b])
  | .slt s d a b => some (alu s 1 [.w d, .r a, .r b])
  | .sltn s d a b => some (alu s 1 [.w d, .r a, .r b])
  | .sle s d a b => some (alu s 1 [.w d, .r a, .r b])
  | .slen s d a b => some (alu s 1 [.w d, .r a, .r b])
  | .adds s d a b => some (alu s 1 [.w d, .r a, .r b])
  | .subs s d a b => some (alu s 1 [.w d, .r a, .r b])
  | .clz s d a => some (alu s 1 [.w d, .r a])
  | .ctz s d a => some (alu s 1 [.w d, .r a])
  | .popc s d a => some (alu s 1 [.w d, .r a])
  | .bswap s d a => some (alu s 1 [.w d, .r a])
  | .sxb s d a => some (alu s 1 [.w d, .r a])
  | .sxh s d a => some (alu s 1 [.w d, .r a])
  | .sxw s d a => some (alu s 1 [.w d, .r a])
  | .zxb s d a => some (alu s 1 [.w d, .r a])
  | .zxh s d a => some (alu s 1 [.w d, .r a])
  | .zxw s d a => some (alu s 1 [.w d, .r a])
  | .sel s d a b => some (alu s 1 [.rw d, .r a, .r b])
  | .addi s d a _ => some (alu s 1 [.w d, .r a])
  | .andi s d a _ => some (alu s 1 [.w d, .r a])
  | .ori s d a _ => some (alu s 1 [.w d, .r a])
  | .xori s d a _ => some (alu s 1 [.w d, .r a])
  | .shli s d a _ => some (alu s 1 [.w d, .r a])
  | .shri s d a _ => some (alu s 1 [.w d, .r a])
  | .srai s d a _ => some (alu s 1 [.w d, .r a])
  | .slti s d a _ => some (alu s 1 [.w d, .r a])
  | .sltni s d a _ => some (alu s 1 [.w d, .r a])
  | .li s d _ => some (long s [.w d])
  | .lhi s d a _ => some (long s [.w d, .r a])
  | .addl s d a _ => some (long s [.w d, .r a])
  | .mul s d a b => some (alu s 3 [.w d, .r a, .r b])
  | .mulh s d a b => some (alu s 4 [.w d, .r a, .r b])
  | .mulhn s d a b => some (alu s 4 [.w d, .r a, .r b])
  | .div s d a b => some (alu s 16 [.w d, .r a, .r b])
  | .divn s d a b => some (alu s 16 [.w d, .r a, .r b])
  | .rem s d a b => some (alu s 16 [.w d, .r a, .r b])
  | .remn s d a b => some (alu s 16 [.w d, .r a, .r b])
  | .fadd s _ d a b r => some ((alu s 4 [.w d, .r a, .r b]).orIllop (5 ≤ r.toNat))
  | .fsub s _ d a b r => some ((alu s 4 [.w d, .r a, .r b]).orIllop (5 ≤ r.toNat))
  | .fmul s _ d a b r => some ((alu s 4 [.w d, .r a, .r b]).orIllop (5 ≤ r.toNat))
  | .fdiv s t d a b r => some ((alu s (divLat t) [.w d, .r a, .r b]).orIllop (5 ≤ r.toNat))
  | .fsqrt s t d a r => some ((alu s (divLat t) [.w d, .r a]).orIllop (5 ≤ r.toNat))
  | .fmin s _ d a b => some (alu s 4 [.w d, .r a, .r b])
  | .fmax s _ d a b => some (alu s 4 [.w d, .r a, .r b])
  | .fma s _ d a b r => some ((alu s 5 [.rw d, .r a, .r b]).orIllop (5 ≤ r.toNat))
  | .feq s d a b _ => some (alu s 2 [.w d, .r a, .r b])
  | .flt s d a b _ => some (alu s 2 [.w d, .r a, .r b])
  | .fle s d a b _ => some (alu s 2 [.w d, .r a, .r b])
  | .fun s d a b _ => some (alu s 2 [.w d, .r a, .r b])
  | .fclass s d a _ => some (alu s 2 [.w d, .r a])
  | .fneg s d a _ => some (alu s 1 [.w d, .r a])
  | .fabs s d a _ => some (alu s 1 [.w d, .r a])
  | .cvt s d a e u r => some ((alu s 3 [.w d, .r a]).orIllop (5 ≤ r.toNat || e.toNat = 15 || u.toNat = 15))
  | .br s _ => some (plain s [])
  | .beqz s a _ => some (plain s [.r a])
  | .bnez s a _ => some (plain s [.r a])
  | .bltz s a _ => some (plain s [.r a])
  | .bgez s a _ => some (plain s [.r a])
  | .bgtz s a _ => some (plain s [.r a])
  | .blez s a _ => some (plain s [.r a])
  | .call s a _ => some (alu s 1 [.w a])
  | .jr s a => some (plain s [.r a])
  | .jalr s d a => some (alu s 1 [.w d, .r a])
  | .loop s a i => some ((plain s [.r a]).orIllop (i.toInt ≤ 0))
  | .endl s => some (plain s [])
  | .yield s => some (plain s [])
  | .eret s => some (plain s [])
  | .tend s => some (plain s [])
  | .hget s d n => some (alu s 1 [.w d, .slot n])
  | .nop s => some (plain s [])
  | .lexit s => some (plain s [])
  | .sget s d i => some ((alu s 1 [.w d]).orIllop (0x15 ≤ i.toNat))
  | .sset s a i => some ((plain s [.r a]).orIllop (0x15 ≤ i.toNat || i.toNat = 0 || i.toNat = 0xF))
  | .hset s d a _ => some (plain s [.slot d, .r a])
  | .trap s _ => some (plain s [])
  | .xsendi s e _ _ => some ((long s []).orIllop (8 ≤ e.toNat))
  | .xsend s e a b => some ((plain s [.r a, .r b]).orIllop (8 ≤ e.toNat))
  | .xsendw s e a b => some ((plain s [.r a, .r b]).orIllop (8 ≤ e.toNat))
  | .xseq s e a => some ((alu s 1 [.w a]).orIllop (8 ≤ e.toNat))
  | .xwait s e a => some ((plain s [.r a]).orIllop (8 ≤ e.toNat))
  | .xsendm s e a _ _ => some ((plain s [.r a]).orIllop (8 ≤ e.toNat))
  | .ldI64 s d a _ _ => some (load s [.w d, .r a])
  | .ldI32 s d a _ _ => some (load s [.w d, .r a])
  | .stI64 s d a _ _ => some (plain s [.r d, .r a])
  | .stI32 s d a _ _ => some (plain s [.r d, .r a])
  | .ldI8 s d n b => some (load s [.w d, .slot n, .r b])
  | .ldN8 s d n b => some (load s [.w d, .slot n, .r b])
  | .ldI16 s d n b => some (load s [.w d, .slot n, .r b])
  | .ldN16 s d n b => some (load s [.w d, .slot n, .r b])
  | .ldI32Reg s d n b => some (load s [.w d, .slot n, .r b])
  | .ldN32 s d n b => some (load s [.w d, .slot n, .r b])
  | .ldI64Reg s d n b => some (load s [.w d, .slot n, .r b])
  | .stI8 s d n b => some (plain s [.r d, .slot n, .r b])
  | .stI16 s d n b => some (plain s [.r d, .slot n, .r b])
  | .stI32Reg s d n b => some (plain s [.r d, .slot n, .r b])
  | .stI64Reg s d n b => some (plain s [.r d, .slot n, .r b])
  | .ldAcqN32 s d n b c => some ((load s [.w d, .slot n, .r b]).orIllop (5 ≤ c.toNat))
  | .ldAcqI64 s d n b c => some ((load s [.w d, .slot n, .r b]).orIllop (5 ≤ c.toNat))
  | .stRelI32 s d n b c => some ((plain s [.r d, .slot n, .r b]).orIllop (5 ≤ c.toNat))
  | .stRelI64 s d n b c => some ((plain s [.r d, .slot n, .r b]).orIllop (5 ≤ c.toNat))
  | .mark s c => some ((plain s []).orIllop (5 ≤ c.toNat))
  | .pfDc s n b => some (plain s [.slot n, .r b])
  | .pfLlc s n b => some (plain s [.slot n, .r b])
  | .dld s d n b t _ => some ((load s [.w d, .slot n, .r b]).orIllop (5 ≤ t.toNat))
  | .dst s d n b t r => some ((plain s [.r d, .slot n, .r b]).orIllop (5 ≤ t.toNat || 5 ≤ r.toNat || (3 ≤ t.toNat && r.toNat ≠ 0)))
  | .tld s d n b _ => some (plain s [.r d, .slot n, .r b])
  | .tst s d n b _ => some (plain s [.r d, .slot n, .r b])
  | .cpub s d n b c => some ((plain s [.r d, .slot n, .r b]).orIllop (5 ≤ c.toNat))
  | .cinv s d n b c => some ((plain s [.r d, .slot n, .r b]).orIllop (5 ≤ c.toNat))
  | .ifence s => some (plain s [])
  | .cprobe s d a _ _ => some (load s [.w d, .r a])
  | .aswp s d n b _ => some (load s [.rw d, .slot n, .r b])
  | .aadd s d n b _ => some (load s [.rw d, .slot n, .r b])
  | .aand s d n b _ => some (load s [.rw d, .slot n, .r b])
  | .aor s d n b _ => some (load s [.rw d, .slot n, .r b])
  | .axor s d n b _ => some (load s [.rw d, .slot n, .r b])
  | .amin s d n b _ => some (load s [.rw d, .slot n, .r b])
  | .amax s d n b _ => some (load s [.rw d, .slot n, .r b])
  | .aminn s d n b _ => some (load s [.rw d, .slot n, .r b])
  | .amaxn s d n b _ => some (load s [.rw d, .slot n, .r b])
  | .acas s d n b _ => some (load s [.pair d, .slot n, .r b])
  | .afadd s d n b _ => some (load s [.rw d, .slot n, .r b])
  | .barrive s d n b => some (plain s [.r d, .slot n, .r b])
  | .bwait s d n b => some (load s [.rw d, .slot n, .r b])
  | .btest s d n b => some (load s [.rw d, .slot n, .r b])
  | .rres s d n b => some (load s [.rw d, .slot n, .r b])
  | .rpost s d n b => some (plain s [.r d, .slot n, .r b])
  | .rwfree s d n b => some (plain s [.r d, .slot n, .r b])
  | .rtfree s d n b => some (load s [.rw d, .slot n, .r b])
  | .rtake s d n b => some (load s [.rw d, .slot n, .r b])
  | .rfree s d n b => some (plain s [.r d, .slot n, .r b])
  | .rwfill s d n b => some (plain s [.r d, .slot n, .r b])
  | .rtfill s d n b => some (load s [.rw d, .slot n, .r b])
  | .vadd s d a b _ m => some (vec s [.v d m, .v a m, .v b m])
  | .vsub s d a b _ m => some (vec s [.v d m, .v a m, .v b m])
  | .vmul s d a b _ m => some (vec s [.v d m, .v a m, .v b m])
  | .vfma s d a b _ m => some (vec s [.v d m, .v a m, .v b m])
  | .vmin s d a b _ m => some (vec s [.v d m, .v a m, .v b m])
  | .vmax s d a b _ m => some (vec s [.v d m, .v a m, .v b m])
  | .vdiv s d a b _ m => some (vec s [.v d m, .v a m, .v b m])
  | .vsqrt s d a _ m => some (vec s [.v d m, .v a m])
  | .vexp2 s d a _ m => some (vec s [.v d m, .v a m])
  | .vneg s d a _ m => some (vec s [.v d m, .v a m])
  | .vabs s d a _ m => some (vec s [.v d m, .v a m])
  | .vcvt s d a _ m => some (vec s [.v d m, .v a m])
  | .vmulh s d a b _ m => some (vec s [.v d m, .v a m, .v b m])
  | .vdotb s d a b p => some (vec s [.x d, .v a 0#2, .v b 0#2, .z3 p])
  | .vqe8 s d a _ => some (vec s [.v d 0#2, .v a 0#2])
  | .vqn4 s d a _ => some (vec s [.v d 0#2, .v a 0#2])
  | .vand s d a b _ m => some (vec s [.v d m, .v a m, .v b m])
  | .vor s d a b _ m => some (vec s [.v d m, .v a m, .v b m])
  | .vxor s d a b _ m => some (vec s [.v d m, .v a m, .v b m])
  | .vandn s d a b _ m => some (vec s [.v d m, .v a m, .v b m])
  | .vshl s d a b _ m => some (vec s [.v d m, .v a m, .v b m])
  | .vshr s d a b _ m => some (vec s [.v d m, .v a m, .v b m])
  | .vsra s d a b _ m => some (vec s [.v d m, .v a m, .v b m])
  | .vclz s d a _ m => some (vec s [.v d m, .v a m])
  | .vpopc s d a _ m => some (vec s [.v d m, .v a m])
  | .vceq s d a b _ m => some (vec s [.p d m, .v a m, .v b m])
  | .vclt s d a b _ m => some (vec s [.p d m, .v a m, .v b m])
  | .vcle s d a b _ m => some (vec s [.p d m, .v a m, .v b m])
  | .vcun s d a b _ m => some (vec s [.p d m, .v a m, .v b m])
  | .vsel s d a b _ m => some (vec s [.v d m, .v a m, .v b m])
  | .pand s d a b => some (vec s [.p d 0#2, .p a 0#2, .p b 0#2])
  | .por s d a b => some (vec s [.p d 0#2, .p a 0#2, .p b 0#2])
  | .pxor s d a b => some (vec s [.p d 0#2, .p a 0#2, .p b 0#2])
  | .pandn s d a b => some (vec s [.p d 0#2, .p a 0#2, .p b 0#2])
  | .pnor s d a b => some (vec s [.p d 0#2, .p a 0#2, .p b 0#2])
  | .pnand s d a b => some (vec s [.p d 0#2, .p a 0#2, .p b 0#2])
  | .pnot s d a => some (vec s [.p d 0#2, .p a 0#2])
  | .pfill s d => some (vec s [.p d 0#2])
  | .vpcnt s d a => some (vec s [.x d, .p a 0#2])
  | .vplo s d a => some (vec s [.x d, .p a 0#2])
  | .vphi s d a => some (vec s [.x d, .p a 0#2])
  | .vmov s d a _ m => some (vec s [.v d m, .v a m])
  | .vbcast s d _ m => some (vec s [.v d m])
  | .viota s d _ m => some (vec s [.v d m])
  | .vmovx s d a p => some (vec s [.x d, .v a 0#2, .z3 p])
  | .vperm s d a b _ m => some (vec s [.v d m, .v a m, .v b m])
  | .vslide s d a b _ m => some (vec s [.v d m, .v a m, .v b m])
  | .vcompress s d a _ => some (vec s [.v d 0#2, .v a 0#2])
  | .vexpand s d a _ => some (vec s [.v d 0#2, .v a 0#2])
  | .vred s d a _ m => some (vec s [.v d m, .v a m])
  | .vscan s d a _ m => some (vec s [.v d m, .v a m])
  | .vmatch s d a b _ => some (vec s [.v d 0#2, .v a 0#2, .v b 0#2])
  | .vstop s d a b _ => some (vec s [.p d 0#2, .v a 0#2, .v b 0#2])
  | .vfence s => some (vec s [])
  | .vld s d _ m => some (vec s [.v d m])
  | .vst s d _ m => some (vec s [.v d m])
  | .vldg s d b _ => some (vec s [.v d 0#2, .v b 0#2])
  | .vstg s d b _ => some (vec s [.v d 0#2, .v b 0#2])
  | .engPush _ => none
  | .engLit8 _ => none
  | .engShl _ => none
  | .engPick _ => none
  | .mset _ => none
  | .mfmt _ _ => none
  | .mtr _ => none
  | .mcos _ => none
  | .mlev _ => none
  | .mstr _ => none
  | .mepi _ => none
  | .mgo _ => none
  | .mstat _ => none
  | .mgrp _ => none
  | .msfm _ => none
  | .msds _ => none
  | .fget _ _ _ => none
  | .fwarm _ => none
  | .aget _ _ => none
  | .apin _ _ => none
  | .aunpin _ => none
  | .aalloc _ => none
  | .apub _ => none
  | .aabort _ => none
  | .wclaim _ => none
  | .wstat _ => none
  | .wlaunch _ => none
  | .yarv _ => none
  | .yred _ _ => none
  | .yadd _ _ => none
  | .lret _ => none
  | .lhold _ => none
  | .lstat _ => none
  | .lseq _ => none
  | .engNop => none
  | .engDup => none
  | .engDrop => none
  | .engSwap => none
  | .engOver => none
  | .engCat => none
  | .engAdd => none
  | .engSub => none
  | .engMul => none
  | .engAnd => none
  | .engOr => none
  | .mswp => none
  | .mcpy => none
  | .mrst => none
  | .mgeo => none
  | .msra => none
  | .msrb => none
  | .mdst => none
  | .mssr => none
  | .mbsf => none
  | .mtsc => none
  | .mzero => none
  | .msave => none
  | .mload => none
  | .mgclr => none
  | .msar => none
  | .msdb => none
  | .frel => none
  | .fdrop => none
  | .wrel => none
  | .wstop => none
  | .wdrain => none
  | .ccopy _ _ => none
  | .c2d _ _ => none
  | .cfill _ => none
  | .cgath _ _ => none
  | .cscat _ _ => none
  | .czip _ _ => none
  | .cunz _ _ => none
  | .cdf _ _ => none
  | .crput _ => none
  | .crget _ => none
  | .crred _ => none
  | .lstep => none
  | .mxOperationComplete => none
  | .fetchPinsTaken _ => none
  | .fetchComplete _ => none
  | .fetchRelease _ _ => none
  | .fwarmComplete _ => none
  | .adapterAction _ => none
  | .localWalkComplete _ => none
  | .syOperationComplete _ => none
  | .copyOperationStart _ _ => none
  | .copyOperationComplete _ _ => none
  | .lstepResume _ => none
  | .retireRecord => none
  | .llcmd _ _ _ => none
  | .resultLanding _ => none
  | .loadReturn _ _ _ => none
  | .storePerformed _ => none
  | .vectorComplete _ => none
  | .fetchFill _ _ => none
  | .asyncEntry => none
  | .urgentPreemptionRequest _ => none
  | .preemptlate _ => none
  | .contextSave _ => none
  | .contextRestore _ _ => none
  | .taskEndCounted _ _ _ => none
  | .queueNotify _ _ _ => none
  | .queueSlotRelease _ => none
  | .launchActivation _ => none
  | .dependencesMet _ => none
  | .timeSliceEnd _ => none
  | .launchRetirement _ => none
  | .wickTakeLaunch _ => none
  | .taskHandOff => none
  | .claimGrant _ _ => none
  | .gangHandOff _ => none
  | .taskStart _ => none
  | .drainComplete _ => none
  | .arrival _ _ _ _ => none
  | .childFlip _ _ _ => none
  | .ringSpanApplied _ => none
  | .waitSatisfied _ => none
  | .syncSramError _ => none
  | .homeRead _ _ => none
  | .homeRegistration _ _ _ _ => none
  | .homeWriteBack _ _ _ => none
  | .forwardedRead _ _ => none
  | .revoke _ _ => none
  | .registrationAck _ _ => none
  | .lineEviction _ => none
  | .hostAccess _ _ _ _ => none
  | .hostLineWriteback _ _ _ => none
  | .uncorrectableError _ _ => none
  | .sdreq _ _ => none
  | .shootdownComplete _ => none
  | .agentDead _ _ => none
  | .snufferScrub _ => none
  | .pctl _ _ => none
  | .ptbase _ _ => none
  | .swin _ _ => none
  | .sdesc _ _ => none
  | .evring _ _ => none
  | .waymask _ _ => none
  | .reclaimVisit _ _ => none
  | .reclaimComplete _ => none
  | .rgo _ _ => none
  | .clusterRelease _ _ => none
  | .icreq _ _ => none
  | .icreqComplete _ => none
  | .roleToMemoryOnly _ => none
  | .roleToCompute _ => none
  | .roleCancelDrain _ => none
  | .layerDrainEnd _ => none
  | .layerPowerUpComplete _ => none
  | .dead _ => none
  | .hattach _ => none
  | .managementRegisterWrite _ _ => none
  | .bwInterval _ => none
  | .islandFrequencyInterval _ _ => none
  | .heartbeatPeriod => none
  | .hostHeartbeat _ => none
  | .flitData _ _ => none
  | .flitReadRequest _ _ => none
  | .flitAcknowledgement _ _ => none
  | .flitBarrierArrival _ _ => none
  | .flitBarrierFlip _ _ => none
  | .flitHeartbeat _ _ => none
  | .flitRefusal _ _ => none
  | .bringUp => none
  | .reFlash _ => none
  | .expansionDeviceLost _ => none
  | .linkLoss _ => none
  | .writeBackAcknowledgement _ => none
  | .flitCheckCodeFailure _ _ => none
  | .reservedEncoding _ => none
  | .unassignedEngineOpcode _ => none

/-- The shape of a sequencer instruction; an empty one for the others. -/
def Instr.form (i : Instr) : Shape := i.shape.getD (plain 0 [])

/-- R108 steps 2 and 3 for an instruction; engine words and events have no such check. -/
def Instr.staticFault (i : Instr) : Option StaticFault := i.shape.bind Shape.fault

/-- R231, R267, R377: the arguments an engine word's row does not assign, which end its command with EOPX (R44). -/
def Instr.badArgument : Instr → Bool
  | .engShl n => 64 ≤ n.toNat
  | .engPick n => 8 ≤ n.toNat
  | .mlev l => 6 ≤ l.toNat
  | .msfm f => f.toNat < 2 || 4 < f.toNat
  | .lret c => c.toNat ≠ 3 && c.toNat ≠ 4
  | .yred o _ => o.toNat = 7
  | _ => false

/-- A well-formed instruction: its fields raise no fault of R108 steps 2 and 3 and no EOPX of its argument. -/
def Instr.wf (i : Instr) : Bool := i.staticFault.isNone && !i.badArgument

end Sys2Proof
end

