-- ==== Sys2Proof/Decode.lean ====
section
/-! DEFINITION. The decoder of sequencer instructions (R107 to R109 and each chapter's majors) and of engine words
(R44, R45 and each engine's map), total on any words, and the encoder written from the same tables. -/

namespace Sys2Proof

/-- Why a sequencer word is no instruction (R108 steps 2 and 3). -/
inductive Reject where
  /-- A reserved major, an unassigned fn, a non-zero field that the format requires to be zero. -/
  | illop
  /-- A code other than the filler in an unused operand field, with that field's value. -/
  | illopd (v : Dword)
  deriving DecidableEq, Repr

/-- What a word decodes to. -/
abbrev Decoded := Except Reject Instr

/-- R108 step 3: an unused operand field holds 42. -/
def filler (c : Code) (r : Decoded) : Decoded :=
  if c = zeroCode then r else .error (.illopd (zext64 c))

/-- R192: an unused vector field, or pg of an instruction that reads no predicate, holds 0. -/
def unused {n : Nat} (v : BitVec n) (r : Decoded) : Decoded :=
  if v = 0 then r else .error (.illopd (zext64 v))

/-- R108 step 2: a condition that makes the word ILLOP. -/
def illopIf (b : Bool) (r : Decoded) : Decoded := if b then .error .illop else r

/-- The words of R118 to R121: the a field is at bits[23:18]. -/
def fieldA (w : Nat) : Code := .ofNat 6 (w / 2 ^ 18)

/-- R111: major 0x01. Where b is not used and not 42, its fault goes before one of d or a, here and in every form with an unused field
(DESIGN CHOICE, log 90). -/
def decodeInteger (s : BitVec 2) (d a b : Code) (w : Nat) : Decoded :=
  match w % 64 with
  | 0 => .ok (.add s d a b)
  | 1 => .ok (.sub s d a b)
  | 2 => .ok (.and s d a b)
  | 3 => .ok (.or s d a b)
  | 4 => .ok (.xor s d a b)
  | 5 => .ok (.andn s d a b)
  | 6 => .ok (.shl s d a b)
  | 7 => .ok (.shr s d a b)
  | 8 => .ok (.sra s d a b)
  | 9 => .ok (.rotr s d a b)
  | 10 => .ok (.min s d a b)
  | 11 => .ok (.max s d a b)
  | 12 => .ok (.minn s d a b)
  | 13 => .ok (.maxn s d a b)
  | 14 => .ok (.seq s d a b)
  | 15 => .ok (.sne s d a b)
  | 16 => .ok (.slt s d a b)
  | 17 => .ok (.sltn s d a b)
  | 18 => .ok (.sle s d a b)
  | 19 => .ok (.slen s d a b)
  | 20 => .ok (.adds s d a b)
  | 21 => .ok (.subs s d a b)
  | 22 => filler b (.ok (.clz s d a))
  | 23 => filler b (.ok (.ctz s d a))
  | 24 => filler b (.ok (.popc s d a))
  | 25 => filler b (.ok (.bswap s d a))
  | 26 => filler b (.ok (.sxb s d a))
  | 27 => filler b (.ok (.sxh s d a))
  | 28 => filler b (.ok (.sxw s d a))
  | 29 => filler b (.ok (.zxb s d a))
  | 30 => filler b (.ok (.zxh s d a))
  | 31 => filler b (.ok (.zxw s d a))
  | 32 => .ok (.sel s d a b)
  | _ => .error .illop

/-- R114: major 0x0B. -/
def decodeMul (s : BitVec 2) (d a b : Code) (w : Nat) : Decoded :=
  match w % 64 with
  | 0 => .ok (.mul s d a b)
  | 1 => .ok (.mulh s d a b)
  | 2 => .ok (.mulhn s d a b)
  | 3 => .ok (.div s d a b)
  | 4 => .ok (.divn s d a b)
  | 5 => .ok (.rem s d a b)
  | 6 => .ok (.remn s d a b)
  | _ => .error .illop

/-- R115: majors 0x0C to 0x0F; a reserved rounding code is ILLOP, before a bad unused field. -/
def decodeFloat (s : BitVec 2) (d a b : Code) (w : Nat) : Decoded :=
  match w / 2 ^ 3 % 8 with
  | 0 => .ok (.fadd s (.ofNat 2 (w / 2 ^ 24)) d a b (.ofNat 3 w))
  | 1 => .ok (.fsub s (.ofNat 2 (w / 2 ^ 24)) d a b (.ofNat 3 w))
  | 2 => .ok (.fmul s (.ofNat 2 (w / 2 ^ 24)) d a b (.ofNat 3 w))
  | 3 => .ok (.fdiv s (.ofNat 2 (w / 2 ^ 24)) d a b (.ofNat 3 w))
  | 4 => illopIf (5 ≤ w % 8) (filler b (.ok (.fsqrt s (.ofNat 2 (w / 2 ^ 24)) d a (.ofNat 3 w))))
  | 5 => illopIf (w % 8 ≠ 0) (.ok (.fmin s (.ofNat 2 (w / 2 ^ 24)) d a b))
  | 6 => illopIf (w % 8 ≠ 0) (.ok (.fmax s (.ofNat 2 (w / 2 ^ 24)) d a b))
  | 7 => .ok (.fma s (.ofNat 2 (w / 2 ^ 24)) d a b (.ofNat 3 w))
  | _ => .error .illop

/-- R116: major 0x10. -/
def decodeCompare (s : BitVec 2) (d a b : Code) (w : Nat) : Decoded :=
  match w % 16 with
  | 0 => .ok (.feq s d a b (.ofNat 2 (w / 2 ^ 4)))
  | 1 => .ok (.flt s d a b (.ofNat 2 (w / 2 ^ 4)))
  | 2 => .ok (.fle s d a b (.ofNat 2 (w / 2 ^ 4)))
  | 3 => .ok (.fun s d a b (.ofNat 2 (w / 2 ^ 4)))
  | 4 => filler b (.ok (.fclass s d a (.ofNat 2 (w / 2 ^ 4))))
  | 5 => filler b (.ok (.fneg s d a (.ofNat 2 (w / 2 ^ 4))))
  | 6 => filler b (.ok (.fabs s d a (.ofNat 2 (w / 2 ^ 4))))
  | _ => .error .illop

/-- R119: major 0x1A. -/
def decodeJump (s : BitVec 2) (d a b : Code) (w : Nat) : Decoded :=
  match w % 64 with
  | 0 => filler d (filler b (.ok (.jr s a)))
  | 1 => filler b (.ok (.jalr s d a))
  | _ => .error .illop

/-- R122 to R125, R134, R136: major 0x20. -/
def decodeSystem (s : BitVec 2) (d a b : Code) (w : Nat) : Decoded :=
  match w % 64 with
  | 0 => filler d (filler a (filler b (.ok (.endl s))))
  | 1 => filler d (filler a (filler b (.ok (.yield s))))
  | 2 => filler d (filler a (filler b (.ok (.eret s))))
  | 3 => filler d (filler a (filler b (.ok (.tend s))))
  | 4 => filler b (.ok (.hget s d a))
  | 5 => filler d (filler a (filler b (.ok (.nop s))))
  | 6 => filler d (filler a (filler b (.ok (.lexit s))))
  | _ => .error .illop

/-- R128: major 0x22; bits[19:18] are zero. -/
def decodeSend (s : BitVec 2) (_d a b : Code) (w : Nat) : Decoded :=
  illopIf (w / 2 ^ 18 % 4 ≠ 0) <|
  match w % 64 with
  | 0 => .ok (.xsend s (.ofNat 4 (w / 2 ^ 20)) a b)
  | 1 => .ok (.xsendw s (.ofNat 4 (w / 2 ^ 20)) a b)
  | 2 => illopIf (8 ≤ w / 2 ^ 20 % 16) (filler b (.ok (.xseq s (.ofNat 4 (w / 2 ^ 20)) a)))
  | 3 => illopIf (8 ≤ w / 2 ^ 20 % 16) (filler b (.ok (.xwait s (.ofNat 4 (w / 2 ^ 20)) a)))
  | _ => .error .illop

/-- R155: major 0x28. -/
def decodeMemory (s : BitVec 2) (d a b : Code) (w : Nat) : Decoded :=
  match w % 64 with
  | 0 => .ok (.ldI8 s d a b)
  | 1 => .ok (.ldN8 s d a b)
  | 2 => .ok (.ldI16 s d a b)
  | 3 => .ok (.ldN16 s d a b)
  | 4 => .ok (.ldI32Reg s d a b)
  | 5 => .ok (.ldN32 s d a b)
  | 6 => .ok (.ldI64Reg s d a b)
  | 8 => .ok (.stI8 s d a b)
  | 9 => .ok (.stI16 s d a b)
  | 10 => .ok (.stI32Reg s d a b)
  | 11 => .ok (.stI64Reg s d a b)
  | _ => .error .illop

/-- R156: major 0x29; a reserved scope code is ILLOP. -/
def decodeOrdered (s : BitVec 2) (d a b : Code) (w : Nat) : Decoded :=
  match w / 2 ^ 3 % 8 with
  | 0 => .ok (.ldAcqN32 s d a b (.ofNat 3 w))
  | 1 => .ok (.ldAcqI64 s d a b (.ofNat 3 w))
  | 2 => .ok (.stRelI32 s d a b (.ofNat 3 w))
  | 3 => .ok (.stRelI64 s d a b (.ofNat 3 w))
  | 4 => illopIf (5 ≤ w % 8) (filler d (filler a (filler b (.ok (.mark s (.ofNat 3 w))))))
  | 5 =>
    match w % 8 with
    | 0 => filler d (.ok (.pfDc s a b))
    | 1 => filler d (.ok (.pfLlc s a b))
    | _ => .error .illop
  | _ => .error .illop

/-- R158, R159: major 0x2B. -/
def decodeStore (s : BitVec 2) (d a b : Code) (w : Nat) : Decoded :=
  match w / 2 ^ 3 % 8 with
  | 5 => .error .illop
  | 6 => .ok (.tld s d a b (.ofNat 3 w))
  | 7 => .ok (.tst s d a b (.ofNat 3 w))
  | _ => .ok (.dst s d a b (.ofNat 3 (w / 2 ^ 3)) (.ofNat 3 w))

/-- R174: major 0x2C. -/
def decodePublish (s : BitVec 2) (d a b : Code) (w : Nat) : Decoded :=
  match w / 2 ^ 3 % 8 with
  | 0 => .ok (.cpub s d a b (.ofNat 3 w))
  | 1 => .ok (.cinv s d a b (.ofNat 3 w))
  | 2 => illopIf (w % 8 ≠ 0) (filler d (filler a (filler b (.ok (.ifence s)))))
  | _ => .error .illop

/-- R330: major 0x2E. -/
def decodeSync (s : BitVec 2) (d a b : Code) (w : Nat) : Decoded :=
  match w / 2 % 32 with
  | 0 => .ok (.aswp s d a b (.ofNat 1 w))
  | 1 => .ok (.aadd s d a b (.ofNat 1 w))
  | 2 => .ok (.aand s d a b (.ofNat 1 w))
  | 3 => .ok (.aor s d a b (.ofNat 1 w))
  | 4 => .ok (.axor s d a b (.ofNat 1 w))
  | 5 => .ok (.amin s d a b (.ofNat 1 w))
  | 6 => .ok (.amax s d a b (.ofNat 1 w))
  | 7 => .ok (.aminn s d a b (.ofNat 1 w))
  | 8 => .ok (.amaxn s d a b (.ofNat 1 w))
  | 9 => .ok (.acas s d a b (.ofNat 1 w))
  | 10 => .ok (.afadd s d a b (.ofNat 1 w))
  | _ =>
    match w % 64 with
    | 32 => .ok (.barrive s d a b)
    | 33 => .ok (.bwait s d a b)
    | 34 => .ok (.btest s d a b)
    | 40 => .ok (.rres s d a b)
    | 41 => .ok (.rpost s d a b)
    | 42 => .ok (.rwfree s d a b)
    | 43 => .ok (.rtfree s d a b)
    | 48 => .ok (.rtake s d a b)
    | 49 => .ok (.rfree s d a b)
    | 50 => .ok (.rwfill s d a b)
    | 51 => .ok (.rtfill s d a b)
    | _ => .error .illop

/-- R192, R193, R201, R202: the vector class, majors 0x3C to 0x3F, by vop. -/
def decodeVector (s : BitVec 2) (w : Nat) : Decoded :=
  let vd : BitVec 5 := .ofNat 5 (w / 2 ^ 15)
  let va : BitVec 5 := .ofNat 5 (w / 2 ^ 10)
  let vb : BitVec 5 := .ofNat 5 (w / 2 ^ 5)
  let pg : BitVec 3 := .ofNat 3 (w / 2 ^ 2)
  let ms : BitVec 2 := .ofNat 2 w
  match w / 2 ^ 20 % 64 with
  | 0 => .ok (.vadd s vd va vb pg ms)
  | 1 => .ok (.vsub s vd va vb pg ms)
  | 2 => .ok (.vmul s vd va vb pg ms)
  | 3 => .ok (.vfma s vd va vb pg ms)
  | 4 => .ok (.vmin s vd va vb pg ms)
  | 5 => .ok (.vmax s vd va vb pg ms)
  | 6 => .ok (.vdiv s vd va vb pg ms)
  | 7 => unused vb (.ok (.vsqrt s vd va pg ms))
  | 8 => unused vb (.ok (.vexp2 s vd va pg ms))
  | 9 => unused vb (.ok (.vneg s vd va pg ms))
  | 10 => unused vb (.ok (.vabs s vd va pg ms))
  | 11 => unused vb (.ok (.vcvt s vd va pg ms))
  | 12 => .ok (.vmulh s vd va vb pg ms)
  | 13 => illopIf (ms ≠ 0) (.ok (.vdotb s vd va vb pg))
  | 14 => illopIf (ms ≠ 0) (unused vb (.ok (.vqe8 s vd va pg)))
  | 15 => illopIf (ms ≠ 0) (unused vb (.ok (.vqn4 s vd va pg)))
  | 16 => .ok (.vand s vd va vb pg ms)
  | 17 => .ok (.vor s vd va vb pg ms)
  | 18 => .ok (.vxor s vd va vb pg ms)
  | 19 => .ok (.vandn s vd va vb pg ms)
  | 20 => .ok (.vshl s vd va vb pg ms)
  | 21 => .ok (.vshr s vd va vb pg ms)
  | 22 => .ok (.vsra s vd va vb pg ms)
  | 23 => unused vb (.ok (.vclz s vd va pg ms))
  | 24 => unused vb (.ok (.vpopc s vd va pg ms))
  | 25 => .ok (.vceq s vd va vb pg ms)
  | 26 => .ok (.vclt s vd va vb pg ms)
  | 27 => .ok (.vcle s vd va vb pg ms)
  | 28 => .ok (.vcun s vd va vb pg ms)
  | 29 => .ok (.vsel s vd va vb pg ms)
  | 32 => unused vb (.ok (.vmov s vd va pg ms))
  | 33 => unused va (unused vb (.ok (.vbcast s vd pg ms)))
  | 34 => unused va (unused vb (.ok (.viota s vd pg ms)))
  | 35 => illopIf (ms ≠ 0) (unused vb (.ok (.vmovx s vd va pg)))
  | 36 => .ok (.vperm s vd va vb pg ms)
  | 37 => .ok (.vslide s vd va vb pg ms)
  | 38 => illopIf (ms ≠ 0) (unused vb (.ok (.vcompress s vd va pg)))
  | 39 => illopIf (ms ≠ 0) (unused vb (.ok (.vexpand s vd va pg)))
  | 40 => unused vb (.ok (.vred s vd va pg ms))
  | 41 => unused vb (.ok (.vscan s vd va pg ms))
  | 42 => illopIf (ms ≠ 0) (.ok (.vmatch s vd va vb pg))
  | 43 => illopIf (ms ≠ 0) (.ok (.vstop s vd va vb pg))
  | 44 => illopIf (ms ≠ 0) (unused vd (unused va (unused vb (unused pg (.ok (.vfence s))))))
  | 48 => unused va (unused vb (.ok (.vld s vd pg ms)))
  | 49 => unused va (unused vb (.ok (.vst s vd pg ms)))
  | 50 => illopIf (ms ≠ 0) (unused va (.ok (.vldg s vd vb pg)))
  | 51 => illopIf (ms ≠ 0) (unused va (.ok (.vstg s vd vb pg)))
  | 30 => illopIf (ms ≠ 0) <|
    match w / 2 ^ 2 % 8 with
    | 0 => .ok (.pand s vd va vb)
    | 1 => .ok (.por s vd va vb)
    | 2 => .ok (.pxor s vd va vb)
    | 3 => .ok (.pandn s vd va vb)
    | 4 => .ok (.pnor s vd va vb)
    | 5 => .ok (.pnand s vd va vb)
    | 6 => unused vb (.ok (.pnot s vd va))
    | _ => unused va (unused vb (.ok (.pfill s vd)))
  | 31 => illopIf (ms ≠ 0) <|
    match w / 2 ^ 2 % 8 with
    | 0 => unused vb (.ok (.vpcnt s vd va))
    | 1 => unused vb (.ok (.vplo s vd va))
    | 2 => unused vb (.ok (.vphi s vd va))
    | n => .error (.illopd (.ofNat 64 n))
  | _ => .error .illop

/-- R107, R109: a sequencer instruction whose first word is w and whose next word is w2 (read by the long forms
only). -/
def decodeSeq (w w2 : Nat) : Decoded :=
  let s : BitVec 2 := .ofNat 2 (w / 2 ^ 30)
  let d : Code := .ofNat 6 (w / 2 ^ 18)
  let a : Code := .ofNat 6 (w / 2 ^ 12)
  let b : Code := .ofNat 6 (w / 2 ^ 6)
  match w / 2 ^ 24 % 64 with
  | 0x01 => decodeInteger s d a b w
  | 0x02 => .ok (.addi s d a (.ofNat 12 w))
  | 0x03 => .ok (.andi s d a (.ofNat 12 w))
  | 0x04 => .ok (.ori s d a (.ofNat 12 w))
  | 0x05 => .ok (.xori s d a (.ofNat 12 w))
  | 0x06 => illopIf (w / 2 ^ 6 % 64 ≠ 0) (.ok (.shli s d a (.ofNat 6 w)))
  | 0x07 => illopIf (w / 2 ^ 6 % 64 ≠ 0) (.ok (.shri s d a (.ofNat 6 w)))
  | 0x08 => illopIf (w / 2 ^ 6 % 64 ≠ 0) (.ok (.srai s d a (.ofNat 6 w)))
  | 0x09 => .ok (.slti s d a (.ofNat 12 w))
  | 0x0A => .ok (.sltni s d a (.ofNat 12 w))
  | 0x0B => decodeMul s d a b w
  | 0x0C => decodeFloat s d a b w
  | 0x0D => decodeFloat s d a b w
  | 0x0E => decodeFloat s d a b w
  | 0x0F => decodeFloat s d a b w
  | 0x10 => decodeCompare s d a b w
  | 0x11 => illopIf (w % 2 ≠ 0) (.ok (.cvt s d a (.ofNat 4 (w / 2 ^ 8)) (.ofNat 4 (w / 2 ^ 4)) (.ofNat 3 (w / 2 ^ 1))))
  | 0x12 => filler (fieldA w) (.ok (.br s (.ofNat 18 w)))
  | 0x13 => .ok (.beqz s (fieldA w) (.ofNat 18 w))
  | 0x14 => .ok (.bnez s (fieldA w) (.ofNat 18 w))
  | 0x15 => .ok (.bltz s (fieldA w) (.ofNat 18 w))
  | 0x16 => .ok (.bgez s (fieldA w) (.ofNat 18 w))
  | 0x17 => .ok (.bgtz s (fieldA w) (.ofNat 18 w))
  | 0x18 => .ok (.blez s (fieldA w) (.ofNat 18 w))
  | 0x19 => .ok (.call s (fieldA w) (.ofNat 18 w))
  | 0x1A => decodeJump s d a b w
  | 0x1B => .ok (.loop s (fieldA w) (.ofNat 18 w))
  | 0x1C => illopIf (0x15 ≤ w % 2 ^ 12) (filler a (.ok (.sget s d (.ofNat 12 w))))
  | 0x1D => illopIf (0x15 ≤ w % 2 ^ 12 || w % 2 ^ 12 = 0 || w % 2 ^ 12 = 0xF) (filler d (.ok (.sset s a (.ofNat 12 w))))
  | 0x1E => .ok (.hset s d a (.ofNat 12 w))
  | 0x1F => filler d (filler a (.ok (.trap s (.ofNat 12 w))))
  | 0x20 => decodeSystem s d a b w
  | 0x22 => decodeSend s d a b w
  | 0x23 => illopIf (w / 2 ^ 22 % 4 ≠ 0) (.ok (.xsendm s (.ofNat 4 (w / 2 ^ 18)) a (.ofNat 4 (w / 2 ^ 8)) (.ofNat 8 w)))
  | 0x24 => .ok (.ldI64 s d a (.ofNat 4 (w / 2 ^ 8)) (.ofNat 8 w))
  | 0x25 => .ok (.ldI32 s d a (.ofNat 4 (w / 2 ^ 8)) (.ofNat 8 w))
  | 0x26 => .ok (.stI64 s d a (.ofNat 4 (w / 2 ^ 8)) (.ofNat 8 w))
  | 0x27 => .ok (.stI32 s d a (.ofNat 4 (w / 2 ^ 8)) (.ofNat 8 w))
  | 0x28 => decodeMemory s d a b w
  | 0x29 => decodeOrdered s d a b w
  | 0x2A => illopIf (w % 2 ≠ 0) (.ok (.dld s d a b (.ofNat 3 (w / 2 ^ 3)) (.ofNat 2 (w / 2 ^ 1))))
  | 0x2B => decodeStore s d a b w
  | 0x2C => decodePublish s d a b w
  | 0x2D => .ok (.cprobe s d a (.ofNat 4 (w / 2 ^ 8)) (.ofNat 8 w))
  | 0x2E => decodeSync s d a b w
  | 0x30 => illopIf (w % 2 ^ 20 ≠ 0) (.ok (.xsendi s (.ofNat 4 (w / 2 ^ 20)) (.ofNat 16 w2) (.ofNat 16 (w2 / 2 ^ 16))))
  | 0x31 => illopIf (w % 2 ^ 12 ≠ 0) (filler a (.ok (.li s d (.ofNat 32 w2))))
  | 0x32 => illopIf (w % 2 ^ 12 ≠ 0) (.ok (.lhi s d a (.ofNat 32 w2)))
  | 0x33 => illopIf (w % 2 ^ 12 ≠ 0) (.ok (.addl s d a (.ofNat 32 w2)))
  | 0x3C => decodeVector s w
  | 0x3D => decodeVector s w
  | 0x3E => decodeVector s w
  | 0x3F => decodeVector s w
  | _ => .error .illop

/-- R107: majors 0x30 to 0x33 have a second word. -/
def isLong (w : Nat) : Bool := 0x30 ≤ w / 2 ^ 24 % 64 && w / 2 ^ 24 % 64 ≤ 0x33

/-- R44, R45: the opcodes common to every engine. None: an opcode or argument it does not assign. -/
def decodeCommon (w : Nat) : Option Instr :=
  match w / 256 % 256 with
  | 0x00 => if w % 256 = 0 then some .engNop else none
  | 0x01 => if w % 256 = 0 then some .engDup else none
  | 0x02 => if w % 256 = 0 then some .engDrop else none
  | 0x03 => if w % 256 = 0 then some .engSwap else none
  | 0x04 => if w % 256 = 0 then some .engOver else none
  | 0x05 => if w % 256 = 0 then some .engCat else none
  | 0x06 => some (.engLit8 (.ofNat 8 w))
  | 0x07 => if w % 256 = 0 then some .engAdd else none
  | 0x08 => if w % 256 = 0 then some .engSub else none
  | 0x09 => if w % 256 = 0 then some .engMul else none
  | 0x0A => some (.engShl (.ofNat 8 w))
  | 0x0B => if w % 256 = 0 then some .engAnd else none
  | 0x0C => if w % 256 = 0 then some .engOr else none
  | 0x0D => some (.engPick (.ofNat 8 w))
  | _ => none

/-- R231, R267: the map of `mx`. None: an opcode or argument it does not assign. -/
def decodeMx (w : Nat) : Option Instr :=
  match w / 256 % 256 with
  | 0x10 => some (.mset (.ofNat 8 w))
  | 0x11 => if w % 256 = 0 then some .mswp else none
  | 0x12 => if w % 256 = 0 then some .mcpy else none
  | 0x13 => if w % 256 = 0 then some .mrst else none
  | 0x14 => if w % 256 = 0 then some .mgeo else none
  | 0x15 => if w % 256 = 0 then some .msra else none
  | 0x16 => if w % 256 = 0 then some .msrb else none
  | 0x17 => if w % 256 = 0 then some .mdst else none
  | 0x18 => if w % 256 = 0 then some .mssr else none
  | 0x19 => some (.mfmt (.ofNat 4 (w / 2 ^ 4)) (.ofNat 4 w))
  | 0x1A => if w % 256 = 0 then some .mbsf else none
  | 0x1B => if w % 256 < 2 then some (.mtr (.ofNat 1 w)) else none
  | 0x1C => if w % 256 < 2 then some (.mcos (.ofNat 1 w)) else none
  | 0x1D => if w % 256 < 8 then some (.mlev (.ofNat 3 w)) else none
  | 0x1E => if w % 256 < 8 then some (.mstr (.ofNat 3 w)) else none
  | 0x1F => if w % 256 < 2 then some (.mepi (.ofNat 1 w)) else none
  | 0x20 => if w % 256 = 0 then some .mtsc else none
  | 0x21 => if w % 256 < 2 then some (.mgo (.ofNat 1 w)) else none
  | 0x22 => if w % 256 = 0 then some .mzero else none
  | 0x23 => if w % 256 < 2 then some (.mstat (.ofNat 1 w)) else none
  | 0x24 => if w % 256 = 0 then some .msave else none
  | 0x25 => if w % 256 = 0 then some .mload else none
  | 0x60 => if w % 256 < 16 then some (.mgrp (.ofNat 4 w)) else none
  | 0x61 => if w % 256 = 0 then some .mgclr else none
  | 0x62 => if w % 256 < 8 then some (.msfm (.ofNat 3 w)) else none
  | 0x63 => if w % 256 = 0 then some .msar else none
  | 0x64 => if w % 256 = 0 then some .msdb else none
  | 0x65 => if w % 256 < 2 then some (.msds (.ofNat 1 w)) else none
  | _ => none

/-- R246: the map of `tf`. None: an opcode or argument it does not assign. -/
def decodeTf (w : Nat) : Option Instr :=
  match w / 256 % 256 with
  | 0x10 => if w % 256 < 64 then some (.fget (.ofNat 1 (w / 2 ^ 5)) (.ofNat 1 (w / 2 ^ 4)) (.ofNat 4 w)) else none
  | 0x11 => if w % 256 < 16 then some (.fwarm (.ofNat 4 w)) else none
  | 0x12 => if w % 256 = 0 then some .frel else none
  | 0x13 => if w % 256 = 0 then some .fdrop else none
  | _ => none

/-- R277: the map of `at`. None: an opcode or argument it does not assign. -/
def decodeAt (w : Nat) : Option Instr :=
  match w / 256 % 256 with
  | 0x10 => if w % 256 < 32 then some (.aget (.ofNat 1 (w / 2 ^ 4)) (.ofNat 4 w)) else none
  | 0x11 => if w % 256 < 32 then some (.apin (.ofNat 1 (w / 2 ^ 4)) (.ofNat 4 w)) else none
  | 0x12 => if w % 256 < 16 then some (.aunpin (.ofNat 4 w)) else none
  | 0x13 => if w % 256 < 16 then some (.aalloc (.ofNat 4 w)) else none
  | 0x14 => if w % 256 < 16 then some (.apub (.ofNat 4 w)) else none
  | 0x15 => if w % 256 < 16 then some (.aabort (.ofNat 4 w)) else none
  | _ => none

/-- R308: the map of `wk`. None: an opcode or argument it does not assign. -/
def decodeWk (w : Nat) : Option Instr :=
  match w / 256 % 256 with
  | 0x10 => if w % 256 < 16 then some (.wclaim (.ofNat 4 w)) else none
  | 0x11 => if w % 256 < 16 then some (.wstat (.ofNat 4 w)) else none
  | 0x12 => if w % 256 < 16 then some (.wlaunch (.ofNat 4 w)) else none
  | 0x13 => if w % 256 = 0 then some .wrel else none
  | 0x14 => if w % 256 = 0 then some .wstop else none
  | 0x15 => if w % 256 = 0 then some .wdrain else none
  | _ => none

/-- R341: the map of `sy`. None: an opcode or argument it does not assign. -/
def decodeSy (w : Nat) : Option Instr :=
  match w / 256 % 256 with
  | 0x10 => if w % 256 < 2 then some (.yarv (.ofNat 1 w)) else none
  | 0x11 => if w % 256 < 128 then some (.yred (.ofNat 3 (w / 2 ^ 4)) (.ofNat 4 w)) else none
  | 0x12 => if w % 256 < 32 then some (.yadd (.ofNat 1 (w / 2 ^ 4)) (.ofNat 4 w)) else none
  | _ => none

/-- R353: the map of `cp0` and `cp1`. None: an opcode or argument it does not assign. -/
noncomputable def decodeCp (w : Nat) : Option Instr :=
  match w / 256 % 256 with
  | 0x10 => some (.ccopy (.ofNat 4 (w / 2 ^ 4)) (.ofNat 4 w))
  | 0x11 => some (.c2d (.ofNat 4 (w / 2 ^ 4)) (.ofNat 4 w))
  | 0x12 => if w % 256 < 16 then some (.cfill (.ofNat 4 w)) else none
  | 0x13 => some (.cgath (.ofNat 4 (w / 2 ^ 4)) (.ofNat 4 w))
  | 0x14 => some (.cscat (.ofNat 4 (w / 2 ^ 4)) (.ofNat 4 w))
  | 0x15 => some (.czip (.ofNat 4 (w / 2 ^ 4)) (.ofNat 4 w))
  | 0x16 => some (.cunz (.ofNat 4 (w / 2 ^ 4)) (.ofNat 4 w))
  | 0x17 => some (.cdf (.ofNat 4 (w / 2 ^ 4)) (.ofNat 4 w))
  | 0x18 => if w % 256 < 16 then some (.crput (.ofNat 4 w)) else none
  | 0x19 => if w % 256 < 16 then some (.crget (.ofNat 4 w)) else none
  | 0x1A => if w % 256 < 16 then some (.crred (.ofNat 4 w)) else none
  | _ => none

/-- R377: the map of `ll`. None: an opcode or argument it does not assign. -/
def decodeLl (w : Nat) : Option Instr :=
  match w / 256 % 256 with
  | 0x10 => if w % 256 = 0 then some .lstep else none
  | 0x11 => if w % 256 < 8 then some (.lret (.ofNat 3 w)) else none
  | 0x12 => if w % 256 < 2 then some (.lhold (.ofNat 1 w)) else none
  | 0x13 => if w % 256 < 16 then some (.lstat (.ofNat 4 w)) else none
  | 0x14 => if w % 256 < 16 then some (.lseq (.ofNat 4 w)) else none
  | _ => none

/-- R44: what engine e reads in the word w: a push, or an operation it assigns; none: a word it does not assign. -/
noncomputable def decodeEng (e w : Nat) : Option Instr :=
    if 0x8000 ≤ w % 0x10000 then some (.engPush (.ofNat 15 w))
    else if w % 0x10000 < 0x1000 then decodeCommon w
    else match e with
      | 0 => decodeMx w
      | 1 => decodeTf w
      | 2 => decodeAt w
      | 3 => decodeWk w
      | 4 => decodeSy w
      | 5 => decodeCp w
      | 6 => decodeCp w
      | 7 => decodeLl w
      | _ => none

/-- The first engine, in identifier order, that assigns the word (engine words of different engines share values). -/
noncomputable def firstEngine (w : Nat) : Nat :=
  ((List.range 8).find? fun e => (decodeEng e w).isSome).getD 0

/-- The decoder's answer for an instruction laid out as spec/opcode_table.json numbers its bits: the 16-bit rows are
engine words, read by the first engine that assigns them; the others are sequencer instructions. -/
noncomputable def decodeTableWord (nbits w : Nat) : Option Instr :=
  if nbits ≤ 16 then
    decodeEng (firstEngine w) w
  else (decodeSeq (w % 2 ^ 32) (w / 2 ^ 32 % 2 ^ 32)).toOption

/-- A field's value at its place in a word. -/
def put (lo : Nat) {n : Nat} (v : BitVec n) : Nat := v.toNat * 2 ^ lo

/-- The words of an instruction, from the spec's encodings: one or two 32-bit words of a sequencer instruction, the one
16-bit word of an engine word, and none for an event. -/
def encode : Instr → List Nat
  | .add s d a b => [0x1000000 + put 30 s + put 18 d + put 12 a + put 6 b]
  | .sub s d a b => [0x1000001 + put 30 s + put 18 d + put 12 a + put 6 b]
  | .and s d a b => [0x1000002 + put 30 s + put 18 d + put 12 a + put 6 b]
  | .or s d a b => [0x1000003 + put 30 s + put 18 d + put 12 a + put 6 b]
  | .xor s d a b => [0x1000004 + put 30 s + put 18 d + put 12 a + put 6 b]
  | .andn s d a b => [0x1000005 + put 30 s + put 18 d + put 12 a + put 6 b]
  | .shl s d a b => [0x1000006 + put 30 s + put 18 d + put 12 a + put 6 b]
  | .shr s d a b => [0x1000007 + put 30 s + put 18 d + put 12 a + put 6 b]
  | .sra s d a b => [0x1000008 + put 30 s + put 18 d + put 12 a + put 6 b]
  | .rotr s d a b => [0x1000009 + put 30 s + put 18 d + put 12 a + put 6 b]
  | .min s d a b => [0x100000A + put 30 s + put 18 d + put 12 a + put 6 b]
  | .max s d a b => [0x100000B + put 30 s + put 18 d + put 12 a + put 6 b]
  | .minn s d a b => [0x100000C + put 30 s + put 18 d + put 12 a + put 6 b]
  | .maxn s d a b => [0x100000D + put 30 s + put 18 d + put 12 a + put 6 b]
  | .seq s d a b => [0x100000E + put 30 s + put 18 d + put 12 a + put 6 b]
  | .sne s d a b => [0x100000F + put 30 s + put 18 d + put 12 a + put 6 b]
  | .slt s d a b => [0x1000010 + put 30 s + put 18 d + put 12 a + put 6 b]
  | .sltn s d a b => [0x1000011 + put 30 s + put 18 d + put 12 a + put 6 b]
  | .sle s d a b => [0x1000012 + put 30 s + put 18 d + put 12 a + put 6 b]
  | .slen s d a b => [0x1000013 + put 30 s + put 18 d + put 12 a + put 6 b]
  | .adds s d a b => [0x1000014 + put 30 s + put 18 d + put 12 a + put 6 b]
  | .subs s d a b => [0x1000015 + put 30 s + put 18 d + put 12 a + put 6 b]
  | .clz s d a => [0x1000A96 + put 30 s + put 18 d + put 12 a]
  | .ctz s d a => [0x1000A97 + put 30 s + put 18 d + put 12 a]
  | .popc s d a => [0x1000A98 + put 30 s + put 18 d + put 12 a]
  | .bswap s d a => [0x1000A99 + put 30 s + put 18 d + put 12 a]
  | .sxb s d a => [0x1000A9A + put 30 s + put 18 d + put 12 a]
  | .sxh s d a => [0x1000A9B + put 30 s + put 18 d + put 12 a]
  | .sxw s d a => [0x1000A9C + put 30 s + put 18 d + put 12 a]
  | .zxb s d a => [0x1000A9D + put 30 s + put 18 d + put 12 a]
  | .zxh s d a => [0x1000A9E + put 30 s + put 18 d + put 12 a]
  | .zxw s d a => [0x1000A9F + put 30 s + put 18 d + put 12 a]
  | .sel s d a b => [0x1000020 + put 30 s + put 18 d + put 12 a + put 6 b]
  | .addi s d a i => [0x2000000 + put 30 s + put 18 d + put 12 a + put 0 i]
  | .andi s d a i => [0x3000000 + put 30 s + put 18 d + put 12 a + put 0 i]
  | .ori s d a i => [0x4000000 + put 30 s + put 18 d + put 12 a + put 0 i]
  | .xori s d a i => [0x5000000 + put 30 s + put 18 d + put 12 a + put 0 i]
  | .shli s d a i => [0x6000000 + put 30 s + put 18 d + put 12 a + put 0 i]
  | .shri s d a i => [0x7000000 + put 30 s + put 18 d + put 12 a + put 0 i]
  | .srai s d a i => [0x8000000 + put 30 s + put 18 d + put 12 a + put 0 i]
  | .slti s d a i => [0x9000000 + put 30 s + put 18 d + put 12 a + put 0 i]
  | .sltni s d a i => [0xA000000 + put 30 s + put 18 d + put 12 a + put 0 i]
  | .li s d i => [0x31000000 + put 30 s + put 18 d + 42 * 2 ^ 12, i.toNat]
  | .lhi s d a i => [0x32000000 + put 30 s + put 18 d + put 12 a, i.toNat]
  | .addl s d a i => [0x33000000 + put 30 s + put 18 d + put 12 a, i.toNat]
  | .mul s d a b => [0xB000000 + put 30 s + put 18 d + put 12 a + put 6 b]
  | .mulh s d a b => [0xB000001 + put 30 s + put 18 d + put 12 a + put 6 b]
  | .mulhn s d a b => [0xB000002 + put 30 s + put 18 d + put 12 a + put 6 b]
  | .div s d a b => [0xB000003 + put 30 s + put 18 d + put 12 a + put 6 b]
  | .divn s d a b => [0xB000004 + put 30 s + put 18 d + put 12 a + put 6 b]
  | .rem s d a b => [0xB000005 + put 30 s + put 18 d + put 12 a + put 6 b]
  | .remn s d a b => [0xB000006 + put 30 s + put 18 d + put 12 a + put 6 b]
  | .fadd s t d a b r => [0xC000000 + put 30 s + put 24 t + put 18 d + put 12 a + put 6 b + put 0 r]
  | .fsub s t d a b r => [0xC000008 + put 30 s + put 24 t + put 18 d + put 12 a + put 6 b + put 0 r]
  | .fmul s t d a b r => [0xC000010 + put 30 s + put 24 t + put 18 d + put 12 a + put 6 b + put 0 r]
  | .fdiv s t d a b r => [0xC000018 + put 30 s + put 24 t + put 18 d + put 12 a + put 6 b + put 0 r]
  | .fsqrt s t d a r => [0xC000AA0 + put 30 s + put 24 t + put 18 d + put 12 a + put 0 r]
  | .fmin s t d a b => [0xC000028 + put 30 s + put 24 t + put 18 d + put 12 a + put 6 b]
  | .fmax s t d a b => [0xC000030 + put 30 s + put 24 t + put 18 d + put 12 a + put 6 b]
  | .fma s t d a b r => [0xC000038 + put 30 s + put 24 t + put 18 d + put 12 a + put 6 b + put 0 r]
  | .feq s d a b t => [0x10000000 + put 30 s + put 18 d + put 12 a + put 6 b + put 4 t]
  | .flt s d a b t => [0x10000001 + put 30 s + put 18 d + put 12 a + put 6 b + put 4 t]
  | .fle s d a b t => [0x10000002 + put 30 s + put 18 d + put 12 a + put 6 b + put 4 t]
  | .fun s d a b t => [0x10000003 + put 30 s + put 18 d + put 12 a + put 6 b + put 4 t]
  | .fclass s d a t => [0x10000A84 + put 30 s + put 18 d + put 12 a + put 4 t]
  | .fneg s d a t => [0x10000A85 + put 30 s + put 18 d + put 12 a + put 4 t]
  | .fabs s d a t => [0x10000A86 + put 30 s + put 18 d + put 12 a + put 4 t]
  | .cvt s d a e u r => [0x11000000 + put 30 s + put 18 d + put 12 a + put 8 e + put 4 u + put 1 r]
  | .br s i => [0x12A80000 + put 30 s + put 0 i]
  | .beqz s a i => [0x13000000 + put 30 s + put 18 a + put 0 i]
  | .bnez s a i => [0x14000000 + put 30 s + put 18 a + put 0 i]
  | .bltz s a i => [0x15000000 + put 30 s + put 18 a + put 0 i]
  | .bgez s a i => [0x16000000 + put 30 s + put 18 a + put 0 i]
  | .bgtz s a i => [0x17000000 + put 30 s + put 18 a + put 0 i]
  | .blez s a i => [0x18000000 + put 30 s + put 18 a + put 0 i]
  | .call s a i => [0x19000000 + put 30 s + put 18 a + put 0 i]
  | .jr s a => [0x1AA80A80 + put 30 s + put 12 a]
  | .jalr s d a => [0x1A000A81 + put 30 s + put 18 d + put 12 a]
  | .loop s a i => [0x1B000000 + put 30 s + put 18 a + put 0 i]
  | .endl s => [0x20AAAA80 + put 30 s]
  | .yield s => [0x20AAAA81 + put 30 s]
  | .eret s => [0x20AAAA82 + put 30 s]
  | .tend s => [0x20AAAA83 + put 30 s]
  | .hget s d n => [0x20000A84 + put 30 s + put 18 d + put 12 n]
  | .nop s => [0x20AAAA85 + put 30 s]
  | .lexit s => [0x20AAAA86 + put 30 s]
  | .sget s d i => [0x1C02A000 + put 30 s + put 18 d + put 0 i]
  | .sset s a i => [0x1DA80000 + put 30 s + put 12 a + put 0 i]
  | .hset s d a i => [0x1E000000 + put 30 s + put 18 d + put 12 a + put 0 i]
  | .trap s i => [0x1FAAA000 + put 30 s + put 0 i]
  | .xsendi s e w0 w1 => [0x30000000 + put 30 s + put 20 e, put 0 w0 + put 16 w1]
  | .xsend s e a b => [0x22000000 + put 30 s + put 20 e + put 12 a + put 6 b]
  | .xsendw s e a b => [0x22000001 + put 30 s + put 20 e + put 12 a + put 6 b]
  | .xseq s e a => [0x22000A82 + put 30 s + put 20 e + put 12 a]
  | .xwait s e a => [0x22000A83 + put 30 s + put 20 e + put 12 a]
  | .xsendm s e a h i => [0x23000000 + put 30 s + put 18 e + put 12 a + put 8 h + put 0 i]
  | .ldI64 s d a h i => [0x24000000 + put 30 s + put 18 d + put 12 a + put 8 h + put 0 i]
  | .ldI32 s d a h i => [0x25000000 + put 30 s + put 18 d + put 12 a + put 8 h + put 0 i]
  | .stI64 s d a h i => [0x26000000 + put 30 s + put 18 d + put 12 a + put 8 h + put 0 i]
  | .stI32 s d a h i => [0x27000000 + put 30 s + put 18 d + put 12 a + put 8 h + put 0 i]
  | .ldI8 s d n b => [0x28000000 + put 30 s + put 18 d + put 12 n + put 6 b]
  | .ldN8 s d n b => [0x28000001 + put 30 s + put 18 d + put 12 n + put 6 b]
  | .ldI16 s d n b => [0x28000002 + put 30 s + put 18 d + put 12 n + put 6 b]
  | .ldN16 s d n b => [0x28000003 + put 30 s + put 18 d + put 12 n + put 6 b]
  | .ldI32Reg s d n b => [0x28000004 + put 30 s + put 18 d + put 12 n + put 6 b]
  | .ldN32 s d n b => [0x28000005 + put 30 s + put 18 d + put 12 n + put 6 b]
  | .ldI64Reg s d n b => [0x28000006 + put 30 s + put 18 d + put 12 n + put 6 b]
  | .stI8 s d n b => [0x28000008 + put 30 s + put 18 d + put 12 n + put 6 b]
  | .stI16 s d n b => [0x28000009 + put 30 s + put 18 d + put 12 n + put 6 b]
  | .stI32Reg s d n b => [0x2800000A + put 30 s + put 18 d + put 12 n + put 6 b]
  | .stI64Reg s d n b => [0x2800000B + put 30 s + put 18 d + put 12 n + put 6 b]
  | .ldAcqN32 s d n b c => [0x29000000 + put 30 s + put 18 d + put 12 n + put 6 b + put 0 c]
  | .ldAcqI64 s d n b c => [0x29000008 + put 30 s + put 18 d + put 12 n + put 6 b + put 0 c]
  | .stRelI32 s d n b c => [0x29000010 + put 30 s + put 18 d + put 12 n + put 6 b + put 0 c]
  | .stRelI64 s d n b c => [0x29000018 + put 30 s + put 18 d + put 12 n + put 6 b + put 0 c]
  | .mark s c => [0x29AAAAA0 + put 30 s + put 0 c]
  | .pfDc s n b => [0x29A80028 + put 30 s + put 12 n + put 6 b]
  | .pfLlc s n b => [0x29A80029 + put 30 s + put 12 n + put 6 b]
  | .dld s d n b t u => [0x2A000000 + put 30 s + put 18 d + put 12 n + put 6 b + put 3 t + put 1 u]
  | .dst s d n b t r => [0x2B000000 + put 30 s + put 18 d + put 12 n + put 6 b + put 3 t + put 0 r]
  | .tld s d n b k => [0x2B000030 + put 30 s + put 18 d + put 12 n + put 6 b + put 0 k]
  | .tst s d n b k => [0x2B000038 + put 30 s + put 18 d + put 12 n + put 6 b + put 0 k]
  | .cpub s d n b c => [0x2C000000 + put 30 s + put 18 d + put 12 n + put 6 b + put 0 c]
  | .cinv s d n b c => [0x2C000008 + put 30 s + put 18 d + put 12 n + put 6 b + put 0 c]
  | .ifence s => [0x2CAAAA90 + put 30 s]
  | .cprobe s d a h i => [0x2D000000 + put 30 s + put 18 d + put 12 a + put 8 h + put 0 i]
  | .aswp s d n b w => [0x2E000000 + put 30 s + put 18 d + put 12 n + put 6 b + put 0 w]
  | .aadd s d n b w => [0x2E000002 + put 30 s + put 18 d + put 12 n + put 6 b + put 0 w]
  | .aand s d n b w => [0x2E000004 + put 30 s + put 18 d + put 12 n + put 6 b + put 0 w]
  | .aor s d n b w => [0x2E000006 + put 30 s + put 18 d + put 12 n + put 6 b + put 0 w]
  | .axor s d n b w => [0x2E000008 + put 30 s + put 18 d + put 12 n + put 6 b + put 0 w]
  | .amin s d n b w => [0x2E00000A + put 30 s + put 18 d + put 12 n + put 6 b + put 0 w]
  | .amax s d n b w => [0x2E00000C + put 30 s + put 18 d + put 12 n + put 6 b + put 0 w]
  | .aminn s d n b w => [0x2E00000E + put 30 s + put 18 d + put 12 n + put 6 b + put 0 w]
  | .amaxn s d n b w => [0x2E000010 + put 30 s + put 18 d + put 12 n + put 6 b + put 0 w]
  | .acas s d n b w => [0x2E000012 + put 30 s + put 18 d + put 12 n + put 6 b + put 0 w]
  | .afadd s d n b w => [0x2E000014 + put 30 s + put 18 d + put 12 n + put 6 b + put 0 w]
  | .barrive s d n b => [0x2E000020 + put 30 s + put 18 d + put 12 n + put 6 b]
  | .bwait s d n b => [0x2E000021 + put 30 s + put 18 d + put 12 n + put 6 b]
  | .btest s d n b => [0x2E000022 + put 30 s + put 18 d + put 12 n + put 6 b]
  | .rres s d n b => [0x2E000028 + put 30 s + put 18 d + put 12 n + put 6 b]
  | .rpost s d n b => [0x2E000029 + put 30 s + put 18 d + put 12 n + put 6 b]
  | .rwfree s d n b => [0x2E00002A + put 30 s + put 18 d + put 12 n + put 6 b]
  | .rtfree s d n b => [0x2E00002B + put 30 s + put 18 d + put 12 n + put 6 b]
  | .rtake s d n b => [0x2E000030 + put 30 s + put 18 d + put 12 n + put 6 b]
  | .rfree s d n b => [0x2E000031 + put 30 s + put 18 d + put 12 n + put 6 b]
  | .rwfill s d n b => [0x2E000032 + put 30 s + put 18 d + put 12 n + put 6 b]
  | .rtfill s d n b => [0x2E000033 + put 30 s + put 18 d + put 12 n + put 6 b]
  | .vadd s d a b p m => [0x3C000000 + put 30 s + put 15 d + put 10 a + put 5 b + put 2 p + put 0 m]
  | .vsub s d a b p m => [0x3C100000 + put 30 s + put 15 d + put 10 a + put 5 b + put 2 p + put 0 m]
  | .vmul s d a b p m => [0x3C200000 + put 30 s + put 15 d + put 10 a + put 5 b + put 2 p + put 0 m]
  | .vfma s d a b p m => [0x3C300000 + put 30 s + put 15 d + put 10 a + put 5 b + put 2 p + put 0 m]
  | .vmin s d a b p m => [0x3C400000 + put 30 s + put 15 d + put 10 a + put 5 b + put 2 p + put 0 m]
  | .vmax s d a b p m => [0x3C500000 + put 30 s + put 15 d + put 10 a + put 5 b + put 2 p + put 0 m]
  | .vdiv s d a b p m => [0x3C600000 + put 30 s + put 15 d + put 10 a + put 5 b + put 2 p + put 0 m]
  | .vsqrt s d a p m => [0x3C700000 + put 30 s + put 15 d + put 10 a + put 2 p + put 0 m]
  | .vexp2 s d a p m => [0x3C800000 + put 30 s + put 15 d + put 10 a + put 2 p + put 0 m]
  | .vneg s d a p m => [0x3C900000 + put 30 s + put 15 d + put 10 a + put 2 p + put 0 m]
  | .vabs s d a p m => [0x3CA00000 + put 30 s + put 15 d + put 10 a + put 2 p + put 0 m]
  | .vcvt s d a p m => [0x3CB00000 + put 30 s + put 15 d + put 10 a + put 2 p + put 0 m]
  | .vmulh s d a b p m => [0x3CC00000 + put 30 s + put 15 d + put 10 a + put 5 b + put 2 p + put 0 m]
  | .vdotb s d a b p => [0x3CD00000 + put 30 s + put 15 d + put 10 a + put 5 b + put 2 p]
  | .vqe8 s d a p => [0x3CE00000 + put 30 s + put 15 d + put 10 a + put 2 p]
  | .vqn4 s d a p => [0x3CF00000 + put 30 s + put 15 d + put 10 a + put 2 p]
  | .vand s d a b p m => [0x3D000000 + put 30 s + put 15 d + put 10 a + put 5 b + put 2 p + put 0 m]
  | .vor s d a b p m => [0x3D100000 + put 30 s + put 15 d + put 10 a + put 5 b + put 2 p + put 0 m]
  | .vxor s d a b p m => [0x3D200000 + put 30 s + put 15 d + put 10 a + put 5 b + put 2 p + put 0 m]
  | .vandn s d a b p m => [0x3D300000 + put 30 s + put 15 d + put 10 a + put 5 b + put 2 p + put 0 m]
  | .vshl s d a b p m => [0x3D400000 + put 30 s + put 15 d + put 10 a + put 5 b + put 2 p + put 0 m]
  | .vshr s d a b p m => [0x3D500000 + put 30 s + put 15 d + put 10 a + put 5 b + put 2 p + put 0 m]
  | .vsra s d a b p m => [0x3D600000 + put 30 s + put 15 d + put 10 a + put 5 b + put 2 p + put 0 m]
  | .vclz s d a p m => [0x3D700000 + put 30 s + put 15 d + put 10 a + put 2 p + put 0 m]
  | .vpopc s d a p m => [0x3D800000 + put 30 s + put 15 d + put 10 a + put 2 p + put 0 m]
  | .vceq s d a b p m => [0x3D900000 + put 30 s + put 15 d + put 10 a + put 5 b + put 2 p + put 0 m]
  | .vclt s d a b p m => [0x3DA00000 + put 30 s + put 15 d + put 10 a + put 5 b + put 2 p + put 0 m]
  | .vcle s d a b p m => [0x3DB00000 + put 30 s + put 15 d + put 10 a + put 5 b + put 2 p + put 0 m]
  | .vcun s d a b p m => [0x3DC00000 + put 30 s + put 15 d + put 10 a + put 5 b + put 2 p + put 0 m]
  | .vsel s d a b p m => [0x3DD00000 + put 30 s + put 15 d + put 10 a + put 5 b + put 2 p + put 0 m]
  | .pand s d a b => [0x3DE00000 + put 30 s + put 15 d + put 10 a + put 5 b]
  | .por s d a b => [0x3DE00004 + put 30 s + put 15 d + put 10 a + put 5 b]
  | .pxor s d a b => [0x3DE00008 + put 30 s + put 15 d + put 10 a + put 5 b]
  | .pandn s d a b => [0x3DE0000C + put 30 s + put 15 d + put 10 a + put 5 b]
  | .pnor s d a b => [0x3DE00010 + put 30 s + put 15 d + put 10 a + put 5 b]
  | .pnand s d a b => [0x3DE00014 + put 30 s + put 15 d + put 10 a + put 5 b]
  | .pnot s d a => [0x3DE00018 + put 30 s + put 15 d + put 10 a]
  | .pfill s d => [0x3DE0001C + put 30 s + put 15 d]
  | .vpcnt s d a => [0x3DF00000 + put 30 s + put 15 d + put 10 a]
  | .vplo s d a => [0x3DF00004 + put 30 s + put 15 d + put 10 a]
  | .vphi s d a => [0x3DF00008 + put 30 s + put 15 d + put 10 a]
  | .vmov s d a p m => [0x3E000000 + put 30 s + put 15 d + put 10 a + put 2 p + put 0 m]
  | .vbcast s d p m => [0x3E100000 + put 30 s + put 15 d + put 2 p + put 0 m]
  | .viota s d p m => [0x3E200000 + put 30 s + put 15 d + put 2 p + put 0 m]
  | .vmovx s d a p => [0x3E300000 + put 30 s + put 15 d + put 10 a + put 2 p]
  | .vperm s d a b p m => [0x3E400000 + put 30 s + put 15 d + put 10 a + put 5 b + put 2 p + put 0 m]
  | .vslide s d a b p m => [0x3E500000 + put 30 s + put 15 d + put 10 a + put 5 b + put 2 p + put 0 m]
  | .vcompress s d a p => [0x3E600000 + put 30 s + put 15 d + put 10 a + put 2 p]
  | .vexpand s d a p => [0x3E700000 + put 30 s + put 15 d + put 10 a + put 2 p]
  | .vred s d a p m => [0x3E800000 + put 30 s + put 15 d + put 10 a + put 2 p + put 0 m]
  | .vscan s d a p m => [0x3E900000 + put 30 s + put 15 d + put 10 a + put 2 p + put 0 m]
  | .vmatch s d a b p => [0x3EA00000 + put 30 s + put 15 d + put 10 a + put 5 b + put 2 p]
  | .vstop s d a b p => [0x3EB00000 + put 30 s + put 15 d + put 10 a + put 5 b + put 2 p]
  | .vfence s => [0x3EC00000 + put 30 s]
  | .vld s d p m => [0x3F000000 + put 30 s + put 15 d + put 2 p + put 0 m]
  | .vst s d p m => [0x3F100000 + put 30 s + put 15 d + put 2 p + put 0 m]
  | .vldg s d b p => [0x3F200000 + put 30 s + put 15 d + put 5 b + put 2 p]
  | .vstg s d b p => [0x3F300000 + put 30 s + put 15 d + put 5 b + put 2 p]
  | .engPush v => [0x8000 + put 0 v]
  | .engNop => [0x0]
  | .engDup => [0x100]
  | .engDrop => [0x200]
  | .engSwap => [0x300]
  | .engOver => [0x400]
  | .engCat => [0x500]
  | .engLit8 n => [0x600 + put 0 n]
  | .engAdd => [0x700]
  | .engSub => [0x800]
  | .engMul => [0x900]
  | .engShl n => [0xA00 + put 0 n]
  | .engAnd => [0xB00]
  | .engOr => [0xC00]
  | .engPick n => [0xD00 + put 0 n]
  | .mset f => [0x1000 + put 0 f]
  | .mswp => [0x1100]
  | .mcpy => [0x1200]
  | .mrst => [0x1300]
  | .mgeo => [0x1400]
  | .msra => [0x1500]
  | .msrb => [0x1600]
  | .mdst => [0x1700]
  | .mssr => [0x1800]
  | .mfmt b a => [0x1900 + put 4 b + put 0 a]
  | .mbsf => [0x1A00]
  | .mtr t => [0x1B00 + put 0 t]
  | .mcos c => [0x1C00 + put 0 c]
  | .mlev l => [0x1D00 + put 0 l]
  | .mstr g => [0x1E00 + put 0 g]
  | .mepi e => [0x1F00 + put 0 e]
  | .mtsc => [0x2000]
  | .mgo s => [0x2100 + put 0 s]
  | .mzero => [0x2200]
  | .mstat c => [0x2300 + put 0 c]
  | .msave => [0x2400]
  | .mload => [0x2500]
  | .mgrp g => [0x6000 + put 0 g]
  | .mgclr => [0x6100]
  | .msfm f => [0x6200 + put 0 f]
  | .msar => [0x6300]
  | .msdb => [0x6400]
  | .msds g => [0x6500 + put 0 g]
  | .fget e r h => [0x1000 + put 5 e + put 4 r + put 0 h]
  | .fwarm h => [0x1100 + put 0 h]
  | .frel => [0x1200]
  | .fdrop => [0x1300]
  | .aget w h => [0x1000 + put 4 w + put 0 h]
  | .apin w h => [0x1100 + put 4 w + put 0 h]
  | .aunpin h => [0x1200 + put 0 h]
  | .aalloc h => [0x1300 + put 0 h]
  | .apub h => [0x1400 + put 0 h]
  | .aabort h => [0x1500 + put 0 h]
  | .wclaim h => [0x1000 + put 0 h]
  | .wstat h => [0x1100 + put 0 h]
  | .wlaunch h => [0x1200 + put 0 h]
  | .wrel => [0x1300]
  | .wstop => [0x1400]
  | .wdrain => [0x1500]
  | .yarv p => [0x1000 + put 0 p]
  | .yred o h => [0x1100 + put 4 o + put 0 h]
  | .yadd w h => [0x1200 + put 4 w + put 0 h]
  | .ccopy s d => [0x1000 + put 4 s + put 0 d]
  | .c2d s d => [0x1100 + put 4 s + put 0 d]
  | .cfill d => [0x1200 + put 0 d]
  | .cgath s d => [0x1300 + put 4 s + put 0 d]
  | .cscat s d => [0x1400 + put 4 s + put 0 d]
  | .czip s d => [0x1500 + put 4 s + put 0 d]
  | .cunz s d => [0x1600 + put 4 s + put 0 d]
  | .cdf s d => [0x1700 + put 4 s + put 0 d]
  | .crput s => [0x1800 + put 0 s]
  | .crget d => [0x1900 + put 0 d]
  | .crred s => [0x1A00 + put 0 s]
  | .lstep => [0x1000]
  | .lret c => [0x1100 + put 0 c]
  | .lhold h => [0x1200 + put 0 h]
  | .lstat h => [0x1300 + put 0 h]
  | .lseq h => [0x1400 + put 0 h]
  | .reservedEncoding w => [w.toNat]
  | .unassignedEngineOpcode w => [w.toNat]
  | .mxOperationComplete => []
  | .fetchPinsTaken _ => []
  | .fetchComplete _ => []
  | .fetchRelease _ _ => []
  | .fwarmComplete _ => []
  | .adapterAction _ => []
  | .localWalkComplete _ => []
  | .syOperationComplete _ => []
  | .copyOperationStart _ _ => []
  | .copyOperationComplete _ _ => []
  | .lstepResume _ => []
  | .retireRecord => []
  | .llcmd _ _ _ => []
  | .resultLanding _ => []
  | .loadReturn _ _ _ => []
  | .storePerformed _ => []
  | .vectorComplete _ => []
  | .fetchFill _ _ => []
  | .asyncEntry => []
  | .urgentPreemptionRequest _ => []
  | .preemptlate _ => []
  | .contextSave _ => []
  | .contextRestore _ _ => []
  | .taskEndCounted _ _ _ => []
  | .queueNotify _ _ _ => []
  | .queueSlotRelease _ => []
  | .launchActivation _ => []
  | .dependencesMet _ => []
  | .timeSliceEnd _ => []
  | .launchRetirement _ => []
  | .wickTakeLaunch _ => []
  | .taskHandOff => []
  | .claimGrant _ _ => []
  | .gangHandOff _ => []
  | .taskStart _ => []
  | .drainComplete _ => []
  | .arrival _ _ _ _ => []
  | .childFlip _ _ _ => []
  | .ringSpanApplied _ => []
  | .waitSatisfied _ => []
  | .syncSramError _ => []
  | .homeRead _ _ => []
  | .homeRegistration _ _ _ _ => []
  | .homeWriteBack _ _ _ => []
  | .forwardedRead _ _ => []
  | .revoke _ _ => []
  | .registrationAck _ _ => []
  | .lineEviction _ => []
  | .hostAccess _ _ _ _ => []
  | .hostLineWriteback _ _ _ => []
  | .uncorrectableError _ _ => []
  | .sdreq _ _ => []
  | .shootdownComplete _ => []
  | .agentDead _ _ => []
  | .snufferScrub _ => []
  | .pctl _ _ => []
  | .ptbase _ _ => []
  | .swin _ _ => []
  | .sdesc _ _ => []
  | .evring _ _ => []
  | .waymask _ _ => []
  | .reclaimVisit _ _ => []
  | .reclaimComplete _ => []
  | .rgo _ _ => []
  | .clusterRelease _ _ => []
  | .icreq _ _ => []
  | .icreqComplete _ => []
  | .roleToMemoryOnly _ => []
  | .roleToCompute _ => []
  | .roleCancelDrain _ => []
  | .layerDrainEnd _ => []
  | .layerPowerUpComplete _ => []
  | .dead _ => []
  | .hattach _ => []
  | .managementRegisterWrite _ _ => []
  | .bwInterval _ => []
  | .islandFrequencyInterval _ _ => []
  | .heartbeatPeriod => []
  | .hostHeartbeat _ => []
  | .flitData _ _ => []
  | .flitReadRequest _ _ => []
  | .flitAcknowledgement _ _ => []
  | .flitBarrierArrival _ _ => []
  | .flitBarrierFlip _ _ => []
  | .flitHeartbeat _ _ => []
  | .flitRefusal _ _ => []
  | .bringUp => []
  | .reFlash _ => []
  | .expansionDeviceLost _ => []
  | .linkLoss _ => []
  | .writeBackAcknowledgement _ => []
  | .flitCheckCodeFailure _ _ => []

end Sys2Proof
end

