-- ==== Sys2Proof/Machine/Context.lean ====
section
/-! DEFINITION. The architectural state of one running task (R90), the queues of its slot (R139), and the plain data
the sequencer's rules speak of. -/

namespace Sys2Proof.Machine

/-- A sparse memory of w-bit cells: (address, value) pairs, addresses strictly rising, no value 0 (what an unlisted
address reads as, log 1). -/
abbrev Cells (w : Nat) := List (Nat × BitVec w)

/-- R103: the privilege levels, in rising order. -/
inductive Level where
  | task | supervisor | machine
  deriving DecidableEq, Repr

/-- R104, R105: PRV. -/
structure Priv where
  /-- PRV.CUR. -/
  cur : Level
  /-- PRV.EMASK: asynchronous entries are held pending. -/
  emask : Bool
  deriving DecidableEq, Repr

/-- R104: one bank of the exception registers. -/
structure Bank where
  /-- R106. -/
  cause : Dword
  /-- R132. -/
  epc : Dword
  /-- R132. -/
  eval : Dword
  /-- R105: bit 2 EMASK, bits[1:0] CUR, as the privilege stood before entry. -/
  estat : BitVec 3
  /-- R104: handler use. -/
  scratch : Dword
  deriving DecidableEq, Repr

/-- R90, R121: one level of the loop stack. -/
structure LoopLevel where
  index : Word
  count : Word
  start : Dword
  fin : Dword
  deriving DecidableEq, Repr

/-- R99: a fixed-latency result not yet landed: its landing cycle, destination operand code and value. -/
structure Pending where
  due : Nat
  dest : Code
  value : Dword
  deriving DecidableEq, Repr

/-- R93: an entry of a landing-buffer bank. -/
structure Landing where
  value : Dword
  dest : Code
  remaining : Nat
  deriving DecidableEq, Repr

/-- R130: the trap causes. -/
inductive Cause where
  | none | illop | illopd | priv | badtarget | halfline | unsealed | xperm | wperm | rperm | bound | page | align
  | fmtbad | estk | eopx | accfirst | ownbrk | stallck | loopovf | zovr | poison | hostlost | memerr | syncerr
  | preemptlate | qstarve | softtrap
  deriving DecidableEq, Repr

/-- R130: the cause code. -/
def Cause.code : Cause → Nat
  | .none => 0 | .illop => 1 | .illopd => 2 | .priv => 3 | .badtarget => 4 | .halfline => 5 | .unsealed => 6
  | .xperm => 7 | .wperm => 8 | .rperm => 9 | .bound => 10 | .page => 11 | .align => 12 | .fmtbad => 13 | .estk => 14
  | .eopx => 15 | .accfirst => 16 | .ownbrk => 17 | .stallck => 18 | .loopovf => 19 | .zovr => 20 | .poison => 21
  | .hostlost => 22 | .memerr => 23 | .syncerr => 24 | .preemptlate => 25 | .qstarve => 26 | .softtrap => 27

/-- R133: an asynchronous cause held for a context: cause, SRC of R106, cause value, and the privilege it was raised at (R131). -/
structure Held where
  cause : Cause
  src : Nat
  val : Dword
  lvl : Level
  deriving DecidableEq, Repr

/-- R17, R43: scopes, in rising order. -/
inductive Scope where
  | c | k | d | p | s
  deriving DecidableEq, Repr

/-- R42: where a checked access goes. -/
inductive Space where
  | global | scratch | sync | code
  deriving DecidableEq, Repr

/-- R41: the cache policies. -/
inductive CachePolicy where
  | normal | stream | noLlc | keep
  deriving DecidableEq, Repr

/-- R332 to R334: what an atomic makes of the old value. -/
inductive Atom where
  | swp | add | and | or | xor | min | max | minn | maxn | cas | fadd
  deriving DecidableEq, Repr

/-- What an entry of the load queue makes of its bytes: a load's value (R155), an atomic (R332 to R334), a ring's
reservation or claim (R337). -/
inductive LoadKind where
  | signed | unsigned
  /-- v is the operand, e the expected value of `acas`. -/
  | atomic (op : Atom) (v e : Dword)
  | reserve (take : Bool) (n : Nat)
  deriving DecidableEq, Repr

/-- R331: it holds an entry of the store queue too, and counts as a store. -/
def LoadKind.stores : LoadKind → Bool
  | .atomic _ _ _ | .reserve _ _ => true
  | .signed | .unsigned => false

/-- R139, R141: a load sent and not yet returned. -/
structure LoadEntry where
  /-- Program order within the slot. -/
  serial : Nat
  space : Space
  policy : CachePolicy
  /-- Physical, scratchpad or sync address of each byte in order; those of a global access may lie in two pages. -/
  addrs : List Nat
  /-- The address R150 reports. -/
  va : Dword
  kind : LoadKind
  dest : Code
  /-- It has returned, or (a mark, a load that bound when it issued) it only holds its entry until older ones leave. -/
  back : Bool
  deriving DecidableEq, Repr

/-- R411: whose store it was: the task of a launch, or of one of its local walks, and the context that ran it. -/
structure Storer where
  launch : Nat
  walk : Option Nat
  task : Nat
  ctx : Nat
  deriving DecidableEq, Repr

/-- R139, R140: a store in its store queue: the bytes it writes, as (address, byte) pairs in the order performed; none for a
mark (R145). -/
structure StoreEntry where
  serial : Nat
  space : Space
  policy : CachePolicy
  bytes : List (Nat × Byte)
  /-- R147, R411: whose it is. -/
  who : Storer
  /-- The tile register of a `tst`. -/
  tile : Option Nat
  /-- It is a plain or releasing store of a register, which alone writes a doorbell frame's register (R417). -/
  plain : Bool
  /-- R275: its lines that lie in a factor pool. -/
  pool : List Nat
  deriving DecidableEq, Repr

/-- It is a `tst`, whose sectors may make whole-line writes (R409). -/
def StoreEntry.whole (e : StoreEntry) : Bool := e.tile.isSome

def StoreEntry.launch (e : StoreEntry) : Nat := e.who.launch
def StoreEntry.ctx (e : StoreEntry) : Nat := e.who.ctx

/-- R169: a fetch copy: the physical line address and the 128 bytes of one fill. -/
structure FetchCopy where
  line : Nat
  data : BitVec 1024
  deriving DecidableEq, Repr

/-- R170: a fill whose sectors are still being read: the sectors got so far, in the order read (3, 0, 1, 2). -/
structure Fill where
  line : Nat
  got : List (BitVec 256)
  deriving DecidableEq, Repr

/-- R164, R167: how the next instruction's address was reached. -/
inductive Reach where
  /-- Task start or trap entry: it must be slot 0 of an entry line. -/
  | entry
  /-- Sequential fall-through: it may not be slot 0 of an entry line. -/
  | fall
  /-- A checked transfer, a loop edge, `eret` or a restore. -/
  | other
  deriving DecidableEq, Repr

/-- R243, R260: an open ownership window. -/
structure Window where
  /-- Engine identifier. -/
  eng : Nat
  /-- The completion sequence number that closes it. -/
  upto : Nat
  /-- false: accumulator row; true: tile-file row. -/
  tile : Bool
  /-- false: a read window; true: a write window. -/
  write : Bool
  row : Nat
  deriving DecidableEq, Repr

/-- R338: what a waiting instruction or a pending ring action is about; R340. -/
inductive WaitKind where
  /-- `bwait`: target phase. -/
  | phase (addr : Nat) (target : Word)
  /-- `rwfill`: s + n. -/
  | filled (addr : Nat) (upto : Word)
  /-- `rwfree`: s + n. -/
  | freed (addr : Nat) (upto : Word)
  deriving DecidableEq, Repr

/-- R90: a context: the architectural state of one running task, with what its slot's rules hold about it. -/
structure Context where
  /-- Byte address of the next instruction. -/
  pc : Dword
  /-- Loop stack, level 0 first; at most six levels (R121). -/
  loops : List LoopLevel
  x : Vector Dword 32
  o : Vector Dword 8
  l0 : Dword
  l1 : Dword
  /-- Physical predicates (R97, R183). -/
  p : Vector Pred 8
  /-- Handle slots: handle-table indices. -/
  h : Vector (BitVec 12) 16
  /-- Landing-buffer banks of task and supervisor privilege (R102). -/
  landT : List Landing
  landS : List Landing
  /-- R97. -/
  rrb : BitVec 6
  /-- VWIN.ROW0 (R180). -/
  row0 : BitVec 7
  /-- ACFG bits[3:0] (R221). -/
  acc : BitVec 4
  /-- ACFG bits[11:8]: PW, SOV, SAT, NV (R57). -/
  flags : BitVec 4
  /-- CHK bits[1:0] (R137). -/
  chk : BitVec 2
  /-- The stochastic generator (R65). -/
  gen : Dword
  prv : Priv
  ctxid : BitVec 14
  /-- TASKID bits[63:32] and bits[31:0] (R104). -/
  lid : Word
  taskNo : Word
  /-- The supervisor bank (R104). -/
  sup : Bank
  /-- Schedule cycle of the next instruction (R98). -/
  sched : Nat
  /-- Fixed-latency results not yet landed, oldest in program order first (R99). -/
  pend : List Pending
  /-- Serial number of the next load or store (R139). -/
  serial : Nat
  /-- R139: the load queue. -/
  lq : List LoadEntry
  /-- R145: a mark whose conditions the next memory instruction awaits; of several, the widest scope. -/
  mark : Option Scope
  /-- R169: the fetch buffer, at most two lines. -/
  fbuf : List FetchCopy
  /-- R170: the fill in progress of the line fetched ahead. -/
  fill : Option Fill
  /-- R164: how the pc was reached. -/
  reach : Reach
  /-- R133: asynchronous causes held, oldest first. -/
  held : List Held
  /-- R187, R189: vector instructions issued and not completed. -/
  vbusy : Nat
  /-- R340: the waiting instruction found unmet at its last issue. -/
  waiting : Option WaitKind
  /-- R38: the cycle at which an urgent pre-emption request reached the core. -/
  urgent : Option Nat
  /-- R38: stopped at a boundary, issues nothing further until restored. -/
  stopped : Bool
  /-- The model's key of the launch it runs, and of the local walk that handed it (R314). -/
  launch : Nat
  walk : Option Nat
  /-- R296: it holds a permit. -/
  permit : Bool
  /-- R300: a gang member in a reserved slot. -/
  gang : Bool
  /-- R311: further task numbers it claimed. -/
  claimed : Nat
  /-- R243: open ownership windows. -/
  windows : List Window
  deriving DecidableEq, Repr

end Sys2Proof.Machine
end

