-- ==== Sys2Proof/Machine/Engines.lean ====
section
/-! DEFINITION. The state of the command engines and of the cluster's Wick: queued commands, engine stacks, completion
numbers, operations launched and not completed, records and walks (R8, R44 to R51, and each engine's chapter). -/

namespace Sys2Proof.Machine

/-- R39, R47, R341, R345: who sent a command, as it stood when the sending instruction issued. -/
structure Issuer where
  /-- CTXID, or 0x4000 + 2 × partition + port for a host context (R371). -/
  ctx : Nat
  slot : Bool
  part : Nat
  /-- The model's key of the launch, 0 for a host context. -/
  launch : Nat
  walk : Option Nat
  task : Nat
  level : Level
  handles : Vector (BitVec 12) 16
  /-- ACFG.AT (R233). -/
  acc : BitVec 4
  deriving DecidableEq, Repr

/-- R371: the host contexts are numbered from 0x4000. -/
def Issuer.host (i : Issuer) : Bool := 0x4000 ≤ i.ctx

/-- R216: a retire record of `vstop`. -/
structure RetireRec where
  q : Nat
  tok : Word
  lid : Word
  lane : Nat
  /-- 1: a stop token. -/
  cause : Nat
  deriving DecidableEq, Repr

/-- R152: a range of the scoreboard: [lo, hi), destination or source, and the operation that holds it. -/
structure Range where
  lo : Nat
  hi : Nat
  dest : Bool
  eng : Nat
  ctx : Nat
  num : Nat
  deriving DecidableEq, Repr

/-- R47: a command delivered by one sending instruction; the word that runs next is the head of its words. -/
structure Cmd where
  eng : Nat
  iss : Issuer
  /-- The value `xsend` pushes before its words. -/
  param : Option Dword
  words : List Half
  /-- Index of the next word in the command (R130 ESTK, EOPX). -/
  index : Nat
  /-- R48: the store-queue serial below which the thread's stores must be performed. -/
  after : Nat
  /-- It has left the core's command queue and runs at its engine. -/
  running : Bool
  /-- R216: it is a retire record instead of words. -/
  retire : Option RetireRec
  /-- Its place among all commands sent. -/
  order : Nat
  /-- R351: the scratchpad ranges its operations will take. -/
  spans : List Range
  deriving DecidableEq, Repr

/-- R44, R49: an engine's private stack and completion sequence number for one issuing context. -/
structure EngCtx where
  eng : Nat
  ctx : Nat
  /-- Top first, at most eight. -/
  stack : List Dword
  /-- Completion sequence number. -/
  seq : Word
  /-- Operations launched and not yet counted, oldest first: true when completed. -/
  ops : List Bool
  /-- Operations launched, in all. -/
  launched : Nat
  deriving DecidableEq, Repr

/-- R224: a field set. -/
abbrev Fields := Vector Word 128

/-- R230: an operation of the matrix engine. -/
inductive MxKind where
  | go (fs : Fields) (side : Bool)
  | zero (rf nr lf nl : Nat)
  | stat (row : Nat) (clear : Bool)
  | save
  | load
  deriving DecidableEq, Repr

structure MxOp where
  iss : Issuer
  /-- Its place among its context's operations (R49). -/
  num : Nat
  kind : MxKind
  /-- R241: the updates it has made so far. -/
  pos : Nat
  /-- R261: the side accumulator U, component q of row m at 64m + q. -/
  side : Cells 32
  /-- R228: the lanes of each accumulator row that its steps have updated. -/
  seen : Cells 256
  deriving DecidableEq, Repr

/-- The matrix engine (R223, R229, R230). -/
structure Mx where
  active : Fields
  shadow : Fields
  /-- R229: NANIN, OVF, NV. -/
  status : BitVec 3
  /-- In launch order. -/
  ops : List MxOp
  deriving DecidableEq, Repr

/-- R253, R257: how far a fetch has come. -/
inductive FetchStage where
  | waiting | pinned | written
  deriving DecidableEq, Repr

/-- R246, R253: a fetch of the tile fetch unit that has not both completed and released, with what its checks found (R248):
the handle's fields, the format code of BASE's page, and the pages it reads as (page, bytes, frame). -/
structure Fetch where
  iss : Issuer
  num : Nat
  g : Dword
  off : Nat
  base : Nat
  elen : Nat
  fmt : Nat
  tstype : Nat
  tscale : Word
  policy : CachePolicy
  pages : List (Nat × Nat × Nat)
  /-- REL and its C. -/
  rel : Option Word
  /-- EV and its barrier address. -/
  ev : Option Nat
  warm : Bool
  stage : FetchStage
  /-- R256: `frel` or `fdrop` has named it. -/
  dropped : Bool
  /-- Physical lines of its span, ascending. -/
  lines : List Nat
  deriving DecidableEq, Repr

/-- R278: the barrier operand of an engine word. -/
abbrev Bar := Option Nat

/-- R277: an adapter action. -/
inductive AtKind where
  | get (v m : Nat) (w : Bool)
  | pin (m : Nat) (w : Bool)
  | unpin (v : Nat)
  | alloc (n vn ve : Nat)
  | pub (vn : Nat)
  | abort (vn : Nat)
  deriving DecidableEq, Repr

/-- Bytes that an operation's checks have found: their space, the virtual, scratchpad or sync address of the first, and the
pages they lie on as (page, bytes, frame). -/
structure Spot where
  space : Space
  base : Nat
  pages : List (Nat × Nat × Nat)
  deriving DecidableEq, Repr

structure AtOp where
  iss : Issuer
  num : Nat
  kind : AtKind
  /-- Adapter number, KEY of the record slot's handle, barrier, and where the record goes. -/
  a : Nat
  key : Nat
  bar : Bar
  spot : Spot
  deriving DecidableEq, Repr

/-- R341: an operation of the synchronisation engine, with what its word's checks found. -/
inductive SyKind where
  | arv (bytes : Nat) (poison : Bool)
  /-- Its op, destination, source, elements, and the cache policies of both. -/
  | red (op : Nat) (dst src : Spot) (n : Nat) (pd ps : CachePolicy)
  /-- The space and the address of each byte of the dword or word, the value added, BASE + offset, and the cache policy. -/
  | add (sp : Space) (addrs : List Nat) (v : Dword) (va : Dword) (pol : CachePolicy)
  deriving DecidableEq, Repr

structure SyOp where
  iss : Issuer
  num : Nat
  kind : SyKind
  bar : Bar
  /-- Elements updated so far. -/
  pos : Nat
  /-- R51: bytes its barrier has counted so far. -/
  counted : Nat
  deriving DecidableEq, Repr

/-- R41: a handle entry. -/
structure Handle where
  base : Nat
  bound : Nat
  elen : Nat
  key : Nat
  policy : CachePolicy
  space : Space
  tstype : Nat
  tscale : Word
  deriving DecidableEq, Repr

/-- R353: an operation of a copy engine. -/
inductive CpKind where
  | copy (hs hd : Nat) (src dst : Dword) (n : Nat)
  | rows (hs hd : Nat) (src dst : Dword) (rows bytes sstride dstride : Nat)
  | fill (hd : Nat) (dst : Dword) (n : Nat) (pattern : Dword)
  | gather (hs hd : Nat) (src dst : Dword) (hl : Nat) (list : Dword) (n e : Nat)
  | scatter (hs hd : Nat) (src dst : Dword) (hl : Nat) (list : Dword) (n e : Nat)
  | zip (hs hd : Nat) (src dst : Dword) (n w cap : Nat)
  | unzip (hs hd : Nat) (src dst : Dword) (n w srcmax : Nat) (fence : Bool)
  | put (hs : Nat) (src remote : Dword) (n : Nat) (rbar : Bar)
  | get (hd : Nat) (dst remote : Dword) (n : Nat)
  | reduce (hs : Nat) (src remote : Dword) (op n : Nat) (rbar : Bar)
  deriving DecidableEq, Repr

structure CpOp where
  eng : Nat
  iss : Issuer
  num : Nat
  kind : CpKind
  bar : Bar
  /-- R346: it has started, and its checks of R348 items 1 to 3 have found these handles. -/
  started : Bool
  src : Option Handle
  dst : Option Handle
  list : Option Handle
  /-- How far it has come: rows, elements or blocks, and bytes. -/
  idx : Nat
  pos : Nat
  /-- R433: the peer's partition, as the launch read it. -/
  peer : Nat
  /-- R365: a remote operation awaits the answer to a flit, of so many bytes; R364: that of its remote barrier. -/
  sent : Bool
  out : Nat
  last : Bool
  /-- R357: the offset that the list gives the element being moved, once read. -/
  elem : Option Nat
  /-- R366: bytes received and not yet written. -/
  got : List Byte
  /-- R51: bytes its barrier has counted so far. -/
  counted : Nat
  /-- R410: a partial write of it has been dropped at the home. -/
  bad : Bool
  /-- R348, R368, R433: how it ended, if it ended by a fault. -/
  fault : Option (Cause × Dword)
  deriving DecidableEq, Repr

/-- R290: the orders of a walk. -/
inductive Order where
  | lex | reverse | serpentine | zorder | strided
  deriving DecidableEq, Repr

/-- R289, R291: a checked nest record. -/
structure Nest where
  code : Dword
  /-- Its address. -/
  addr : Dword
  order : Order
  nlev : Nat
  za : Nat
  zb : Nat
  cnt : List Nat
  deriving DecidableEq, Repr

/-- R294, R314: a walk: of a launch (`walk` none in its tasks) or local, with its home counts. -/
structure Walk where
  nest : Nest
  total : Nat
  /-- R294: the cursor; in a strided walk R302's saved position. -/
  next : Nat
  /-- Tasks handed by every cluster, and ended. -/
  handed : Nat
  ended : Nat
  stopped : Bool
  /-- R302: draining; a strided walk hands only rounds below the bound. -/
  draining : Bool
  bound : Nat
  /-- Participating clusters of a strided walk with each next unhanded task (R293). -/
  shares : List (Nat × Nat)
  deriving DecidableEq, Repr

/-- R295: an active record of the modelled cluster's Wick. -/
structure WickRec where
  slot : Nat
  launch : Nat
  /-- The local walk it walks, if it is one. -/
  walk : Option Nat
  prio : Nat
  deriving DecidableEq, Repr

/-- R314: a local walk. -/
structure LocalWalk where
  id : Nat
  launch : Nat
  iss : Issuer
  num : Nat
  bar : Bar
  walk : Walk
  /-- It waits for a record slot. -/
  waiting : Bool
  deriving DecidableEq, Repr

/-- R296, R297: a task handed to a core: launch, number, index vector. -/
structure Task where
  launch : Nat
  walk : Option Nat
  n : Nat
  idx : List Nat
  deriving DecidableEq, Repr

/-- R295 to R298, R314: the modelled cluster's Wick. -/
structure Wick where
  /-- R295: held record slots. -/
  recs : List WickRec
  /-- R295: launches whose claiming record was parked, to rejoin in priority order. -/
  parked : List Nat
  /-- R296: free permits of the cluster's cores. -/
  permits : Vector Nat 12
  /-- R296: the modelled core's task queue, oldest first. -/
  queue : List Task
  /-- Tasks handed to the cluster's other cores: (core within the cluster, task). -/
  away : List (Nat × Task)
  locals : List LocalWalk
  deriving DecidableEq, Repr

/-- R375: a sequence slot. -/
structure Seq where
  q : Nat
  /-- R375 STATE: live, else pending retirement. -/
  live : Bool
  base : Bool
  adp : Nat
  key : Nat
  ver : Word
  vslot : Nat
  reqid : Dword
  pos : Nat
  maxpos : Nat
  bstep : Word
  nstep : Word
  tok : Word
  cause : Nat
  /-- What its `apin` reported of the adapter: rank, factor format, pages, alpha (R382). -/
  rank : Nat
  ff : Nat
  npg : Nat
  alpha : Word
  deriving DecidableEq, Repr

/-- R381: an `lstep` that waits for its ring index, with the batch entry built and what it ends with. -/
structure StepWait where
  iss : Issuer
  num : Nat
  bar : Bar
  index : Word
  bytes : List Byte
  bslot : Nat
  ring : Nat
  /-- R385: its arrival carries the poison flag. -/
  poison : Bool
  deriving DecidableEq, Repr

/-- R369: a partition context of the Lamplighter. -/
structure LlPart where
  part : Nat
  step : Word
  hold : Bool
  /-- Sequence slots that are not free. -/
  seqs : List Seq
  /-- The pending list, in arrival order: slots. -/
  pending : List Nat
  /-- R372: the TAIL in force, once one has been read. -/
  tail : Option Word
  /-- R372: it has consumed an entry of its chain. -/
  begun : Bool
  /-- R389: batch entries posted. -/
  posted : Word
  waiting : Option StepWait
  deriving DecidableEq, Repr

/-- Every command engine reached from the modelled core, with the commands queued and running (R47). -/
structure Engines where
  cmds : List Cmd
  /-- Commands sent so far, the model's own count. -/
  sends : Nat
  ctxs : List EngCtx
  mx : Mx
  fetches : List Fetch
  adapt : List AtOp
  sy : List SyOp
  cp : List CpOp
  ranges : List Range
  ll : List LlPart
  deriving DecidableEq, Repr

end Sys2Proof.Machine
end

