-- ==== Sys2Proof/Machine/Package.lean ====
section
/-! DEFINITION. The state of the package outside the core and its engines: caches and coherence, synchronisation space,
launches and queues, partition and package registers, hosts, links, power. -/

namespace Sys2Proof.Machine

/-- R391: the state of a word of the coherent data cache that holds a copy; I is no entry, and F is a load of the load
queue that has not returned. -/
inductive WordState where
  /-- A copy that may be stale. -/
  | v
  /-- Registered to this core. -/
  | r
  /-- Registration outstanding. -/
  | p
  /-- Write-back outstanding. -/
  | w
  deriving DecidableEq, Repr

/-- R392, R393: a registration the core has sent for a word: the bytes it stored, under their mask; whether the home has
recorded it; and whose store it was. -/
structure Reg where
  mask : BitVec 4
  data : Word
  recorded : Bool
  who : Storer
  deriving DecidableEq, Repr

/-- R393, R394, R324: a message between the modelled core, a home slice or the synchronisation engines that has been sent
and has not arrived. -/
inductive Msg where
  /-- Core to home: a registration with the mask of the bytes stored. -/
  | register (word : Nat) (mask : BitVec 4)
  /-- Home to core: the acknowledgement, with the value received (none: the core was the registrant already), and whether
  that value comes from another core, after the acknowledgement itself. -/
  | ack (word : Nat) (data : Option Word) (fromCore : Bool)
  /-- Core to home. -/
  | writeBack (word : Nat) (data : Word)
  /-- Home to core. -/
  | wbAck (word : Nat)
  /-- Home to core: a forwarded read for another core. -/
  | forward (word for_ : Nat)
  /-- Home to core: a revoke naming another agent, with the bytes that registrations after this core's have stored. -/
  | revoke (word goal : Nat) (mask : BitVec 4)
  /-- An arrival on its way to a barrier object. -/
  | arrive (addr bytes : Nat) (poison : Bool) (src : ArrSrc)
  /-- A parent's flip on its way to a child. -/
  | flip (parent child phase : Nat) (poison : Bool)
  deriving DecidableEq, Repr

/-- R391: a word of the coherent data cache (word address, so byte address / 4). -/
structure CacheWord where
  word : Nat
  st : WordState
  /-- The last value known, before the bytes of `regs`; none: an acquire has ended it (R146), or none was ever read. -/
  known : Option Word
  /-- R394: the value a forwarded read or a revoke is answered with: the word's in R, the write-back buffer's in W; in P, that
  of a registration already acknowledged or of a write-back still out. -/
  held : Option Word
  /-- Registrations sent and not acknowledged, oldest first. -/
  regs : List Reg
  /-- R411: who of the core stored to it last; none where none has. -/
  who : Option Storer
  deriving DecidableEq, Repr

/-- R397: what a host holds of a host line. -/
inductive HostState where
  /-- N: the host holds nothing, of a line of its memory that the device holds exclusive. For device memory N is no entry. -/
  | absent
  | shared
  /-- Held exclusive, or modified. -/
  | excl (modified : Bool)
  deriving DecidableEq, Repr

structure HostEntry where
  port : Nat
  /-- Host line: byte address / 64. -/
  line : Nat
  st : HostState
  deriving DecidableEq, Repr

/-- R404: a page-table entry held until a shootdown: the first byte and the bytes it covers, and the entry, leaf or table. -/
structure Tlb where
  part : Nat
  page : Nat
  size : Nat
  pte : Dword
  deriving DecidableEq, Repr

/-- R398, R254: a device write at the home that waits for a host line or a pin. -/
structure WaitingWrite where
  bytes : List (Nat × Byte)
  whole : Bool
  /-- R411: the partition whose structure it writes, told if it is dropped; none: a record, whose loss is only notified (R445). -/
  part : Option Nat
  /-- R422: messages sent once it is performed. -/
  reply : List Msg
  /-- R22, R422: the ring (partition, address) that it writes a record of; such writes are performed in sequence order. -/
  ring : Option (Nat × Nat)
  deriving DecidableEq, Repr

/-- R53: a transfer (its engine, context, sequence number and part), the lines it has written, oldest first, and the virtual address that
its last bytes reach. -/
structure Transfer where
  key : Nat × Nat × Nat × Nat
  lines : List Nat
  upto : Nat
  deriving DecidableEq, Repr

/-- A line held in its home slice, and its way (R423); one brought in under keep-in-LLC (R42). -/
structure LlcLine where
  line : Nat
  way : Nat
  keep : Bool
  deriving DecidableEq, Repr

/-- Memory, its caches and its markers (chapter 14). -/
structure Fabric where
  /-- The newest value of each byte in its coherence order (R142, R395): the home's, or the registrant's. -/
  mem : Cells 8
  /-- The modelled core's coherent data cache. -/
  dcache : List CacheWord
  /-- R390: home records of registered words: word, core. -/
  owners : List (Nat × Nat)
  /-- R169: the modelled core's instruction cache. -/
  icache : List FetchCopy
  tlb : List Tlb
  /-- R407: lines marked POISON, and LOST. -/
  poison : List Nat
  lost : List Nat
  /-- R410: lines whose stored copy in memory holds an uncorrectable error that a read of data and markers will meet. -/
  latent : List Nat
  /-- R401: lines whose accesses a host completes with an error. -/
  hostErrs : List Nat
  hosts : List HostEntry
  /-- R398: host lines of host memory written at `.p` and not yet in a line the device holds exclusive. -/
  unsent : List Nat
  waiting : List WaitingWrite
  /-- R53: the lines each transfer has written since the core's last acquire. -/
  transfers : List Transfer
  /-- Lines held in last-level cache slices, in falling replacement rank. -/
  llc : List LlcLine
  deriving DecidableEq, Repr

/-- R338: an `rpost` (or `rfree`) span waiting for its turn at its ring object. -/
structure PendingSpan where
  ring : Nat
  free : Bool
  s : Word
  n : Nat
  slot : Bool
  iss : Issuer
  /-- Its place in its slot's program order. -/
  serial : Nat
  deriving DecidableEq, Repr

/-- R323, R435: a child arrival counted at a parent: the child (with its module, when remote) and the phases. -/
structure ChildArrival where
  parent : Nat
  child : Nat
  mod : Option Nat
  /-- R435: the partition a remote child belongs to. -/
  part : Nat
  /-- The child's phase the arrival carries. -/
  phase : Nat
  /-- ARR of the parent before it. -/
  place : Nat
  /-- R323: it was counted with US = 1, for the phase after the one that ends next. -/
  next : Bool
  deriving DecidableEq, Repr

/-- R329: an entry of an engine (a die) that lies in a partition's overflow area, at a slot of 16 bytes. -/
structure Spill where
  layer : Nat
  part : Nat
  slot : Nat
  deriving DecidableEq, Repr

/-- Synchronisation space (chapter 11). -/
structure SyncSpace where
  sram : Cells 8
  /-- R320: spoiled dwords (addresses). -/
  spoiled : List Nat
  pend : List PendingSpan
  children : List ChildArrival
  /-- R329: the entries spilled, in the order they arose. -/
  spills : List Spill
  deriving DecidableEq, Repr

/-- R22: the fault policies. -/
inductive Policy where
  | stop | contain | goOn | trap
  deriving DecidableEq, Repr

/-- R18: where a node of the region tree lies: at a machine-physical address (a partition's RCB, the root), or at a virtual one. -/
structure NodeRef where
  phys : Bool
  addr : Dword
  deriving DecidableEq, Repr

/-- R25, R441: the resolved values of a node. -/
structure Resolved where
  prio : Nat
  mask : BitVec 256
  spad : Nat
  ways : Nat
  acs : Nat
  bww : Nat
  slice : Nat
  preempt : Bool
  policy : Policy
  /-- The node whose policy applies (R22, CONTAIN). -/
  policyNode : NodeRef
  domain : Nat
  /-- Ring address and 2^(QSIZE+4) records; none: no fault queue. -/
  fq : Option (Dword × Nat)
  htab : Dword
  trapv : Dword
  deriving DecidableEq, Repr

/-- R23, R40: where a launch stands. -/
inductive LaunchState where
  | waiting | ready | running | draining
  /-- R38: drained, and back at the head of its queue. -/
  | preempted
  deriving DecidableEq, Repr

/-- R25, R40: an activated launch. -/
structure Launch where
  key : Nat
  part : Nat
  queue : Nat
  /-- Its place among the entries taken from its queue (R40 step 3). -/
  entry : Nat
  /-- Leaf RCB address; the nodes above it, from its parent to the partition RCB. -/
  leaf : Dword
  path : List NodeRef
  lid : Word
  res : Resolved
  nest : Dword
  deps : List Dword
  doneb : Dword
  gang : Option Nat
  /-- R19. -/
  serial : Bool
  st : LaunchState
  walk : Option Walk
  /-- PROGRESS (R18). -/
  ended : Nat
  endedFault : Nat
  /-- R23 FCAUSE, when the launch retires faulted. -/
  faulted : Option Cause
  /-- R37: reserved slots (core × 2 + slot) not yet handed. -/
  reserved : List Nat
  /-- R37, R429: the slots reserved for it at its activation, until it retires or is drained. -/
  seats : List Nat
  /-- R40: it has retired, and its entry waits for earlier entries. -/
  retired : Bool
  /-- R304: taken again after a drain. -/
  resumed : Bool
  deriving DecidableEq, Repr

/-- R147, R136: a task whose slot is freed and which has not yet counted as ended. -/
structure Ending where
  launch : Nat
  walk : Option Nat
  task : Nat
  ctx : Nat
  byFault : Bool
  claimed : Nat
  deriving DecidableEq, Repr

/-- R28, R29, R34: a region queue that has been notified: its counts, its table entry as last read, its owner's resolved
values, and whether its PEND bit is set. -/
structure RegionQueue where
  part : Nat
  queue : Nat
  tail : Word
  head : Word
  done : Word
  /-- R34: when it was last notified. -/
  stamp : Nat
  /-- Addresses of its table entry and of its ring, and LOGN. -/
  table : Nat
  ring : Nat
  logn : Nat
  prio : Nat
  bww : Nat
  preempt : Bool
  /-- The region RCB that owns it and the nodes above. -/
  owners : List NodeRef
  pend : Bool
  deriving DecidableEq, Repr

/-- R34, R35: a hardware queue slot that holds a queue. -/
structure QSlot where
  slot : Nat
  part : Nat
  queue : Nat
  /-- The deficit D. -/
  deficit : Int
  deriving DecidableEq, Repr

/-- R22: the record count of a fault-queue ring. -/
structure RingCount where
  part : Nat
  addr : Nat
  count : Nat
  deriving DecidableEq, Repr

/-- R38, R93, R133: a context whose image is in memory, with what the device keeps of it beside the image. -/
structure SavedCtx where
  ctx : Nat
  launch : Nat
  walk : Option Nat
  task : Nat
  claimed : Nat
  gang : Bool
  held : List Held
  /-- R237: its accumulator may still lie in the core. -/
  core : Nat
  deriving DecidableEq, Repr

/-- The dispatcher. -/
structure Dispatcher where
  launches : List Launch
  queues : List RegionQueue
  slots : List QSlot
  /-- R22: nodes held by CONTAIN, with their partition. -/
  held : List (Nat × NodeRef)
  /-- R22: records written to each fault-queue ring. -/
  counts : List RingCount
  ending : List Ending
  /-- R133: partition events no running context could take: partition, cause. -/
  events : List (Nat × Held)
  /-- The next launch key and notify stamp. -/
  nextKey : Nat
  stamp : Nat
  /-- Contexts saved to memory that wait to be restored (R38, R93). -/
  saved : List SavedCtx
  /-- R239, R298: contexts of this core's that another core has restored. -/
  elsewhere : List SavedCtx
  /-- R35: the hardware queue slot visited last at each priority level. -/
  visited : Vector Nat 16
  /-- R419: CTXIDs of live contexts. -/
  live : List Nat
  deriving DecidableEq, Repr

/-- R424: a reclaim in progress: the ways whose bit of the mask changed. -/
structure Reclaim where
  changed : BitVec 16
  deriving DecidableEq, Repr

/-- R418, R432: a partition block, with what its doorbell frame holds (R405). -/
structure PartRegs where
  en : Bool
  pstat : Byte
  prcb : Dword
  ptbase : Dword
  /-- R419: PTBASE has been written. -/
  ptset : Bool
  csbase : Dword
  asbase : Dword
  adesc : Dword
  sdesc : Dword
  swin : Dword
  sovf : Dword
  evring : Dword
  evbar : Dword
  waymask : Dword
  reclaim : Option Reclaim
  rmask : Vector Dword 4
  /-- RSTAT.SEQ, and the clusters still leaving (STATE 1 when any). -/
  rseq : Word
  leaving : List Nat
  /-- The clusters that leave in the resize in progress (R422 kind 2). -/
  leavingMask : BitVec 256
  /-- R305: clusters that have left the partition and not joined it again. -/
  left : BitVec 256
  icdone : Dword
  icreqs : List Dword
  ppeer : Dword
  sdarr : Dword
  sddone : Dword
  sdreqs : List Dword
  /-- R422: event records written to the present ring. -/
  evcount : Nat
  /-- R38: the cycle at which the partition's hold on the cluster began. -/
  hold : Option Nat
  deriving DecidableEq, Repr

/-- R428: LROLE values. -/
inductive Role where
  | memoryOnly | compute | draining | powering
  deriving DecidableEq, Repr

/-- R412, R436: a peer module on the management network. -/
structure Peer where
  mod : Nat
  missed : Nat
  beat : Bool
  fenced : Bool
  deriving DecidableEq, Repr

/-- R436, R437: a host port. -/
structure HostPort where
  attached : Bool
  missed : Nat
  beat : Bool
  fenced : Bool
  deriving DecidableEq, Repr

/-- What the management controller is told (R131, R445). -/
structure Notice where
  cause : Cause
  val : Dword
  deriving DecidableEq, Repr

/-- The package block, the management controller, links and power (chapters 15 and 16). -/
structure Mgmt where
  pkstat : Byte
  root : Dword
  roles : Vector Role 16
  miss : Nat
  per : Nat
  bwHigh : Nat
  bwInt : Nat
  modid : BitVec 9
  linkst : BitVec 36
  pwrcap : Nat
  hosts : Vector HostPort 2
  peers : List Peer
  /-- R439: k of each island's clock, 35 × k MHz; 0 when powered down. -/
  islands : Vector Nat 128
  /-- R425: rate level of each cluster. -/
  rates : Vector Nat 256
  /-- R401: populated bytes of targets 0 and 1, and the CXL parts behind expansion ports 0 and 1. -/
  hbm : Nat
  lpddr : Nat
  cxl0 : Nat
  cxl1 : Nat
  /-- R438: expansion ports fenced. -/
  expLost : Vector Bool 2
  /-- R6: the one image of the module's flash. -/
  flash : Image
  /-- R440, R390: the home hash set from it. -/
  hash : Nat
  /-- R436: the module that each link's heartbeats go to (log 45). -/
  far : List (Nat × Nat)
  /-- R440: bring-up has run. -/
  up : Bool
  notices : List Notice
  /-- Flits sent on the links (R434). -/
  sent : List Flit
  /-- R434: flits dropped or asked for again. -/
  badFlits : Nat
  deriving DecidableEq, Repr

end Sys2Proof.Machine
end

