-- ==== Sys2Proof/Machine/State.lean ====
section
/-! DEFINITION. The machine's state, its state after reset, and the reasons a step can stop. -/

namespace Sys2Proof.Machine

/-- What an agent outside the modelled core and its tables does to them (log 2). -/
inductive Outside where
  /-- R172, R174, R175: another core's `cpub` or `cinv` names a line. -/
  | published (line core : Nat) (scope : Scope)
  /-- R169: replacement in the instruction cache. -/
  | dropCode (line : Nat)
  /-- R397, R398: the host bridge takes a line of a host's memory for the device (R401), or gives it back. -/
  | hostLine (port line : Nat) (st : Option HostState)
  /-- R401: a host answers accesses to a line of its memory with an error, or no longer. -/
  | hostError (line : Nat) (error : Bool)
  /-- R407: an uncorrectable error in the line's words of the modelled core's coherent data cache. -/
  | cacheError (line : Nat)
  /-- R403, R404: another agent of the partition, or a read of the device's own structures (R445), walks for an address: its entries
  are held. -/
  | walked (part va : Nat)
  /-- R239, R298: another core restores a context saved by this one, or saves it again. -/
  | restored (ctx core : Nat)
  | returned (ctx : Nat)
  deriving DecidableEq, Repr

/-- Who moves next (log 2): the model's one source of interleaving, as plain data. Every claim is about every script. -/
inductive Turn where
  /-- The active slot issues. -/
  | issue
  /-- An operation or event of the table happens. -/
  | event (e : Instr)
  /-- The k-th command of the queues runs its next word. -/
  | word (k : Nat)
  /-- R241, R343, R349: the operation running at an engine (`mx` 0, `sy` 4, `cp0` 5, `cp1` 6) for a context makes its next n
  updates or pieces, short of its completion. -/
  | work (eng ctx n : Nat)
  /-- Cycles pass in which nothing issues. -/
  | pass (n : Nat)
  /-- Something outside acts. -/
  | outside (o : Outside)
  deriving DecidableEq, Repr

/-- The modelled core: its slots and what belongs to the core (R90). -/
structure CoreState where
  /-- R2: its package core number. -/
  id : Nat
  /-- R90: context slots 0 and 1. -/
  slot0 : Option Context
  slot1 : Option Context
  /-- R92: the active slot (true: slot 1), the cycle it became active, and the cycle a change ends. -/
  active : Bool
  since : Nat
  busyTill : Nat
  /-- R104 CYCLE, as a count. -/
  cycle : Dword
  /-- Cycles of this model's own count (never written by software). -/
  now : Nat
  bkloss : Vector Word 4
  /-- The machine bank (R104). -/
  bank : Bank
  /-- R236. -/
  acown : BitVec 15
  /-- R223. -/
  actouch : Dword
  /-- R221: accumulator rows. -/
  acc : Cells 4096
  /-- R218: tile-file rows. -/
  tile : Cells 2048
  /-- R151: scratchpad bytes. -/
  scratch : Cells 8
  /-- R139: the store queues of slots 0 and 1. -/
  sq0 : List StoreEntry
  sq1 : List StoreEntry
  deriving DecidableEq, Repr

/-- The state of the machine: every piece the spec gives it (INVENTORY.md lists them), with the model's own script,
messages in flight, and counter of free values. -/
structure State where
  core : CoreState
  eng : Engines
  wick : Wick
  fab : Fabric
  sync : SyncSpace
  disp : Dispatcher
  parts : Vector PartRegs 16
  mgmt : Mgmt
  /-- Turns still to come (log 2). -/
  script : List Turn
  /-- Messages between agents that have been sent and have not arrived, oldest first (R394, R324). -/
  inflight : List Msg
  /-- The model's own counter of free values (log 3). -/
  free : Nat
  deriving DecidableEq, Repr

/-- The machine stops. -/
inductive Fault where
  /-- A sequencer instruction was given to `exec` with no context in the active slot: nothing could have issued it.
  Raised by the issue wrapper; safe (no step raises it, since a step issues only from a context). -/
  | noContext
  /-- An engine word was given to `exec` with no command in the queues: nothing could have delivered it. Raised by the
  engine-word wrapper; safe (no step raises it). -/
  | noCommand
  deriving DecidableEq, Repr

/-- No meaning for the instruction. -/
inductive Refusal where
  /-- Raised by an arm of `exec` whose instruction has no meaning yet; safe. -/
  | notModelled (mnemonic : String)
  deriving DecidableEq, Repr

/-- A bank of exception registers at reset: R105 and R106 give ESTAT and CAUSE 0; EPC, EVAL and SCRATCH 0 by log 4. -/
def Bank.reset : Bank := ⟨0, 0, 0, 0, 0⟩

/-- The Reset values of R224 and R262. -/
def Fields.reset : Fields :=
  ((((((((((((((((Vector.replicate 128 0#32).set 0x40 1#32).set 0x41 1#32).set 0x42 1#32).set 0x43 1#32).set 0x44
    1#32).set 0x45 1#32).set 0x48 3#32).set 0x49 3#32).set 0x4A 0x40#32).set 0x4B 0x40#32).set 0x4D 128#32).set 0x4E
    128#32).set 0x4F 128#32).set 0x51 0x3F800000#32).set 0x52 0x3F800000#32).set 0x53 0x3F800000#32 |>.set 0x55 0x7F#32
    |>.set 0x77 3#32

/-- A partition block at reset (R418, R432: registers reset to 0). -/
def PartRegs.reset : PartRegs where
  en := false; pstat := 0; prcb := 0; ptbase := 0; ptset := false; csbase := 0; asbase := 0; adesc := 0; sdesc := 0
  swin := 0; sovf := 0; evring := 0; evbar := 0; waymask := 0; reclaim := none; rmask := Vector.replicate 4 0
  rseq := 0; leaving := []; leavingMask := 0; left := 0; icdone := 0; icreqs := []; ppeer := 0; sdarr := 0; sddone := 0
  sdreqs := []; evcount := 0; hold := none

/-- The core at reset: no context in either slot; the registers of R105, R106, R223 and R236 at their Reset values;
CYCLE, BKLOSS and the arrays 0 by log 4. -/
def CoreState.reset : CoreState where
  id := 0; slot0 := none; slot1 := none; active := false; since := 0; busyTill := 0; cycle := 0; now := 0
  bkloss := Vector.replicate 4 0; bank := Bank.reset; acown := 0; actouch := 0; acc := []; tile := []; scratch := []
  sq0 := []; sq1 := []

/-- The engines at reset: nothing queued; both field sets at their Reset values (R224). -/
def Engines.reset : Engines where
  cmds := []; sends := 0; ctxs := []; mx := ⟨Fields.reset, Fields.reset, 0, []⟩; fetches := []; adapt := []; sy := []; cp := []
  ranges := []; ll := []

/-- The Wick at reset: two permits for each core (R296). -/
def Wick.reset : Wick where
  recs := []; parked := []; permits := Vector.replicate 12 2; queue := []; away := []; locals := []

def Fabric.reset : Fabric where
  mem := []; dcache := []; owners := []; icache := []; tlb := []; poison := []; lost := []; latent := []; hostErrs := []
  hosts := []; unsent := []; waiting := []; transfers := []; llc := []

def SyncSpace.reset : SyncSpace where
  sram := []; spoiled := []; pend := []; children := []; spills := []

def Dispatcher.reset : Dispatcher where
  launches := []; queues := []; slots := []; held := []; counts := []; ending := []; events := []; nextKey := 1; stamp := 0
  saved := []; elsewhere := []; visited := Vector.replicate 16 (Config.queueSlots - 1); live := []

/-- R6: the image of a module as it is built, of which the spec says nothing: one that checks and names nothing (log 5). -/
def Image.unnamed : Image where
  good := true; modid := 0; roles := none; root := 0; hbm := 0; lpddr := 0; cxl0 := 0; cxl1 := 0; links := []; hash := 0; cells := []

/-- The package block at reset (R428, R432), before bring-up has set roles, ROOT and MODID (R440). -/
def Mgmt.reset : Mgmt where
  pkstat := 0; root := 0; roles := Vector.replicate 16 .memoryOnly; miss := 3; per := 100; bwHigh := 256
  bwInt := 4096; modid := 0; linkst := 0; pwrcap := 3200; hosts := Vector.replicate 2 ⟨false, 0, false, false⟩
  peers := []; islands := Vector.replicate 128 0; rates := Vector.replicate 256 0; hbm := 0; lpddr := 0; cxl0 := 0
  cxl1 := 0; expLost := Vector.replicate 2 false; flash := Image.unnamed; hash := 0; far := []; up := false; notices := []; sent := []
  badFlits := 0

/-- The machine right after reset: nothing fitted, nothing run, every register at its Reset value; bring-up (R440) is
an event that follows it (log 5). -/
def State.reset : State where
  core := CoreState.reset; eng := Engines.reset; wick := Wick.reset; fab := Fabric.reset; sync := SyncSpace.reset
  disp := Dispatcher.reset; parts := Vector.replicate 16 PartRegs.reset; mgmt := Mgmt.reset; script := []
  inflight := []; free := 0

end Sys2Proof.Machine
end

