-- ==== Sys2Proof/Machine/Memory.lean ====
section
/-! DEFINITION. Sparse memories, little-endian bytes (R10), and the accessors of the parts of State. -/

namespace Sys2Proof.Machine

/-- What a cell holds; an unlisted cell reads 0 (log 1). -/
def cellGet {w : Nat} : Cells w → Nat → BitVec w
  | [], _ => 0
  | (k, v) :: r, a => if a = k then v else cellGet r a

/-- The cells with the value v at address a, in canonical form. -/
def cellSet {w : Nat} (a : Nat) (v : BitVec w) : Cells w → Cells w
  | [] => if v = 0 then [] else [(a, v)]
  | (k, u) :: r =>
    if a < k then (if v = 0 then (k, u) :: r else (a, v) :: (k, u) :: r)
    else if a = k then (if v = 0 then r else (a, v) :: r)
    else (k, u) :: cellSet a v r

/-- Every address of the cells is above b. -/
def cellsAbove {w : Nat} (b : Nat) : Cells w → Bool
  | [] => true
  | (k, v) :: r => decide (b < k) && decide (v ≠ 0) && cellsAbove k r

/-- The canonical form: addresses strictly rising, no entry equal to what an unlisted address reads as. -/
def Memory.wf {w : Nat} : Cells w → Bool
  | [] => true
  | (k, v) :: r => decide (v ≠ 0) && cellsAbove k r

/-- Byte writes, in order. -/
def writeBytes (bs : List (Nat × Byte)) (m : Cells 8) : Cells 8 := bs.foldl (fun m p => cellSet p.1 p.2 m) m

/-- n consecutive addresses from a. -/
def span (a n : Nat) : List Nat := (List.range n).map (a + ·)

/-- R10: the number that bytes in rising address order hold. -/
def leNat : List Byte → Nat
  | [] => 0
  | b :: r => b.toNat + 256 * leNat r

/-- R10: the low n bytes of a number, lowest address first. -/
def leBytes : Nat → Nat → List Byte
  | 0, _ => []
  | n + 1, v => BitVec.ofNat 8 v :: leBytes n (v / 256)

/-- The value of the n bytes at a, through a reader of bytes. -/
def readLe (rd : Nat → Byte) (a n : Nat) : Nat := leNat ((span a n).map rd)

/-- A dword in memory. -/
def readDword (rd : Nat → Byte) (a : Nat) : Dword := BitVec.ofNat 64 (readLe rd a 8)
/-- A word in memory. -/
def readWord (rd : Nat → Byte) (a : Nat) : Word := BitVec.ofNat 32 (readLe rd a 4)

/-- The (address, byte) pairs that store the low n bytes of v at a. -/
def leWrites (a n v : Nat) : List (Nat × Byte) := (span a n).zip (leBytes n v)

/-- The bits hi down to lo of a value, as a number (R9). -/
def bits {w : Nat} (v : BitVec w) (hi lo : Nat) : Nat := v.toNat / 2 ^ lo % 2 ^ (hi + 1 - lo)

/-- One bit. -/
def bit {w : Nat} (v : BitVec w) (n : Nat) : Bool := v.getLsbD n

/-- A pair put in its place by address, after its equals. -/
def insertAddr {α : Type} (p : Nat × α) : List (Nat × α) → List (Nat × α)
  | [] => [p]
  | q :: r => if q.1 ≤ p.1 then q :: insertAddr p r else p :: q :: r

/-- Pairs in ascending address order. -/
def sortAddr {α : Type} (ps : List (Nat × α)) : List (Nat × α) := ps.foldl (fun r p => insertAddr p r) []

/-- R390: the line of a byte address, by its first byte. -/
def lineOf (a : Nat) : Nat := a / 128 * 128

/-- The distinct lines of some byte addresses, in the order met. -/
def linesOf (as : List Nat) : List Nat := (as.map lineOf).eraseDups

/-- The context in a slot. -/
def State.ctx (s : State) (slot : Bool) : Option Context := if slot then s.core.slot1 else s.core.slot0

/-- A slot's context replaced. -/
def State.setCtx (s : State) (slot : Bool) (c : Option Context) : State :=
  if slot then { s with core := { s.core with slot1 := c } } else { s with core := { s.core with slot0 := c } }

/-- The context of the active slot (R92). -/
def State.current (s : State) : Option Context := s.ctx s.core.active

/-- The active slot's context replaced. -/
def State.setCurrent (s : State) (c : Option Context) : State := s.setCtx s.core.active c

/-- R139: a slot's store queue. -/
def State.sq (s : State) (slot : Bool) : List StoreEntry := if slot then s.core.sq1 else s.core.sq0

/-- A slot's store queue replaced. -/
def State.setSq (s : State) (slot : Bool) (q : List StoreEntry) : State :=
  if slot then { s with core := { s.core with sq1 := q } } else { s with core := { s.core with sq0 := q } }

/-- The launch with a key. -/
def State.launch (s : State) (key : Nat) : Option Launch := s.disp.launches.find? (·.key == key)

/-- A launch changed in place. -/
def State.mapLaunch (s : State) (key : Nat) (f : Launch → Launch) : State :=
  { s with disp := { s.disp with
    launches := s.disp.launches.map fun l => if l.key = key then f l else l } }

/-- A partition's block. -/
def State.part (s : State) (p : Nat) : PartRegs := s.parts[p]?.getD PartRegs.reset

/-- A partition's block changed in place. -/
def State.mapPart (s : State) (p : Nat) (f : PartRegs → PartRegs) : State :=
  { s with parts := s.parts.setIfInBounds p (f (s.part p)) }

/-- The partition of a launch; 0 for none. -/
def State.partOf (s : State) (launch : Nat) : Nat := ((s.launch launch).map (·.part)).getD 0

/-- R131, R445: the management controller is told. -/
def State.notify (s : State) (c : Cause) (v : Dword) : State :=
  { s with mgmt := { s.mgmt with notices := s.mgmt.notices ++ [⟨c, v⟩] } }

/-- The core × 2 + slot number of a slot of the modelled core (R22). -/
def State.slotNumber (s : State) (slot : Bool) : Nat := s.core.id * 2 + slot.toNat

/-- R2: the package cluster of the modelled core. -/
def State.cluster (s : State) : Nat := s.core.id / Config.coresPerCluster

/-- What a check answers: a value, or the cause and cause value of the first failure. -/
abbrev Check := Except (Cause × Dword)

/-- R414: a check that cannot be made yet: a read of its waits for the scrub of a line. -/
def Check.awaits {α : Type} (r : Check α) : Bool :=
  match r with
  | .error (.none, _) => true
  | _ => false

/-- R414: an own access by the device that ended in this failure waits for a scrub. -/
def waitsScrub (f : Option (Cause × Dword)) : Bool := f.any (·.1 == .none)

/-- A failure of the device's own write, or of the read of a STATUS it changes, that is not put off: one whose translation or line waits
for a scrub is met as after the scrub (DEDUCED, log 78). -/
def afterScrub (f : Cause × Dword) : Cause × Dword := if f.1 = .none then (.hostlost, f.2) else f

/-- A failed check. -/
def failed {α : Type} (c : Cause) (v : Dword) : Check α := .error (c, v)

end Sys2Proof.Machine
end

