-- ==== Sys2Proof/Machine/Operands.lean ====
section
/-! DEFINITION. Operand codes (R94), the latches and landing of fixed-latency results (R95, R98 to R100), and the bank
conflicts of R96. -/

namespace Sys2Proof.Machine

/-- R94: the index of a loop level, zero-extended; 0 for a level not on the stack. -/
def Context.loopIndex (c : Context) (n : Nat) : Dword := ((c.loops[n]?).map fun l => zext64 l.index).getD 0

/-- R94: the value an operand code reads. -/
def Context.read (c : Context) (r : Code) : Dword :=
  let n := r.toNat
  if n < 32 then c.x[n]?.getD 0
  else if n < 40 then c.o[n - 32]?.getD 0
  else if n = 40 then c.l0
  else if n = 41 then c.l1
  else if n = 42 then 0
  else if n < 50 then c.loopIndex (n - 44)
  else 0

/-- R94: a register written through its operand code; `zero` discards. -/
def Context.write (c : Context) (r : Code) (v : Dword) : Context :=
  let n := r.toNat
  if n < 32 then { c with x := c.x.setIfInBounds n v }
  else if n < 40 then { c with o := c.o.setIfInBounds (n - 32) v }
  else c

/-- R95: a fixed-latency result lands: its destination is written and it enters the latches. -/
def Context.land (c : Context) (p : Pending) : Context :=
  { c.write p.dest p.value with l1 := c.l0, l0 := p.value }

/-- A pending result put in its place: by landing cycle, then program order (R95, R99). -/
def insertPending (p : Pending) : List Pending → List Pending
  | [] => [p]
  | q :: r => if q.due ≤ p.due then q :: insertPending p r else p :: q :: r

/-- R99: a load outstanding to a register the instruction reads or writes. -/
def Context.interlocked (c : Context) (codes : List Code) : Bool :=
  c.lq.any fun e => !e.back && e.dest ≠ zeroCode && codes.contains e.dest

/-- R98, R99: the results due by cycle u land, oldest first, up to one whose destination awaits a load: it waits until the load has
written, and the fixed-latency pipelines hold still behind it. -/
def landThrough (u : Nat) : List Pending → Context → Context
  | [], c => { c with pend := [] }
  | p :: r, c => if p.due ≤ u ∧ !c.interlocked [p.dest] then landThrough u r (c.land p) else { c with pend := p :: r }

/-- R98, R99: schedule time moves to u, and every result due by then lands. -/
def Context.advance (c : Context) (u : Nat) : Context := { landThrough u c.pend c with sched := u }

/-- R99, R101: a fixed-latency result of latency L of the instruction issuing now. -/
def Context.result (c : Context) (d : Code) (v : Dword) (lat : Nat) : Context :=
  { c with pend := insertPending ⟨c.sched + lat, d, v⟩ c.pend }

/-- R100: with four results pending an instruction of latency 2 or more issues at the first landing. -/
def Context.limited (c : Context) (lat : Nat) : Context :=
  match c.pend with
  | p :: _ => if 2 ≤ lat ∧ 4 ≤ c.pend.length then c.advance p.due else c
  | [] => c

/-- R126, R134: schedule time moves until no result is pending. -/
def Context.settle (c : Context) : Context := c.advance (c.pend.foldl (fun u p => Nat.max u p.due) c.sched)

/-- R163: the next sequential address after an instruction of n words at a. -/
def nseq (a : Dword) (n : Nat) : Dword :=
  if a.toNat / 4 % 32 + n = 30 then .ofNat 64 (a.toNat / 128 * 128 + 128) else a + .ofNat 64 (4 * n)

/-- R96: the main-file registers an instruction reads, each once. -/
def mainReads (codes : List Code) : List Nat := ((codes.map (·.toNat)).filter (· < 32)).eraseDups

/-- R96: the reads of one instruction that fall on a bank. -/
def bankReads (codes : List Code) (bank : Nat) : Nat := ((mainReads codes).filter (· % 4 = bank)).length

/-- R96: how often reads of one instruction lose their bank: of n, n − 1 lose the first cycle, then n − 2, and so on. -/
def bankLosses (codes : List Code) (bank : Nat) : Nat := bankReads codes bank * (bankReads codes bank - 1) / 2

/-- R96, R98: the cycles its replays take, in which nothing younger issues (log 69). -/
def replayCycles (codes : List Code) : Nat := ((List.range 4).map fun b => bankReads codes b - 1).foldl Nat.max 0

/-- R96: BKLOSS0 to BKLOSS3 after the reads of one instruction. -/
def CoreState.loseReads (k : CoreState) (codes : List Code) : CoreState :=
  { k with bkloss := k.bkloss.mapFinIdx fun i v _ => v + .ofNat 32 (bankLosses codes i) }

/-- R99: the oldest result is due and waits for a load to write its destination: no instruction issues. -/
def Context.heldUp (c : Context) : Bool :=
  match c.pend with
  | p :: _ => decide (p.due ≤ c.sched) && c.interlocked [p.dest]
  | [] => false

/-- R138: the operand code of a schedule breach. Of several breaches the first read in the order a, b, d is named, and a read before the
destination (DESIGN CHOICE, log 104). That `zero` counts as a destination in the second case, two results written to it, is
a DESIGN CHOICE (log 101). -/
def Context.stallBreach (c : Context) (sh : Shape) : Option Code :=
  match sh.readCodes.find? fun r => r.toNat < 40 && c.pend.any (·.dest == r) with
  | some r => some r
  | none =>
    if sh.lat = 0 then none
    else sh.writeCodes.find? fun d => c.pend.any fun p => p.dest == d && c.sched + sh.lat ≤ p.due

end Sys2Proof.Machine
end

