-- ==== Sys2Proof/Machine/Flags.lean ====
section
/-! DEFINITION. The sticky flags of R57, the layout of the control registers (R104 to R106, R180, R221, R236), and the
stochastic generator (R65). -/

namespace Sys2Proof.Machine

/-- R57: the flags an operation raises. -/
structure Raised where
  pw : Bool := false
  sov : Bool := false
  sat : Bool := false
  nv : Bool := false
  deriving DecidableEq, Repr

/-- Flags of either. -/
def Raised.or (a b : Raised) : Raised := ⟨a.pw || b.pw, a.sov || b.sov, a.sat || b.sat, a.nv || b.nv⟩

/-- R57: NV alone, and SAT alone. -/
def Raised.onlyNv : Raised := { nv := true }
def Raised.onlySat : Raised := { sat := true }

/-- ACFG bits[11:8]: PW, SOV, SAT, NV. -/
def Raised.toBits (r : Raised) : BitVec 4 := .ofNat 4 (8 * r.pw.toNat + 4 * r.sov.toNat + 2 * r.sat.toNat + r.nv.toNat)

/-- R57: flags are set and never cleared here. -/
def Context.raise (c : Context) (r : Raised) : Context := { c with flags := c.flags ||| r.toBits }

/-- R221: ACFG as it reads. -/
def Context.acfg (c : Context) : Dword := .ofNat 64 (c.flags.toNat * 256 + c.acc.toNat)

/-- R180: VWIN as it reads. -/
def Context.vwin (c : Context) : Dword := .ofNat 64 ((if c.vbusy = 0 then 0 else 2 ^ 63) + c.row0.toNat)

/-- R105: the level of a CUR code; none is reserved. -/
def Level.ofCode : Nat → Option Level
  | 0 => some .task
  | 1 => some .supervisor
  | 2 => some .machine
  | _ => none

/-- R105: CUR. -/
def Level.code : Level → Nat
  | .task => 0
  | .supervisor => 1
  | .machine => 2

/-- R105: PRV in its three bits. -/
def Priv.bits (p : Priv) : BitVec 3 := .ofNat 3 (4 * p.emask.toNat + p.cur.code)

/-- R104: TASKID. -/
def Context.taskid (c : Context) : Dword := .ofNat 64 (c.lid.toNat * 2 ^ 32 + c.taskNo.toNat)

/-- R106: CAUSE of an entry. -/
def causeWord (c : Cause) (src : Nat) (async : Bool) : Dword :=
  .ofNat 64 (async.toNat * 2 ^ 31 + src % 256 * 2 ^ 16 + c.code)

/-- R65: one advance of the generator. -/
def nextSr (g : Dword) : Dword :=
  let g := g ^^^ (g <<< 13)
  let g := g ^^^ (g >>> 7)
  g ^^^ (g >>> 17)

/-- R65: what a write of SRSEED leaves. -/
def seeded (v : Dword) : Dword := if v = 0 then Config.seedDefault else v

end Sys2Proof.Machine
end

