-- ==== Sys2Proof/Machine/Coherence.lean ====
section
/-! DEFINITION. The newest values of memory, the modelled core's coherent data cache, and the write agents (R390 to R396, R407
to R410). `fab.mem` holds, for each byte, the newest value of its coherence order (R395): the home's where the word is
unregistered, the registrant's where it is registered. What a core holds is in its own cache. -/

namespace Sys2Proof.Machine

/-- The newest value of a word (word address: byte address / 4): what a read at its home obtains (R393). -/
def Fabric.home (f : Fabric) (w : Nat) : Word := readWord (cellGet f.mem) (4 * w)

/-- The core's copy of a word, if it holds one. -/
def Fabric.copy (f : Fabric) (w : Nat) : Option CacheWord := f.dcache.find? (·.word == w)

/-- R391: a word's copy replaced, or dropped. -/
def Fabric.setCopy (f : Fabric) (w : Nat) (c : Option CacheWord) : Fabric :=
  { f with dcache := c.toList ++ f.dcache.filter (·.word ≠ w) }

/-- R394: stored bytes merged over a value, under their mask. -/
def mergeWord (mask : BitVec 4) (new old : Word) : Word :=
  let pick (i : Nat) : Nat := (if mask.getLsbD i then bits new (8 * i + 7) (8 * i) else bits old (8 * i + 7) (8 * i)) * 2 ^ (8 * i)
  BitVec.ofNat 32 (pick 0 + pick 1 + pick 2 + pick 3)

/-- The byte of a word that lies at an address. -/
def byteOf (v : Word) (a : Nat) : Byte := .ofNat 8 (bits v (8 * (a % 4) + 7) (8 * (a % 4)))

/-- The bytes of a word under a mask, with their addresses. -/
def maskBytes (w : Nat) (mask : BitVec 4) (data : Word) : List (Nat × Byte) :=
  (span (4 * w) 4).filterMap fun a => if mask.getLsbD (a % 4) then some (a, byteOf data a) else none

/-- The words some bytes lie in, each with the mask of the bytes and their values, in the order first met. -/
def wordsOf (bs : List (Nat × Byte)) : List (Nat × BitVec 4 × Word) :=
  let one (p : Nat × Byte) : BitVec 4 × Word := (.ofNat 4 (2 ^ (p.1 % 4)), .ofNat 32 (p.2.toNat * 2 ^ (8 * (p.1 % 4))))
  ((bs.map (·.1 / 4)).eraseDups).map fun w =>
    (w, (bs.filter (·.1 / 4 = w)).foldl (fun (r : BitVec 4 × Word) p => (r.1 ||| (one p).1, mergeWord (one p).1 (one p).2 r.2)) (0, 0))

/-- R394: the bytes of registrations, in order, over a value. -/
def overlay (rs : List Reg) (v : Word) : Word := rs.foldl (fun v r => mergeWord r.mask r.data v) v

/-- R392: the core's own value of a word it holds: in P the stored bytes over the last value known; where none is, those that the home
has not recorded, over `beneath`, which holds the others as the coherence order leaves them (R143). -/
def CacheWord.own (k : CacheWord) (beneath : Word) : Word :=
  match k.known with
  | some v => overlay k.regs v
  | none => overlay (k.regs.filter (!·.recorded)) beneath

/-- A word in P with nothing known, of whose stores the home has recorded one: its acknowledgement is on the way. -/
def CacheWord.unheard (k : CacheWord) : Bool := k.st == .p && k.known.isNone && k.regs.any (·.recorded)

/-- R391: a byte of the word is one the core has stored and not had acknowledged. -/
def CacheWord.stored (k : CacheWord) (a : Nat) : Bool := k.regs.any fun r => r.mask.getLsbD (a % 4)

/-- R417: the register region, the partitions' doorbell frames at its foot: never held in any cache. -/
def inFrames (a : Nat) : Bool := Config.frameBase ≤ a && a < Config.frameBase + Config.regionBytes

/-- A byte of the newest value: what a read at the home returns (R393, R396); of the register region, 0 (R417). -/
def State.coherentByte (s : State) (a : Nat) : Byte := if inFrames a then 0 else cellGet s.fab.mem a

/-- R170, R403: a byte as its home has it, under the stores of this core on their way there: of one context, or of either. -/
def State.byteUnder (s : State) (ctx : Option Nat) (a : Nat) : Byte :=
  match s.fab.copy (a / 4) with
  | some k => byteOf (overlay (k.regs.filter fun r => !r.recorded && (ctx.isNone || ctx == some r.who.ctx)) (s.fab.home (a / 4))) a
  | none => s.coherentByte a

/-- R144 item 1: the youngest byte a store queue holds for an address of a space, of a context's stores below a serial. -/
def forwarded (q : List StoreEntry) (sp : Space) (ctx below a : Nat) : Option Byte :=
  q.foldl (fun r e =>
    if e.space = sp ∧ e.ctx = ctx ∧ e.serial < below then
      e.bytes.foldl (fun r p => if p.1 = a then some p.2 else r) r
    else r) none

/-- The same for the context in a slot; none where the slot is empty. -/
def State.forward (s : State) (slot : Bool) (sp : Space) (below a : Nat) : Option Byte :=
  match s.ctx slot with
  | some c => forwarded (s.sq slot) sp c.ctxid.toNat below a
  | none => none

/-- Global and code space name the same bytes. -/
def Space.memory : Space → Space
  | .code => .global
  | sp => sp

/-- R403: physical memory as a walk for the slot's context reads it: the context's own older stores, then the home. -/
def State.threadByte (s : State) (slot : Bool) (a : Nat) : Byte :=
  match s.ctx slot with
  | some c => (s.forward slot .global c.serial a).getD (s.byteUnder (some c.ctxid.toNat) a)
  | none => s.coherentByte a

/-- R407: a line's marker, POISON before LOST; R401: a host's error stands for POISON. -/
def Fabric.marker (f : Fabric) (a : Nat) : Option Cause :=
  if f.poison.contains (lineOf a) || f.latent.contains (lineOf a) || f.hostErrs.contains (lineOf a) then some .poison
  else if f.lost.contains (lineOf a) then some .hostlost
  else none

/-- R401: the target a physical address names. -/
def target (a : Nat) : Nat := a / 2 ^ 48

/-- R414: memory of a host behind a fenced port, or of a lost expansion device (R438). -/
def State.fencedAt (s : State) (a : Nat) : Bool :=
  let off := a % 2 ^ 48
  if target a = 2 then (s.mgmt.hosts[0]).fenced
  else if target a = 3 then (s.mgmt.hosts[1]).fenced
  else if target a = 1 ∧ s.mgmt.lpddr ≤ off then
    if off < s.mgmt.lpddr + s.mgmt.cxl0 then s.mgmt.expLost[0] else s.mgmt.expLost[1]
  else false

/-- A host port that has been fenced. -/
def State.portFenced (s : State) (port : Nat) : Bool := (s.mgmt.hosts[port]?).any (·.fenced)

/-- R414: half of the line is held modified by a dead host and not yet scrubbed. -/
def State.deadModified (s : State) (a : Nat) : Bool :=
  s.fab.hosts.any fun h => lineOf (64 * h.line) = lineOf a && decide (h.st = .excl true) && s.portFenced h.port

/-- R414: a read of some bytes waits for the scrub of a line of theirs. -/
def State.awaitsScrub (s : State) (as : List Nat) : Bool := (linesOf as).any s.deadModified

/-- What a read of a physical address meets: HOSTLOST behind a fence; in a line that awaits its scrub nothing yet, so that it waits, which
the cause 0 says (R414); else the line's marker (R408). -/
def State.meets (s : State) (a : Nat) : Option Cause :=
  if s.fencedAt a then some .hostlost
  else if s.deadModified a then some .none
  else s.fab.marker a

/-- The first read fault of some addresses, with the address. -/
def State.firstMarked (s : State) (as : List Nat) : Option (Cause × Nat) :=
  as.findSome? fun a => (s.meets a).map (·, a)

/-- The word a coherence message is about; none for another message. -/
def Msg.word? : Msg → Option Nat
  | .register w _ | .ack w _ _ | .writeBack w _ | .wbAck w | .forward w _ | .revoke w _ _ => some w
  | .arrive _ _ _ _ | .flip _ _ _ _ => none

/-- A registration or write-back, on its way to the home. -/
def Msg.toHome : Msg → Bool
  | .register _ _ | .writeBack _ _ => true
  | _ => false

/-- A message of a home, on its way to the core. -/
def Msg.toCore (m : Msg) : Bool := m.word?.isSome && !m.toHome

/-- R392: a registration or write-back of the word is on its way to its home. -/
def State.onTheWay (s : State) (w : Nat) : Bool := s.inflight.any fun m => m.toHome && m.word? == some w

/-- R390: the home slice of a word's line. -/
def State.sliceOf (s : State) (w : Nat) : Nat := (Config.homeHash s.mgmt.hash (lineOf (4 * w))).val

/-- R390: two words have the same home. -/
def State.sameHome (s : State) (w v : Nat) : Bool := w == v || s.sliceOf w == s.sliceOf v

/-! What the core does with the messages that reach it (R394). -/

/-- R394: an acknowledgement, with the value received, ends the oldest registration: its bytes merge over the value, and the word
is R unless a later registration is still out. -/
def State.takeAck (s : State) (w : Nat) (data : Option Word) : State :=
  match s.fab.copy w with
  | some k =>
    match k.regs with
    | r :: rest =>
      let v := mergeWord r.mask r.data ((data <|> k.held <|> k.known).getD (s.fab.home w))
      { s with fab := s.fab.setCopy w (some ⟨w, if rest.isEmpty then .r else .p, some v, some v, rest, some r.who⟩) }
    | [] => s
  | none => s

/-- R394: a revoke answered: R becomes I; so does W, whose value is sent from the write-back buffer (log 95); a word in P answers
with the value of its acknowledged registration and waits for its next. -/
def State.takeRevoke (s : State) (w : Nat) : State :=
  match s.fab.copy w with
  | some k =>
    let after : Option CacheWord := match k.st with
      | .r | .w => none
      | .p => some { k with held := none }
      | .v => some k
    { s with fab := s.fab.setCopy w after }
  | none => s

/-- R393: the acknowledgement of a write-back: W becomes I. -/
def State.takeWbAck (s : State) (w : Nat) : State :=
  match s.fab.copy w with
  | some k =>
    let after : Option CacheWord := match k.st with
      | .w => none
      | .p => some { k with held := none }
      | .r | .v => some k
    { s with fab := s.fab.setCopy w after }
  | none => s

/-- R394: a message of a home reaches the core; the reply to a forwarded read lies outside. -/
def State.receive (s : State) (m : Msg) : State :=
  let s' : State := { s with inflight := s.inflight.erase m }
  match m with
  | .ack w d _ => s'.takeAck w d
  | .wbAck w => s'.takeWbAck w
  | .revoke w _ _ => s'.takeRevoke w
  | .forward _ _ => s'
  | .register _ _ | .writeBack _ _ | .arrive _ _ _ _ | .flip _ _ _ _ => s

/-- R394: the messages to the core that a test picks reach it, in the order sent. -/
def State.receiveAll (s : State) (p : Msg → Bool) : State :=
  (s.inflight.filter fun m => m.toCore && p m).foldl State.receive s

/-- R393: a write agent takes a word over from this core: what its home has sent reaches the core, then its revoke. -/
def State.surrender (s : State) (w : Nat) : State :=
  if s.fab.owners.contains (w, s.core.id) || (s.fab.copy w).any (·.held.isSome) then
    (s.receiveAll fun m => m.word?.any (s.sameHome w)).takeRevoke w
  else s

/-- R140, R144 item 1: what homes have sent about a word reaches the core, which gives up its copy: its thread writes the word at the
home, and its own older value is not to be read again. -/
def State.letGo (s : State) (w : Nat) : State := (s.receiveAll fun m => m.word?.any (s.sameHome w)).takeRevoke w

/-- R362: the same for every word of a line, which the home then has unregistered. -/
def State.letGoLine (s : State) (line : Nat) : State :=
  let ws := (List.range 32).map (line / 4 + ·)
  let s := ws.foldl State.letGo s
  { s with fab := { s.fab with owners := s.fab.owners.filter fun o => !ws.contains o.1 } }

/-- R398: the device holds a host line of host memory exclusive. -/
def Fabric.deviceHolds (f : Fabric) (line : Nat) : Bool := f.hosts.any fun h => h.line == line && decide (h.st = .absent)

/-- R253: the pins of a line: one for each unreleased fetch that holds it. -/
def State.pins (s : State) (line : Nat) : Nat :=
  (s.eng.fetches.filter fun f => f.stage ≠ .waiting ∧ f.lines.contains line).length

/-- R398: a host holds a half of the bytes' lines exclusive, so a device write waits. -/
def State.hostHolds (s : State) (a : Nat) : Bool :=
  s.fab.hosts.any fun h => h.line = a / 64 && (match h.st with | .excl _ => true | .shared | .absent => false)

/-- R254, R398: a write to the address waits at the home. -/
def State.writeWaits (s : State) (a : Nat) : Bool := s.pins (lineOf a) ≠ 0 || s.hostHolds a

/-- R51, R398: a write that is counted only when performed at `.s` waits in host memory for a line the device holds exclusive. -/
def State.countedWaits (s : State) (a : Nat) : Bool :=
  s.writeWaits a || (decide (2 ≤ target a) && !s.fencedAt a && !s.fab.deviceHolds (a / 64))

/-- R398: the host copies of the bytes' host lines are invalidated by a device write. -/
def Fabric.dropShared (f : Fabric) (as : List Nat) : Fabric :=
  { f with hosts := f.hosts.filter fun h =>
      !(as.any fun a => h.line = a / 64 && decide (h.st = .shared) && decide (target a < 2)) }

/-- R395, R398: bytes become the newest of their coherence orders. Host copies of device lines are invalidated; in host memory
the bytes are performed at `.s` only in a line the device holds exclusive. -/
def Fabric.putBytes (f : Fabric) (bs : List (Nat × Byte)) : Fabric :=
  let out := (((bs.map (·.1)).filter fun a => decide (2 ≤ target a)).map (· / 64)).eraseDups
  { f.dropShared (bs.map (·.1)) with
    mem := writeBytes bs f.mem
    unsent := out.filter (fun l => !f.deviceHolds l && !f.unsent.contains l) ++ f.unsent }

/-- R409: the lines all of whose bytes a whole-line write covers. -/
def coveredLines (whole : Bool) (bs : List (Nat × Byte)) : List Nat :=
  if whole then (linesOf (bs.map (·.1))).filter fun l => (span l 128).all fun a => bs.any (·.1 == a) else []

/-- R410: the lines among some bytes' whose partial write meets an uncorrectable error at the home. -/
def State.badLines (s : State) (whole : Bool) (bs : List (Nat × Byte)) : List Nat :=
  let covered := coveredLines whole bs
  (linesOf (bs.map (·.1))).filter fun l => s.fab.latent.contains l && !covered.contains l

/-- R410: a line whose error has been met by a partial write is marked. -/
def Fabric.spoil (f : Fabric) (ls : List Nat) : Fabric :=
  { f with latent := f.latent.filter (!ls.contains ·), poison := ls ++ f.poison.filter (!ls.contains ·) }

/-- R395: a registration recorded after this core's stores bytes of a word. -/
def State.pass (s : State) (w : Nat) (mask : BitVec 4) : State :=
  { s with inflight := s.inflight.map fun x => match x with
      | .revoke w' goal k => if w' = w then .revoke w' goal (k ||| mask) else .revoke w' goal k
      | x => x }

/-- R393, R409, R410: a write by a slice's write agent, made at the home at once: it registers the words, merges and writes back;
`whole` says its sectors may cover lines, and a line all of whose bytes it writes loses its markers. Bytes of the register region are
discarded (R417). -/
def State.homeWrite (s : State) (whole : Bool) (bs : List (Nat × Byte)) : State :=
  let bad := s.badLines whole bs
  let bs := bs.filter fun p => !inFrames p.1 && !s.fencedAt p.1 && !bad.contains (lineOf p.1)
  let ws := (bs.map (·.1 / 4)).eraseDups
  let s := ws.foldl State.surrender s
  let covered := coveredLines whole bs
  let keep (ls : List Nat) : List Nat := ls.filter (!covered.contains ·)
  let fab := { s.fab.putBytes bs with
    owners := s.fab.owners.filter fun o => !ws.contains o.1
    poison := keep s.fab.poison, lost := keep s.fab.lost, latent := keep s.fab.latent }
  (wordsOf bs).foldl (fun s x => s.pass x.1 x.2.1) { s with fab := if bad.isEmpty then fab else fab.spoil bad }

/-- R254, R398: a device write at the home, of a partition's structure or a record: performed, or held until the line's pins and
the host let it go. -/
def State.deviceWrite (s : State) (part : Option Nat) (whole : Bool) (bs : List (Nat × Byte)) : State :=
  if bs.any fun p => s.writeWaits p.1 then { s with fab := { s.fab with waiting := s.fab.waiting ++ [⟨bs, whole, part, [], none⟩] } }
  else s.homeWrite whole bs

/-- R22, R422: a record written to its ring (partition, address): a device write that waits behind every earlier record of the ring. -/
def State.ringWrite (s : State) (ring : Nat × Nat) (bs : List (Nat × Byte)) : State :=
  if (s.fab.waiting.any (·.ring == some ring)) || bs.any fun p => s.writeWaits p.1 then
    { s with fab := { s.fab with waiting := s.fab.waiting ++ [⟨bs, false, none, [], some ring⟩] } }
  else s.homeWrite false bs

/-- A message goes out once the last of some waiting writes is performed. -/
def replyLast (m : Msg) : List WaitingWrite → List WaitingWrite
  | [] => []
  | [w] => [{ w with reply := w.reply ++ [m] }]
  | w :: r => w :: replyLast m r

/-- R395: the bytes of a word stored by registrations recorded after this core's: those a revoke on its way names. -/
def State.passed (s : State) (w : Nat) : BitVec 4 :=
  s.inflight.foldl (fun m x => match x with
    | .revoke w' _ k => if w' = w then m ||| k else m
    | _ => m) 0

/-- R397: the bridge keeps an entry for each host line of host memory that the device caches: shared, where it has none. -/
def Fabric.keepEntry (f : Fabric) (line : Nat) : Fabric :=
  if target (64 * line) < 2 ∨ f.hosts.any (fun h => h.line == line && h.port == target (64 * line) - 2) then f
  else { f with hosts := ⟨target (64 * line) - 2, line, .shared⟩ :: f.hosts }

/-- R392: a store of this core to one word enters its coherent data cache. A word in R stays R; any other enters P and sends a
registration. -/
def State.cacheStore (who : Storer) (s : State) (x : Nat × BitVec 4 × Word) : State :=
  let (w, mask, data) := x
  let reg : Reg := ⟨mask, data, false, who⟩
  let s : State := { s with fab := s.fab.keepEntry (w / 16) }
  match s.fab.copy w with
  | some k =>
    if k.st = .r then
      let v := some (mergeWord mask data (k.held.getD (s.fab.home w)))
      let k' : CacheWord := { k with known := v, held := v, who := some who }
      { s with fab := (s.fab.putBytes (maskBytes w (mask &&& ~~~(s.passed w)) data)).setCopy w (some k') }
    else
      { s with fab := s.fab.setCopy w (some { k with st := .p, regs := k.regs ++ [reg] })
               inflight := s.inflight ++ [.register w mask] }
  | none =>
    { s with fab := s.fab.setCopy w (some ⟨w, .p, none, none, [reg], some who⟩), inflight := s.inflight ++ [.register w mask] }

/-- A word whose copy may be stale no longer: V becomes I, and P knows only what it answers for. -/
def CacheWord.refresh (k : CacheWord) : Option CacheWord :=
  match k.st with
  | .v => none
  | .p => some { k with known := k.held }
  | .r | .w => some k

/-- R146 step 2, R392: an acquire beyond `.c`. What homes have sent reaches the core, so that a word it still holds is one
registered to it (log 94); every other word is dropped, beneath the stored bytes of P too. -/
def State.acquire (s : State) : State :=
  let s := s.receiveAll fun _ => true
  { s with fab := { s.fab with dcache := s.fab.dcache.filterMap CacheWord.refresh, transfers := [] } }

/-- Copies that may be stale of the words a test picks, dropped. -/
def State.dropWords (s : State) (p : Nat → Bool) : State :=
  { s with fab := { s.fab with dcache := s.fab.dcache.filterMap fun k => if p k.word then k.refresh else some k } }

/-- The same for the words of some bytes. -/
def State.dropStale (s : State) (as : List Nat) : State := s.dropWords fun w => as.any fun a => a / 4 = w

/-- R144 item 2: a read at the home of some bytes: what homes have sent about their words reaches the core first, and no copy that
may be older than what is read stays. -/
def State.freshen (s : State) (as : List Nat) : State :=
  (s.receiveAll fun m => m.word?.any fun w => as.any fun a => s.sameHome (a / 4) w).dropStale as

/-- R140, R144 item 1: bytes the core's thread writes at their homes, of which no older copy stays. -/
def State.ownWrite (s : State) (whole : Bool) (bs : List (Nat × Byte)) : State :=
  let was := bs.map (·.1)
  ((((was.map (· / 4)).eraseDups.foldl State.letGo s).homeWrite whole bs)).dropStale was

/-- R53: new data of some lines are about to be loaded: copies older than the same transfers' earlier lines are dropped. -/
def State.meetTransfers (s : State) (lines : List Nat) : State :=
  let old := s.fab.transfers.flatMap fun t => (t.lines.reverse.dropWhile (!lines.contains ·))
  if old.isEmpty then s else s.dropWords fun w => old.contains (lineOf (4 * w))

/-- R53: lines written by a part of a transfer, in ascending sector order: bytes of virtual addresses `lo` up to `hi`. A part that goes
back begins another transfer, though an earlier one had the same key. -/
def State.noteTransfer (s : State) (key : Nat × Nat × Nat × Nat) (lo hi : Nat) (lines : List Nat) : State :=
  let more (t : Transfer) : Bool := t.key == key && decide (t.upto ≤ lo)
  let old := ((s.fab.transfers.find? (·.key == key)).filter more)
  let new : Transfer := match old with
    | some t => ⟨key, t.lines ++ (if t.lines.getLast? == lines.head? then lines.tail else lines), hi⟩
    | none => ⟨key, lines, hi⟩
  { s with fab := { s.fab with transfers := new :: (match old with | some t => s.fab.transfers.erase t | none => s.fab.transfers) } }

/-- R392: a fill of the line of a word: its words not in R, P or W become V with the newest value; a P word with none known, of whose
stores none is recorded yet, learns it. A line that a read meets a marker in fills nothing (R408). -/
def State.fillLine (s : State) (a : Nat) : State :=
  if (s.meets a).isSome then s else
  let ws := (List.range 32).map (lineOf a / 4 + ·)
  let new := ws.filterMap fun w => match s.fab.copy w with
    | none => some (⟨w, .v, some (s.fab.home w), none, [], none⟩ : CacheWord)
    | some k => match k.st with
      | .v => some { k with known := some (s.fab.home w) }
      | .p => if k.known.isNone && k.regs.all (!·.recorded) then some { k with known := some (s.fab.home w) } else none
      | .r | .w => none
  let fab := (s.fab.keepEntry (lineOf a / 64)).keepEntry (lineOf a / 64 + 1)
  { s with fab := { fab with dcache := new ++ s.fab.dcache.filter fun c => !(new.any (·.word == c.word)) } }

/-- R392: a store of this core that a test picks is not yet recorded at its home. -/
def State.unrecorded (s : State) (p : Reg → Bool) : Bool := s.fab.dcache.any fun k => k.regs.any fun r => !r.recorded && p r

/-- R392, R398: every store of a context that has left its queue is performed at a scope. -/
def State.storesAt (s : State) (ctx : Nat) (sc : Scope) : Bool :=
  sc = .c || (!(s.unrecorded (·.who.ctx == ctx)) && (sc ≠ .s || s.fab.unsent.isEmpty))

end Sys2Proof.Machine
end

