-- ==== Sys2Proof/Machine/Translate.lean ====
section
/-! DEFINITION. Address translation (R399 to R404), the device's own structures (R445), handles and their checks (R41, R42,
R148, R149). -/

namespace Sys2Proof.Machine

/-- A leaf that translates (R402): the page it maps, its entry, and the table entries above it: of each, the first byte and the
bytes it covers. -/
structure Leaf where
  page : Nat
  size : Nat
  pte : Dword
  via : List (Nat × Nat × Dword)
  deriving DecidableEq, Repr

def Leaf.readable (l : Leaf) : Bool := bit l.pte 2
def Leaf.writable (l : Leaf) : Bool := bit l.pte 3
def Leaf.executable (l : Leaf) : Bool := bit l.pte 4
/-- R400: the page format code. -/
def Leaf.fmt (l : Leaf) : Nat := bits l.pte 11 5
/-- The frame's physical address. -/
def Leaf.frame (l : Leaf) : Nat := (bits l.pte 51 12 * 4096) / l.size * l.size
/-- The physical address of a virtual address of the page. -/
def Leaf.phys (l : Leaf) (va : Nat) : Nat := l.frame + va % l.size

/-- R401: the address lies in its target's populated part. -/
def State.populated (s : State) (pa : Nat) : Bool :=
  let off := pa % 2 ^ 48
  match target pa with
  | 0 => off < s.mgmt.hbm || (Config.frameBase ≤ off)
  | 1 => off < s.mgmt.lpddr + s.mgmt.cxl0 + s.mgmt.cxl1
  | 2 => true
  | 3 => true
  | _ => false

/-- R404: the entries held for an address that cover `size` bytes and differ from one read now. -/
def State.heldEntries (s : State) (part va size : Nat) (now : Except Cause Dword) : List Dword :=
  ((s.fab.tlb.filter fun t => t.part = part ∧ t.size = size ∧ t.page ≤ va ∧ va < t.page + t.size).map (·.pte)).filter fun e =>
    match now with
    | .ok v => e != v
    | .error _ => true

/-- R402, R404: the entry a level of a walk uses: one read through rd, or one held, where a free value says so. -/
def State.walkEntry (s : State) (rd : Nat → Byte) (part va lvl at' : Nat) : Except Cause Dword :=
  let now : Except Cause Dword := match s.meets at' with
    | some c => .error c
    | none => .ok (readDword rd at')
  match s.heldEntries part va (2 ^ (16 + 9 * lvl)) now with
  | [] => now
  | e :: es => match (e :: es)[Config.useHeld s.core.now va lvl]? with
    | some v => .ok v
    | none => now

/-- R402: the level's part of a walk; `via` is what it has used above. -/
def walkLevel (s : State) (rd : Nat → Byte) (part va : Nat) : Nat → List (Nat × Nat × Dword) → Nat → Except Cause Leaf
  | 0, _, _ => .error .page
  | lvl + 1, via, t =>
    match s.walkEntry rd part va lvl (t + 8 * (va / 2 ^ (16 + 9 * lvl) % 512)) with
    | .error c => .error c
    | .ok e =>
      let size := 2 ^ (16 + 9 * lvl)
      if !bit e 0 || bits e 55 52 ≠ 0 then .error .page
      else if bit e 1 then
        let leaf : Leaf := ⟨va / size * size, size, e, via⟩
        if 2 ≤ lvl || (lvl = 0 && bits e 15 12 ≠ 0) || (lvl = 1 && bits e 24 12 ≠ 0) then .error .page
        else if leaf.writable && leaf.executable then .error .page
        else if !s.populated (leaf.phys va) then .error .page
        else .ok leaf
      else if bits e 11 2 ≠ 0 || lvl = 0 || 2 ≤ bits e 51 48 then .error .page
      else walkLevel s rd part va lvl (via ++ [(va / size * size, size, e)]) (bits e 51 12 * 4096)

/-- R402, R404: the translation of an address: a walk of the partition's table, each entry read or held. -/
def translate (s : State) (rd : Nat → Byte) (part va : Nat) : Except Cause Leaf :=
  if 2 ^ 48 ≤ va then .error .page
  else walkLevel s rd part va 4 [] (s.part part).ptbase.toNat

/-- R404: the device holds the entries an access used, beside those it held. -/
def State.holdLeaves (s : State) (part : Nat) (ls : List Leaf) : State :=
  { s with fab := { s.fab with tlb := ls.foldl (fun t l =>
      (l.via ++ [(l.page, l.size, l.pte)]).foldl (fun t x =>
        let e : Tlb := ⟨part, x.1, x.2.1, x.2.2⟩
        if t.contains e then t else t ++ [e]) t) s.fab.tlb } }

/-- The frame (first byte, bytes) of a held leaf. -/
def Tlb.frame (t : Tlb) : Nat × Nat := ((⟨t.page, t.size, t.pte, []⟩ : Leaf).frame, t.size)

/-- What an access needs of a page. -/
inductive Need where
  | read | write | exec | none
  deriving DecidableEq, Repr

/-- The leaf grants it; else the permission fault (R402). -/
def Need.denied (n : Need) (l : Leaf) : Option Cause :=
  match n with
  | .read => if l.readable then Option.none else some .rperm
  | .write => if l.writable then Option.none else some .wperm
  | .exec => if l.executable then Option.none else some .xperm
  | .none => Option.none

/-- One virtual address translated and its permission checked, with EVAL holding the address. -/
def mapOne (s : State) (rd : Nat → Byte) (part : Nat) (n : Need) (va : Nat) : Check Leaf :=
  match translate s rd part va with
  | .error c => failed c (.ofNat 64 va)
  | .ok l =>
    match n.denied l with
    | some c => failed c (.ofNat 64 va)
    | none => .ok l

/-- The bytes at virtual addresses, page by page in the order given: their physical addresses and the leaves used. Over several pages,
translation and permission are tested of one page before the next (DESIGN CHOICE, log 103). -/
def mapBytes (s : State) (rd : Nat → Byte) (part : Nat) (n : Need) (vas : List Nat) : Check (List Nat × List Leaf) :=
  vas.foldlM (init := (([] : List Nat), ([] : List Leaf))) (fun acc va =>
    match acc.2.find? fun l => l.page ≤ va ∧ va < l.page + l.size with
    | some l => .ok (acc.1 ++ [l.phys va], acc.2)
    | none => do
      let l ← mapOne s rd part n va
      .ok (acc.1 ++ [l.phys va], acc.2 ++ [l]))

/-- R348, R363, R442: a read that reaches its bytes in order: the first that has no translation or permission, or that meets a marker, ends
it with its cause and virtual address. -/
def mapReading (s : State) (rd : Nat → Byte) (part : Nat) (vas : List Nat) : Check (List Nat × List Leaf) :=
  match mapBytes s rd part .read vas with
  | .error f =>
    (match mapBytes s rd part .read (vas.takeWhile fun va => BitVec.ofNat 64 va != f.2) with
      | .ok (as, _) => (match (as.zip vas).findSome? fun p => (s.meets p.1).map (·, BitVec.ofNat 64 p.2) with
        | some m => .error m
        | none => .error f)
      | .error _ => .error f)
  | .ok (as, ls) => match (as.zip vas).findSome? fun p => (s.meets p.1).map (·, BitVec.ofNat 64 p.2) with
    | some m => .error m
    | none => .ok (as, ls)

/-- R445: a read by the device of its own structure at virtual addresses of a partition: translated through rd, read at the
home, so a store still in a store queue is not seen (log 21). -/
def deviceRead (s : State) (rd : Nat → Byte) (part va n : Nat) : Check (List Byte) := do
  let (as, _) ← mapReading s rd part (span va n)
  .ok (as.map s.coherentByte)

/-- R445: a dword of such a structure. -/
def deviceDword (s : State) (part va : Nat) : Check Dword := do
  let bs ← deviceRead s s.coherentByte part va 8
  .ok (.ofNat 64 (leNat bs))

/-- R410, R414: why a partial write of bytes at physical addresses is dropped, in whole or part: at a fence, or at an uncorrectable
error; with the line. -/
def State.dropsAt (s : State) (as : List Nat) : Option (Cause × Dword) :=
  match as.find? s.fencedAt with
  | some a => some (.hostlost, .ofNat 64 (lineOf a))
  | none => ((s.badLines false (as.map fun a => (a, 0))).head?).map fun l => (.memerr, .ofNat 64 l)

/-- R445: such a write, made by `put`, with its failure: it has no translation or permission, and none of it is made; or it is performed
as a store is, but for what is dropped (R410, R414). -/
def State.writeVa (s : State) (put : State → List (Nat × Byte) → State) (part va : Nat) (bs : List Byte) :
    State × Option (Cause × Dword) :=
  match mapBytes s s.coherentByte part .write (span va bs.length) with
  | .error f => (s, some f)
  | .ok (as, ls) => ((put s (as.zip bs)).holdLeaves part ls, s.dropsAt as)

/-- The same for a structure other than a ring of records, whose partition is told of a loss that a wait at the home puts off. -/
def State.writeOwn (s : State) (part va : Nat) (bs : List Byte) : State × Option (Cause × Dword) :=
  s.writeVa (fun s => s.deviceWrite (some part) false) part va bs

/-- The same for a record of a ring. -/
def State.writeRing (s : State) (part ring va : Nat) (bs : List Byte) : State × Option (Cause × Dword) :=
  s.writeVa (fun s => s.ringWrite (part, ring)) part va bs

/-- The same, in parts, none of which is made where one has no translation or permission: their first failure. -/
def State.writeParts (s : State) (part : Nat) (ps : List (Nat × List Byte)) : State × Option (Cause × Dword) :=
  match ps.findSome? fun p => match mapBytes s s.coherentByte part .write (span p.1 p.2.length) with
      | .error f => some f
      | .ok _ => none with
  | some f => (s, some f)
  | none => ps.foldl (fun r p => ((r.1.writeOwn part p.1 p.2).1, r.2 <|> (r.1.writeOwn part p.1 p.2).2)) (s, none)

/-- The write, where a failure changes nothing but what the naming rule says. -/
def State.tryStore (s : State) (part va : Nat) (bs : List Byte) : State := (s.writeOwn part va bs).1

/-- R41, R42 check 2: the entry's fields; none when VALID is 0 or a reserved bit is set. -/
def Handle.parse (b0 b1 attr ts : Dword) : Option Handle :=
  if !bit attr 4 || bits attr 15 5 ≠ 0 || bits ts 63 34 ≠ 0 then none
  else some {
    base := b0.toNat, bound := b1.toNat, elen := bits attr 63 32, key := bits attr 31 16
    policy := match bits attr 3 2 with | 0 => .normal | 1 => .stream | 2 => .noLlc | _ => .keep
    space := match bits attr 1 0 with | 0 => .global | 1 => .scratch | 2 => .sync | _ => .code
    tstype := bits ts 33 32, tscale := .ofNat 32 ts.toNat }

/-- Who makes an access, as the checks of R42 need it. -/
structure Access where
  part : Nat
  htab : Dword
  /-- R20 SPAD, in KiB. -/
  spad : Nat
  deriving DecidableEq, Repr

/-- The access rights of a launch's tasks and operations; none: no handle table. -/
def State.access (s : State) (launch : Nat) : Access :=
  match s.launch launch with
  | some l => ⟨l.part, l.res.htab, l.res.spad⟩
  | none => ⟨0, 0, 0⟩

/-- R130: the cause value of BOUND: bits[63:60] slot, bits[59:0] offset. -/
def boundValue (slot : Nat) (off : Dword) : Dword := .ofNat 64 (slot % 16 * 2 ^ 60 + bits off 59 0)

/-- R42: the table read and checks 1 and 2, for the entry of an index through a slot. -/
def readHandle (s : State) (rd : Nat → Byte) (ac : Access) (slot index : Nat) (off : Dword) : Check Handle :=
  let n := if ac.htab = 0 then 0 else bits ac.htab 11 0 + 1
  if n ≤ index then failed .bound (boundValue slot off)
  else do
    let va := bits ac.htab 63 12 * 4096 + 32 * index
    let bs ← deviceRead s rd ac.part va 32
    let dw (k : Nat) : Dword := .ofNat 64 (leNat ((bs.drop (8 * k)).take 8))
    match Handle.parse (dw 0) (dw 1) (dw 2) (dw 3) with
    | none => failed .bound (boundValue slot off)
    | some h =>
      if h.space = .scratch ∧ (Config.scratchBytes < h.base + h.bound ∨ ac.spad * 1024 < h.base + h.bound) then
        failed .bound (boundValue slot off)
      else .ok h

/-- R318: the byte lies in the partition's sync window. -/
def State.inWindow (s : State) (part a : Nat) : Bool :=
  let w := (s.part part).swin
  bits w 31 0 ≤ a && a < bits w 63 32

/-- R42 check 3: n bytes at the offset. -/
def checkBound (s : State) (ac : Access) (h : Handle) (slot : Nat) (off : Dword) (n : Nat) : Check Unit :=
  if h.bound < off.toNat + n then failed .bound (boundValue slot off)
  else if h.space = .sync ∧ 0 < n ∧
      ¬ (s.inWindow ac.part (h.base + off.toNat) ∧ s.inWindow ac.part (h.base + off.toNat + n - 1)) then
    failed .bound (boundValue slot off)
  else .ok ()

/-- An access whose checks have passed: its handle, the physical, scratchpad or sync address of each byte in order, and the
leaves it used. -/
structure Mapped where
  handle : Handle
  addrs : List Nat
  leaves : List Leaf
  deriving DecidableEq, Repr

/-- BASE + offset, as EVAL holds it. -/
def Handle.va (h : Handle) (off : Dword) : Dword := .ofNat 64 (h.base + off.toNat)

/-- R42, R149 item 4: a data access through a code-space handle: PAGE where a byte has no translation, else RPERM or WPERM. -/
def refuseCode {α : Type} (s : State) (rd : Nat → Byte) (part : Nat) (need : Need) (vas : List Nat) (va : Dword) : Check α := do
  let _ ← mapBytes s rd part .none vas
  failed (if need = .write then .wperm else .rperm) va

/-- R149 items 2 to 4 for a plain access of n bytes: the handle checks, alignment to the size, translation and permission. -/
def checkPlain (s : State) (rd : Nat → Byte) (ac : Access) (slot index : Nat) (off : Dword) (n : Nat) (need : Need) :
    Check Mapped := do
  let h ← readHandle s rd ac slot index off
  checkBound s ac h slot off n
  let va := h.va off
  if va.toNat % n ≠ 0 ∨ (h.space = .sync ∧ n ≠ 4 ∧ n ≠ 8) then failed .align va
  else match h.space with
    | .scratch | .sync => .ok ⟨h, span va.toNat n, []⟩
    | .code => refuseCode s rd ac.part need (span va.toNat n) va
    | .global => do
      let (as, ls) ← mapBytes s rd ac.part need (span va.toNat n)
      .ok ⟨h, as, ls⟩

end Sys2Proof.Machine
end

