-- ==== Sys2Proof/Machine/Ops.lean ====
section
/-! DEFINITION. The operations every sequencer instruction shares: time, fault records and policies (R22), leaving a slot
(R92, R136), taking an exception (R102, R131 to R133), returning from one (R134), and issue (R98 to R100, R108). -/

namespace Sys2Proof.Machine

/-- R35: a queue's deficit after n cycles in which k slots hold its tasks, saturating. -/
def spend (d : Int) (n k : Nat) : Int := max (-(2 ^ 26)) (d - n * k)

/-- R35: the queue has entries present. -/
def State.hasEntries (s : State) (part q : Nat) : Bool :=
  s.disp.queues.any fun r => r.part = part && r.queue = q && r.tail != r.head

/-- Cycles pass: CYCLE (R104), the model's own count, and the deficits of R35, which are 0 where no entry is present. Two slots with tasks
of one queue subtract one each (DESIGN CHOICE, log 107). -/
def State.tick (s : State) (n : Nat) : State :=
  let holds (q : QSlot) (c : Option Context) : Nat := match c.bind fun c => s.launch c.launch with
    | some l => if l.part = q.part ∧ l.queue = q.queue then 1 else 0
    | none => 0
  let after (q : QSlot) : Int :=
    if s.hasEntries q.part q.queue then spend q.deficit n (holds q s.core.slot0 + holds q s.core.slot1) else 0
  { s with
    core := { s.core with cycle := s.core.cycle + .ofNat 64 n, now := s.core.now + n }
    disp := { s.disp with slots := s.disp.slots.map fun q => { q with deficit := after q } } }

/-- R22: what a fault record holds. -/
structure FaultRec where
  part : Nat
  fq : Option (Dword × Nat)
  cause : Cause
  src : Nat
  mach : Bool
  lid : Word
  /-- core × 2 + slot, or 0xFFFF_FFFF, or 0xFFFF_FFF0 + k. -/
  core : Nat
  leaf : Dword
  val : Dword
  deriving DecidableEq, Repr

/-- R22: the 32 bytes of record n of a ring of the given size. -/
def FaultRec.bytes (r : FaultRec) (n size : Nat) : List Byte :=
  leBytes 4 n ++ leBytes 2 r.cause.code ++ leBytes 1 r.src ++ leBytes 1 ((decide (size < n)).toNat + 2 * r.mach.toNat) ++
  leBytes 4 r.lid.toNat ++ leBytes 4 r.core ++ leBytes 8 r.leaf.toNat ++ leBytes 8 r.val.toNat

/-- R22: a record written to its ring, where there is one; R445: one that cannot be written is dropped and notified. -/
def State.record (s : State) (r : FaultRec) : State :=
  match r.fq with
  | none => s
  | some (q, size) =>
    if q = 0 then s else
    let old := ((s.disp.counts.find? fun c => c.part = r.part ∧ c.addr = q.toNat).map (·.count)).getD 0
    match s.writeRing r.part q.toNat (q.toNat + 32 * (old % size)) (r.bytes (old + 1) size) with
    | (s', some _) => s'.notify r.cause r.val
    | (s', none) => { s' with disp := { s'.disp with
        counts := ⟨r.part, q.toNat, old + 1⟩ :: s'.disp.counts.filter fun c => ¬ (c.part = r.part ∧ c.addr = q.toNat) } }

/-- R18, R445: bytes of a node of the region tree as the device reads them. -/
def State.nodeBytes (s : State) (part : Nat) (node : NodeRef) (off n : Nat) : Check (List Byte) :=
  if node.phys then
    let as := span (node.addr.toNat + off) n
    match s.firstMarked as with
    | some (c, a) => failed c (.ofNat 64 a)
    | none => .ok (as.map s.coherentByte)
  else deviceRead s s.coherentByte part (node.addr.toNat + off) n

/-- A dword of a node. -/
def State.nodeDword (s : State) (part : Nat) (node : NodeRef) (off : Nat) : Check Dword := do
  let bs ← s.nodeBytes part node off 8
  .ok (.ofNat 64 (leNat bs))

/-- R18, R445: bytes of a node written by the device, with the write's failure. -/
def State.writeNode (s : State) (part : Nat) (node : NodeRef) (off : Nat) (bs : List Byte) : State × Option (Cause × Dword) :=
  if node.phys then
    let as := span (node.addr.toNat + off) bs.length
    (s.deviceWrite (some part) false (as.zip bs), s.dropsAt as)
  else s.writeOwn part (node.addr.toNat + off) bs

/-- R442: a failed access of the dispatcher to a launch's own structures, recorded for the launch. -/
def State.launchFault (s : State) (l : Launch) (c : Cause) (v : Dword) : State :=
  s.record ⟨l.part, l.res.fq, c, 0xFF, false, l.lid, 0xFFFFFFFF, l.leaf, v⟩

/-- R442: a write of the dispatcher to a node on a launch's path; a failure is recorded with the address written. -/
def State.dispatchWrite (s : State) (l : Launch) (node : NodeRef) (off : Nat) (bs : List Byte) : State :=
  match s.writeNode l.part node off bs with
  | (s', some f) => s'.launchFault l (afterScrub f).1 (node.addr + .ofNat 64 off)
  | (s', none) => s'

/-- R23, R442: STATUS of a node on a launch's path rewritten by the device. -/
def State.mapStatus (s : State) (l : Launch) (node : NodeRef) (f : Dword → Dword) : State :=
  match s.nodeDword l.part node 8 with
  | .error f => s.launchFault l (afterScrub f).1 (node.addr + 8)
  | .ok st => if f st = st then s else s.dispatchWrite l node 8 (leBytes 8 (f st).toNat)

/-- R22, R23: the first fault of a node on a launch's path goes into its STATUS. -/
def State.noteFault (s : State) (l : Launch) (node : NodeRef) (c : Cause) : State :=
  s.mapStatus l node fun st => if bits st 47 32 = 0 then st ||| .ofNat 64 (c.code * 2 ^ 32) else st

/-- R22: a launch hands out no further tasks and will retire faulted. -/
def Launch.fail (c : Cause) (l : Launch) : Launch := { l with faulted := some (l.faulted.getD c) }

/-- R18: the root RCB. -/
def State.rootNode (s : State) : NodeRef := ⟨true, s.mgmt.root⟩

/-- R18: the leaf RCB of a launch. -/
def Launch.leafNode (l : Launch) : NodeRef := ⟨false, l.leaf⟩

/-- R22: a launch lies below a node of a partition's tree; every launch lies below the root. -/
def State.below (s : State) (part : Nat) (node : NodeRef) (m : Launch) : Bool :=
  node == s.rootNode || (m.part == part && (m.leafNode == node || m.path.contains node))

/-- R22: the policy's effect on launches: STOP the launch, CONTAIN every launch below the node whose policy applies, whose
queues are then held, in every partition where it is the root; CONTINUE and TRAP none. -/
def State.applyPolicy (s : State) (key : Nat) (pol : Policy) (c : Cause) : State :=
  match s.launch key with
  | none => s
  | some l =>
    match pol with
    | .stop => s.mapLaunch key (·.fail c)
    | .contain =>
      let node := l.res.policyNode
      let parts := if node = s.rootNode then List.range Config.partCount else [l.part]
      let s := s.noteFault l node c
      { s with disp := { s.disp with
        launches := s.disp.launches.map fun m => if s.below l.part node m then m.fail c else m
        held := parts.map (·, node) ++ s.disp.held } }
    | .goOn | .trap => s

/-- R22: a fault recorded for a launch: its record, and its leaf's STATUS. -/
def State.recordFor (s : State) (key : Nat) (c : Cause) (src : Nat) (mach : Bool) (core : Nat) (v : Dword) : State :=
  match s.launch key with
  | none => s
  | some l => (s.record ⟨l.part, l.res.fq, c, src, mach, l.lid, core, l.leaf, v⟩).noteFault l l.leafNode c

/-- R92: issue passes to the other slot, if it holds a context ready to issue: any that is not stopped, whatever it waits for
(DESIGN CHOICE, log 97: no rule says what makes a context ready); a change takes 8 cycles. -/
def State.changeSlot (s : State) : State :=
  match s.ctx (!s.core.active) with
  | some c =>
    if c.stopped then s
    else { s with core := { s.core with active := !s.core.active, since := s.core.now + Config.slotChangeCycles,
                                        busyTill := s.core.now + Config.slotChangeCycles } }
  | none => s

/-- R296: a permit of the modelled core returns to the Wick. -/
def State.returnPermit (s : State) : State :=
  let j := s.core.id % Config.coresPerCluster
  { s with wick := { s.wick with permits := s.wick.permits.setIfInBounds j (s.wick.permits[j]?.getD 0 + 1) } }

/-- R38: a partition holds the cluster while a slot or task queue of it holds one of its tasks. -/
def State.holdsCluster (s : State) (part : Nat) : Bool :=
  let of (launch : Nat) : Bool := s.partOf launch == part
  (match s.core.slot0 with | some c => of c.launch | none => false) || (match s.core.slot1 with | some c => of c.launch | none => false) ||
  s.wick.queue.any (fun t => of t.launch) || s.wick.away.any (fun p => of p.2.launch) ||
  s.disp.elsewhere.any fun k => k.core / Config.coresPerCluster == s.cluster && of k.launch

/-- R38: the holds that begin and break now. -/
def State.refreshHolds (s : State) : State :=
  (List.range Config.partCount).foldl (fun s p =>
    s.mapPart p fun r => { r with hold := if s.holdsCluster p then some (r.hold.getD s.core.now) else none }) s

/-- R136, R22: the task of a slot ends: its context is gone, its permit returns, and it waits to count as ended. -/
def State.endTask (s : State) (slot byFault : Bool) : State :=
  match s.ctx slot with
  | none => s
  | some c =>
    let s := s.setCtx slot none
    let s := if c.permit || c.gang then s.returnPermit else s
    let s : State := { s with disp := { s.disp with
      ending := s.disp.ending ++ [⟨c.launch, c.walk, c.taskNo.toNat, c.ctxid.toNat, byFault, c.claimed⟩] } }
    (if s.core.active = slot then s.changeSlot else s).refreshHolds

/-- R102: results still pending go into the landing-buffer bank of a level, with their remaining cycles; machine privilege
has no bank. -/
def Context.bankPending (c : Context) : Context :=
  let es := c.pend.map fun p => (⟨p.value, p.dest, p.due - c.sched⟩ : Landing)
  match c.prv.cur with
  | .task => { c with pend := [], landT := es }
  | .supervisor => { c with pend := [], landS := es }
  | .machine => { c with pend := [] }

/-- R102 step 3: the bank of the level now current drains: its entries are pending again from this cycle. -/
def Context.drainBank (c : Context) : Context :=
  let refill (es : List Landing) : List Pending :=
    es.foldl (fun ps e => insertPending ⟨c.sched + e.remaining, e.dest, e.value⟩ ps) []
  match c.prv.cur with
  | .task => { c with pend := refill c.landT, landT := [] }
  | .supervisor => { c with pend := refill c.landS, landS := [] }
  | .machine => c

/-- R131: where an entry goes. -/
inductive Route where
  | supervisor (vector : Dword)
  | machine (vector : Dword)
  /-- The task ends by fault under its launch's policy. -/
  | ends
  /-- A fault at machine privilege, or an entry bound for a machine vector of 0. -/
  | stops
  deriving DecidableEq, Repr

/-- R22: the effective fault policy of a launch. -/
def State.policyOf (s : State) (key : Nat) : Policy :=
  match s.launch key with
  | some l => l.res.policy
  | none => .stop

/-- R131, R441: the machine vector: the root RCB's TRAPV. -/
def State.machineVector (s : State) : Dword := readDword s.coherentByte (s.mgmt.root.toNat + 0x48)

/-- R131: entry at machine privilege, or the stop that R441 gives in its place. -/
def State.toMachine (s : State) : Route := if s.machineVector = 0 then .stops else .machine s.machineVector

/-- R131: entry at supervisor privilege, or at machine privilege where the launch has no supervisor. -/
def State.toSupervisor (s : State) (key : Nat) : Route :=
  let v := ((s.launch key).map (·.res.trapv)).getD 0
  if v = 0 then s.toMachine else .supervisor v

/-- R103: the higher of two privileges. -/
def Level.higher (a b : Level) : Level := if a.code < b.code then b else a

/-- R131: the route of a cause for a context. A held cause names the privilege it was raised at, and goes no lower than that
privilege's row or the present one's (log 74); its policy has been applied. -/
def State.route (s : State) (c : Context) (cause : Cause) (async : Option Level) : Route :=
  match (async.getD .task).higher c.prv.cur with
  | .machine => .stops
  | .supervisor => s.toMachine
  | .task =>
    match cause with
    | .accfirst => s.toMachine
    | .softtrap | .qstarve => s.toSupervisor c.launch
    | _ =>
      if async.isSome then s.toSupervisor c.launch
      else match s.policyOf c.launch with
        | .trap => s.toSupervisor c.launch
        | _ => .ends

/-- R132: the context after entry: saved registers, privilege, pc at the vector; the fetch buffer is discarded (R169). -/
def Context.enter (c : Context) (lvl : Level) (vector : Dword) : Context :=
  { c.bankPending with prv := ⟨lvl, true⟩, pc := vector, fbuf := [], fill := none, reach := .entry, waiting := none }

/-- R132: the bank an entry writes. -/
def Context.savedBank (c : Context) (old : Bank) (cause : Cause) (src : Nat) (v epc : Dword) (async : Bool) : Bank :=
  { old with cause := causeWord cause src async, epc := epc, eval := v, estat := c.prv.bits }

/-- R131, R22: a context stopped at machine privilege: the record with its flag, unless the cause has one already or takes none, the
notice, the launch under STOP. -/
def State.stopContext (s : State) (slot : Bool) (c : Context) (cause : Cause) (src : Nat) (v : Dword) (recorded : Bool) : State :=
  let s := if recorded then s else s.recordFor c.launch cause src true (s.slotNumber slot) v
  let s := (s.notify cause v).applyPolicy c.launch .stop cause
  s.endTask slot true

/-- R132: take_trap for the context c of a slot, at its break: `epc` is the address the entry names. The record of R22 is
written here for a sequencer fault other than SOFTTRAP and ACCFIRST; a held asynchronous cause has its record already. -/
def State.takeTrap (s : State) (slot : Bool) (c : Context) (cause : Cause) (src : Nat) (v epc : Dword) (async : Option Level) :
    State :=
  let log (s : State) : State :=
    if async.isSome ∨ cause = .softtrap ∨ cause = .accfirst then s
    else s.recordFor c.launch cause src false (s.slotNumber slot) v
  match s.route c cause async with
  | .supervisor vec =>
    let c' := { c.enter .supervisor vec with sup := c.savedBank c.sup cause src v epc async.isSome }
    (log s).setCtx slot (some c')
  | .machine vec =>
    let s := (log s).setCtx slot (some (c.enter .machine vec))
    { s with core := { s.core with bank := c.savedBank s.core.bank cause src v epc async.isSome } }
  | .ends =>
    (((log s).setCtx slot (some c)).applyPolicy c.launch (s.policyOf c.launch) cause).endTask slot true
  | .stops => (s.setCtx slot (some c)).stopContext slot c cause src v (async.isSome || cause == .softtrap || cause == .accfirst)

/-- R133: an asynchronous entry held for a slot's context. -/
def State.hold (s : State) (slot : Bool) (h : Held) : State :=
  match s.ctx slot with
  | none => s
  | some c => s.setCtx slot (some { c with held := c.held ++ [h] })

/-- R22, R131: an asynchronous cause raised for a resident context, of the sequencer (source 0) or an engine. At task privilege,
the record, then the policy's effect: TRAP holds the entry; the others apply to the launch, and a sequencer fault ends the task by
fault. At supervisor, the record, and an entry held for machine privilege. At machine, the context stops. -/
def State.raise (s : State) (slot : Bool) (cause : Cause) (src : Nat) (v : Dword) : State :=
  match s.ctx slot with
  | none => s
  | some c =>
    let logged (s : State) : State := s.recordFor c.launch cause src false (s.slotNumber slot) v
    match c.prv.cur with
    | .task =>
      match s.policyOf c.launch with
      | .trap => (logged s).hold slot ⟨cause, src, v, .task⟩
      | pol =>
        let s := (logged s).applyPolicy c.launch pol cause
        if src = 0 then s.endTask slot true else s
    | .supervisor => (logged s).hold slot ⟨cause, src, v, .supervisor⟩
    | .machine => s.stopContext slot c cause src v false

/-- R22, R131: an event cause raised for a context's own access. -/
def State.asyncFault (s : State) (slot : Bool) (cause : Cause) (v : Dword) : State := s.raise slot cause 0 v

/-- R102 step 1, R141, R190: what an entry or a stop waits for: every load returned, and no vector instruction in flight. -/
def Context.quiet (c : Context) : Bool := c.lq.all (·.back) && c.vbusy == 0

/-- R133: the oldest held cause is delivered before the instruction at pc. -/
def State.deliver (s : State) (slot : Bool) (c : Context) : State :=
  match c.held with
  | [] => s
  | h :: r => s.takeTrap slot { c with held := r } h.cause h.src h.val c.pc (some h.lvl)

/-- What an instruction's own effect answers, for the context it runs in. -/
inductive Res where
  /-- It completes and falls through. -/
  | done (s : State) (c : Context)
  /-- It completes and transfers to an address, reached as given (R164). -/
  | goto (s : State) (c : Context) (pc : Dword) (how : Reach)
  /-- As goto, at an iteration boundary: a stop for pre-emption follows (R38), else, when asked, a change of slot (R92). -/
  | boundary (s : State) (c : Context) (pc : Dword) (how : Reach) (change : Bool)
  /-- A precise cause, with no other effect. -/
  | trap (cause : Cause) (v : Dword)
  /-- It does not issue now; the context may note why. -/
  | wait (c : Context)
  /-- It completes and falls through; values it bound at issue met markers, whose asynchronous causes are raised after it
  (R150), each with its access's address. -/
  | bound (s : State) (c : Context) (mets : List (Cause × Dword))
  /-- It has raised its own cause, with its whole effect: `trap` (R135). -/
  | entered (s : State)
  /-- The context has left its slot, or its effect on the slot is whole. -/
  | left (s : State)

/-- A check's failure is the instruction's trap. -/
def Check.orTrap {α : Type} (r : Check α) (k : α → Res) : Res :=
  match r with
  | .ok a => k a
  | .error (c, v) => .trap c v

/-- R137: cycles an issue takes: those schedule time moved by, at least one, and at least two in check mode. -/
def issueCycles (old new : Context) : Nat := Nat.max (if old.chk = 0 then 1 else 2) (new.sched - old.sched)

/-- R98, R99: the context after an instruction of stall count S has issued, its results landed as far as schedule time. -/
def Context.passed (c : Context) (sh : Shape) : Context := c.advance (c.sched + 1 + sh.stall.toNat)

/-- The state after an instruction has issued and left context c' for the next one. -/
def State.issued (s : State) (sh : Shape) (old c' : Context) : State :=
  let s := { s with core := s.core.loseReads sh.readCodes }
  (s.setCurrent (some c')).tick (issueCycles old c' + replayCycles sh.readCodes)

/-- R38: 65,536 cycles have passed since an urgent request reached the core. -/
def Context.late (c : Context) (now : Nat) : Bool := c.urgent.any fun t => decide (t + Config.preemptCycles ≤ now)

/-- R38, R22, R131: a context that no boundary has stopped in time: the record and the policy's effect on launches; the context is stopped
as for STOP, whatever the policy. At machine privilege it is a fault there, with its notice, under STOP. -/
def stopLate (slot : Bool) (s : State) : State :=
  match s.ctx slot with
  | none => s
  | some c =>
    if c.prv.cur = .machine then s.stopContext slot c .preemptlate 0 (.ofNat 64 Config.preemptCycles) false
    else
    let s := s.recordFor c.launch .preemptlate 0 false (s.slotNumber slot) (.ofNat 64 Config.preemptCycles)
    (s.applyPolicy c.launch (s.policyOf c.launch) .preemptlate).endTask slot true

/-- R38, R102: at an iteration boundary, reached at a cycle, of task privilege with an urgent request pending the context stops, its
pending results in the landing buffer, unless the boundary came too late; otherwise issue may pass to the other slot (R92). -/
def State.atBoundary (s : State) (change : Bool) (reached : Nat) : State :=
  match s.current with
  | none => s
  | some c =>
    if c.late reached then stopLate s.core.active s
    else if c.urgent.isSome ∧ c.prv.cur = .task then
      (s.setCurrent (some { c.bankPending with stopped := true, urgent := none })).changeSlot
    else if change ∧ c.prv.cur ≠ .machine then s.changeSlot
    else s

/-- R190, R102: the instruction at a boundary waits for vector instructions, and for loads where the context will stop. -/
def Context.boundaryWaits (c : Context) (change : Bool) : Bool :=
  (c.urgent.isSome && c.prv.cur == .task && !c.quiet) || (change && c.vbusy != 0)

/-- What stands before an instruction's own effect. -/
inductive Gate where
  /-- No context in the active slot. -/
  | empty
  /-- Nothing issues this cycle. -/
  | wait
  /-- A precise cause of R108 steps 2 to 4. -/
  | trap (c : Context) (cause : Cause) (v : Dword)
  /-- The instruction runs in this context, at its schedule cycle (R100). -/
  | go (c : Context)
  deriving DecidableEq, Repr

/-- R243, R260: in check mode a command of the context to `mx` or `tf` has still to run. -/
def State.windowsPending (s : State) (c : Context) : Bool :=
  bit c.chk 1 && s.eng.cmds.any fun k => k.iss.ctx = c.ctxid.toNat && (k.eng == 0 || k.eng == 1)

/-- R126: the control registers whose `sset` waits for the context's pending results. -/
def settlesFirst (i : BitVec 12) : Bool := i = 6 || i = 0xD || i = 0xE

/-- R126: the context as an instruction issues: an `sset` of CHK, PRV or CTXID once every pending result has landed. -/
def Instr.settled (i : Instr) (c : Context) : Context :=
  match i with
  | .sset _ _ n => if settlesFirst n then c.settle else c
  | _ => c

/-- R108, R98 to R100, R138: everything checked and waited for before an instruction's own checks. `priv` answers the cause
value of a PRIV fault. -/
def gate (i : Instr) (sh : Shape) (priv : Context → Option Dword) (s : State) : Gate :=
  match s.current with
  | none => .empty
  | some c0 =>
    if c0.stopped ∨ s.core.now < s.core.busyTill ∨ s.windowsPending c0 then .wait
    else match sh.fault with
      | some .illop => .trap c0 .illop (.ofNat 64 ((encode i).headD 0))
      | some (.illopd v) => .trap c0 .illopd v
      | none =>
        if c0.interlocked (sh.readCodes ++ sh.writeCodes) then .wait
        else
          let c := c0.limited sh.lat
          if (Instr.settled i c).heldUp then .wait
          else match priv c with
          | some v => .trap c .priv v
          | none => .go c

/-- R138: STALLCK in check mode, an execution fault: causes of R108 steps 2 to 4 go first, the others do not. -/
def Res.checked (sh : Shape) (c : Context) (r : Res) : Res :=
  match if bit c.chk 0 then c.stallBreach sh else none with
  | none => r
  | some code => match r with
    | .trap .illop _ | .trap .illopd _ | .trap .priv _ => r
    | _ => .trap .stallck (zext64 code)

/-- R102, R190: a precise cause is taken once older loads and vector instructions are done; EPC names the instruction. A check whose read
waits for a scrub (R414) is not made yet: a cycle passes, and no held cause goes before it (R133). -/
def State.precise (s : State) (c : Context) (cause : Cause) (v : Dword) : State :=
  if cause ≠ .none ∧ c.quiet then (s.takeTrap s.core.active c cause 0 v c.pc none).tick 1 else s.tick 1

/-- R133: a boundary at which a held cause is delivered. -/
def Context.due (c : Context) : Bool := !c.held.isEmpty && !c.prv.emask

/-- What the instruction's own answer makes of the state: its completion, its trap, or, where a held cause is due and the
instruction raises none, that cause's entry in its place (R133). -/
def settleRes (sh : Shape) (s : State) (c0 c : Context) : Res → State
  | .trap cause v => s.precise c cause v
  | .entered s' => s'
  | r =>
    if c.due then (if c.quiet then (s.deliver s.core.active c).tick 1 else s.tick 1)
    else match r with
      | .done s' c' => s'.issued sh c0 { c'.passed sh with pc := nseq c.pc sh.words, reach := .fall, waiting := none }
      | .goto s' c' pc how => s'.issued sh c0 { c'.passed sh with pc := pc, reach := how, waiting := none }
      | .bound s' c' mets =>
        mets.foldl (fun s' m => s'.asyncFault s.core.active m.1 m.2)
          (s'.issued sh c0 { c'.passed sh with pc := nseq c.pc sh.words, reach := .fall, waiting := none })
      | .boundary s' c' pc how change =>
        (s'.issued sh c0 { c'.passed sh with pc := pc, reach := how, waiting := none }).atBoundary change s.core.now
      | .wait c' => (s.setCurrent (some { c0 with waiting := c'.waiting })).tick 1
      | .left s' => s'
      | .entered _ | .trap _ _ => s

/-- What `exec` and `step` answer. -/
abbrev Answer := Host.Outcome State Fault Refusal

/-- A sequencer instruction: what stands before it, then its own effect, `body` applied to the context it runs in. -/
def issue (i : Instr) (priv : Context → Option Dword) (body : State → Context → Res) (s : State) : Answer :=
  match gate i i.form priv s, s.current with
  | .go c, some c0 => .next (settleRes i.form s c0 c ((body s c).checked i.form (Instr.settled i c)))
  | .trap c cause v, _ => .next (s.precise c cause v)
  | .wait, _ => .next (s.tick 1)
  | _, _ => .fault .noContext

/-- An instruction any privilege may run. -/
def anyLevel (_ : Context) : Option Dword := none

/-- R99: an instruction whose only effect is a fixed-latency result of its operands. -/
def fixedResult (d : Code) (lat : Nat) (f : Context → Dword) (s : State) (c : Context) : Res :=
  .done s (c.result d (f c) lat)

end Sys2Proof.Machine
end

