-- ==== Sys2Proof/Machine/Fetch.lean ====
section
/-! DEFINITION. Fetch lines, fetch copies and the checks before issue and before a checked transfer (R120, R161 to R171). -/

namespace Sys2Proof.Machine

/-- R161: word k of a fetch line. -/
def lineWord (d : BitVec 1024) (k : Nat) : Word := .ofNat 32 (bits d (32 * k + 31) (32 * k))
/-- R162: SEAL. -/
def lineSeal (d : BitVec 1024) : Nat := bits (lineWord d 30) 31 30
/-- R162: KIND. -/
def lineKind (d : BitVec 1024) : Nat := bits (lineWord d 31) 31 30
/-- R162: START bit k. -/
def lineStart (d : BitVec 1024) (k : Nat) : Bool := k < 30 && bit (lineWord d 30) k
/-- R162, R163: TARGET bit k, which counts only with the START bit. -/
def lineTarget (d : BitVec 1024) (k : Nat) : Bool := lineStart d k && bit (lineWord d 31) k

/-- R170: a sector of a physical line as a fill reads it: words the core has stored as it stored them, others at their home. -/
def State.fillSector (s : State) (line k : Nat) : BitVec 256 := .ofNat 256 (readLe (s.byteUnder none) (line + 32 * k) 32)

/-- R170: the order in which a fill reads its sectors. -/
def fillOrder : List Nat := [3, 0, 1, 2]

/-- R170: the sectors that a context's fill in progress of a line has read. -/
def Context.fillGot (c : Context) (line : Nat) : List (BitVec 256) :=
  match c.fill with
  | some f => if f.line = line then f.got else []
  | none => []

/-- R170: the 128 bytes a fill delivers, its sectors not yet read being read now. -/
def State.fillData (s : State) (c : Context) (line : Nat) : BitVec 1024 :=
  let got := c.fillGot line
  .ofNat 1024 (((got ++ (fillOrder.drop got.length).map (s.fillSector line)).zip fillOrder).map fun p => p.1.toNat * 2 ^ (256 * p.2)).sum

/-- R43, R172: a scope around one core covers another. -/
def Scope.covers (sc : Scope) (issuer core : Nat) : Bool :=
  let cluster (k : Nat) : Nat := k / Config.coresPerCluster
  match sc with
  | .c => issuer == core
  | .k => cluster issuer == cluster core
  | .d => cluster issuer / 16 == cluster core / 16
  | .p | .s => true

/-- R169, R175: the core's instruction-cache copies of lines, and the results of its fills of them in flight, discarded. -/
def State.discardLines (s : State) (lines : List Nat) : State :=
  let clear (c : Context) : Context := if c.fill.any fun f => lines.contains f.line then { c with fill := none } else c
  { s with
    core := { s.core with slot0 := s.core.slot0.map clear, slot1 := s.core.slot1.map clear }
    fab := { s.fab with icache := s.fab.icache.filter fun k => !lines.contains k.line } }

/-- R169: the copy the context issues from: its fetch buffer, then the core's instruction cache. -/
def State.fetchCopy (s : State) (c : Context) (line : Nat) : Option FetchCopy :=
  match c.fbuf.find? (·.line == line) with
  | some k => some k
  | none => s.fab.icache.find? (·.line == line)

/-- R169: a copy kept in the instruction cache of 512 lines; where it is full another goes (log 34). -/
def State.cacheLine (s : State) (k : FetchCopy) : State :=
  if s.fab.icache.any (·.line == k.line) then s
  else { s with fab := { s.fab with icache := (k :: s.fab.icache).take Config.codeLines } }

/-- R169: a context's fetch buffer holds the line it issues from and one other: the line it issued from before, until a fill or
another line takes its place, which no rule says (DESIGN CHOICE, log 34). -/
def Context.buffer (c : Context) (k : FetchCopy) : Context :=
  { c with fbuf := k :: (c.fbuf.filter (·.line != k.line)).take 1
           fill := if c.fill.any (·.line == k.line) then none else c.fill }

/-- R166 checks 1 to 6 for the line that holds a virtual address: the line's bytes, and the state with its copy held. The copy of a sealed
line stays only where every check that follows is passed too; R170 names only unsealed and poisoned fills (DESIGN CHOICE, log 109). -/
def fetchLine (s : State) (c : Context) (slot : Bool) (a : Dword) : Check (State × Context × BitVec 1024) := do
  let part := s.partOf c.launch
  let leaf ← mapOne s (s.threadByte slot) part .exec a.toNat
  let lineVa : Dword := .ofNat 64 (lineOf a.toNat)
  if leaf.fmt ≠ 0 then failed .fmtbad (.ofNat 64 leaf.page)
  else
    let line := lineOf (leaf.phys a.toNat)
    match s.fetchCopy c line with
    | some k => .ok ((s.holdLeaves part [leaf]), c.buffer k, k.data)
    | none =>
      match s.meets line with
      | some cause => failed cause lineVa
      | none =>
        let d := s.fillData c line
        if lineSeal d = 0 ∨ lineSeal d = 3 ∨ 2 ≤ lineKind d then failed .unsealed lineVa
        else if lineSeal d = 1 then failed .halfline lineVa
        else .ok ((s.holdLeaves part [leaf]).cacheLine ⟨line, d⟩, c.buffer ⟨line, d⟩, d)

/-- The slot of an address in its line. -/
def slotOf (a : Dword) : Nat := a.toNat / 4 % 32

/-- R120, R164, R167: the checks of a checked transfer, made before it: the fetch checks of its target, the target mark, and
for `call` and `jalr` an entry line's slot 0. -/
def checkTransfer (s : State) (c : Context) (slot toEntry : Bool) (a : Dword) : Check (State × Context) := do
  let (s, c, d) ← fetchLine s c slot a
  if a.toNat % 4 ≠ 0 ∨ !lineTarget d (slotOf a) then failed .badtarget a
  else if toEntry ∧ ¬ (slotOf a = 0 ∧ lineKind d = 1) then failed .badtarget a
  else .ok (s, c)

/-- R166: every check of the instruction at pc, and its one or two words. For a pc not aligned to 4, which `eret` may restore and the
rule's table does not list, the model raises ILLOP with the word of the slot that holds pc (DESIGN CHOICE, log 70). -/
def fetchNext (s : State) (c : Context) (slot : Bool) : Check (State × Context × Word × Word) := do
  let (s, c, d) ← fetchLine s c slot c.pc
  let k := slotOf c.pc
  let atEntry := k == 0 && lineKind d == 1
  let bad := match c.reach with
    | .entry => !(atEntry && c.pc.toNat % 4 == 0)
    | .fall => atEntry
    | .other => false
  if bad then failed .badtarget c.pc
  else
    let w := lineWord d k
    if c.pc.toNat % 4 ≠ 0 ∨ !lineStart d k then failed .illop (zext64 w)
    else if isLong w.toNat ∧ (k = 29 ∨ lineStart d (k + 1)) then failed .illop (zext64 w)
    else .ok (s, c, w, lineWord d (k + 1))

end Sys2Proof.Machine
end

