-- ==== Sys2Proof/Machine/Control.lean ====
section
/-! DEFINITION. Branches, calls, jumps and hardware loops: R118 to R124. -/

namespace Sys2Proof.Machine

/-- R118: the branch's own address + 4 × sext(disp18, 64). -/
def branchTarget (c : Context) (i : BitVec 18) : Dword := c.pc + 4 * sext64 i

/-- R120, R167: a checked transfer, taken with the context `after` makes of it; it faults with no effect. -/
def transfer (toEntry : Bool) (a : Dword) (after : Context → Context) (s : State) (c : Context) : Res :=
  (checkTransfer s c s.core.active toEntry a).orTrap fun (s', c') => .goto s' (after c') a .other

/-- R118: a conditional branch. -/
def branchIf (taken : Context → Bool) (i : BitVec 18) (s : State) (c : Context) : Res :=
  if taken c then transfer false (branchTarget c i) id s c else .done s c

/-- R118 `br`. -/
def execBr (st : BitVec 2) (i : BitVec 18) (s : State) : Answer :=
  issue (.br st i) anyLevel (branchIf (fun _ => true) i) s

/-- R118 `beqz`. -/
def execBeqz (st : BitVec 2) (a : Code) (i : BitVec 18) (s : State) : Answer :=
  issue (.beqz st a i) anyLevel (branchIf (fun c => (c.read a) == 0) i) s

/-- R118 `bnez`. -/
def execBnez (st : BitVec 2) (a : Code) (i : BitVec 18) (s : State) : Answer :=
  issue (.bnez st a i) anyLevel (branchIf (fun c => (c.read a) != 0) i) s

/-- R118 `bltz`. -/
def execBltz (st : BitVec 2) (a : Code) (i : BitVec 18) (s : State) : Answer :=
  issue (.bltz st a i) anyLevel (branchIf (fun c => (c.read a).slt 0) i) s

/-- R118 `bgez`. -/
def execBgez (st : BitVec 2) (a : Code) (i : BitVec 18) (s : State) : Answer :=
  issue (.bgez st a i) anyLevel (branchIf (fun c => !(c.read a).slt 0) i) s

/-- R118 `bgtz`. -/
def execBgtz (st : BitVec 2) (a : Code) (i : BitVec 18) (s : State) : Answer :=
  issue (.bgtz st a i) anyLevel (branchIf (fun c => (0#64).slt (c.read a)) i) s

/-- R118 `blez`. -/
def execBlez (st : BitVec 2) (a : Code) (i : BitVec 18) (s : State) : Answer :=
  issue (.blez st a i) anyLevel (branchIf (fun c => !(0#64).slt (c.read a)) i) s

/-- R119 `call`: the link goes to the register a names. -/
def execCall (st : BitVec 2) (a : Code) (i : BitVec 18) (s : State) : Answer :=
  issue (.call st a i) anyLevel (fun s c => transfer true (branchTarget c i) (fun c => c.result a (nseq c.pc 1) 1) s c) s

/-- R119 `jr`. -/
def execJr (st : BitVec 2) (a : Code) (s : State) : Answer :=
  issue (.jr st a) anyLevel (fun s c => transfer false (c.read a) id s c) s

/-- R119 `jalr`: the target is read before the link is written. -/
def execJalr (st : BitVec 2) (d a : Code) (s : State) : Answer :=
  issue (.jalr st d a) anyLevel (fun s c => transfer true (c.read a) (fun c => c.result d (nseq c.pc 1) 1) s c) s

/-- R121: `loop`. -/
def openLoop (a : Code) (i : BitVec 18) (s : State) (c : Context) : Res :=
  let n : Word := (c.read a).truncate 32
  let fin := c.pc + 4 * zext64 i
  if 6 ≤ c.loops.length then .trap .loopovf 0
  else if n = 0 then .goto s c (nseq fin 1) .other
  else .done s { c with loops := ⟨0, n, nseq c.pc 1, fin⟩ :: c.loops }

/-- R121 `loop`. -/
def execLoop (st : BitVec 2) (a : Code) (i : BitVec 18) (s : State) : Answer :=
  issue (.loop st a i) anyLevel (openLoop a i) s

/-- R92: an `endl` may change the active slot after 2048 cycles. -/
def endlChanges (s : State) : Bool := decide (s.core.since + Config.endlCycles ≤ s.core.now) && (s.ctx !s.core.active).isSome

/-- R122: `endl`. -/
def closeLoop (s : State) (c : Context) : Res :=
  match c.loops with
  | [] => .trap .loopovf 1
  | l :: rest =>
    if c.pc ≠ l.fin then .trap .loopovf 2
    else if c.boundaryWaits (endlChanges s) then .wait c
    else
      let c := { c with rrb := c.rrb - 1 }
      if (l.index + 1).toNat < l.count.toNat then
        .boundary s { c with loops := { l with index := l.index + 1 } :: rest } l.start .other (endlChanges s)
      else .boundary s { c with loops := rest } (nseq c.pc 1) .fall (endlChanges s)

/-- R122 `endl`. -/
def execEndl (st : BitVec 2) (s : State) : Answer := issue (.endl st) anyLevel closeLoop s

/-- R123: `lexit`. -/
def leaveLoop (s : State) (c : Context) : Res :=
  match c.loops with
  | [] => .trap .loopovf 1
  | _ :: rest => .done s { c with loops := rest }

/-- R123 `lexit`. -/
def execLexit (st : BitVec 2) (s : State) : Answer := issue (.lexit st) anyLevel leaveLoop s

/-- R124: `yield`. -/
def yieldSlot (s : State) (c : Context) : Res :=
  let change := (s.ctx !s.core.active).isSome
  if c.boundaryWaits change then .wait c else .boundary s c (nseq c.pc 1) .fall change

/-- R124 `yield`. -/
def execYield (st : BitVec 2) (s : State) : Answer := issue (.yield st) anyLevel yieldSlot s

end Sys2Proof.Machine
end

