-- ==== Sys2Proof/Machine/Float.lean ====
section
/-! DEFINITION. Exact values, formats, rounding and conversions (R58 to R67, R89). -/

namespace Sys2Proof.Machine

/-- An exact value: NaN, an infinity, or ±n/d with d positive; a zero keeps its sign (R64). -/
inductive XVal where
  | nan
  | inf (neg : Bool)
  | fin (neg : Bool) (n d : Nat)
  deriving DecidableEq, Repr

/-- +0. -/
def XVal.zero : XVal := .fin false 0 1

def XVal.isNan : XVal → Bool
  | .nan => true
  | _ => false

/-- NaN or infinite. -/
def XVal.special : XVal → Bool
  | .fin .. => false
  | _ => true

def XVal.isZero : XVal → Bool
  | .fin _ n _ => n == 0
  | _ => false

/-- The sign inverted. -/
def XVal.neg : XVal → XVal
  | .nan => .nan
  | .inf s => .inf !s
  | .fin s n d => .fin (!s) n d

/-- The sign cleared. -/
def XVal.abs : XVal → XVal
  | .nan => .nan
  | .inf _ => .inf false
  | .fin _ n d => .fin false n d

/-- m × 2^e, exactly. -/
def XVal.scaled (neg : Bool) (m : Nat) (e : Int) : XVal :=
  if 0 ≤ e then .fin neg (m * 2 ^ e.toNat) 1 else .fin neg m (2 ^ (-e).toNat)

/-- An integer. -/
def XVal.ofInt (v : Int) : XVal := .fin (v < 0) v.natAbs 1

/-- The signed numerators over a common denominator. -/
def overCommon (n₁ d₁ n₂ d₂ : Nat) : Nat × Nat × Nat :=
  if d₁ = d₂ then (n₁, n₂, d₁)
  else if d₁ % d₂ = 0 then (n₁, n₂ * (d₁ / d₂), d₁)
  else if d₂ % d₁ = 0 then (n₁ * (d₂ / d₁), n₂, d₂)
  else (n₁ * d₂, n₂ * d₁, d₁ * d₂)

/-- R64: an exact sum of two terms. -/
def XVal.add : XVal → XVal → XVal
  | .nan, _ | _, .nan => .nan
  | .inf s, .inf t => if s = t then .inf s else .nan
  | .inf s, _ => .inf s
  | _, .inf t => .inf t
  | .fin s n₁ d₁, .fin t n₂ d₂ =>
    let (a, b, d) := overCommon n₁ d₁ n₂ d₂
    if s = t then .fin s (a + b) d
    else if b < a then .fin s (a - b) d
    else if a < b then .fin t (b - a) d
    else .fin false 0 1

/-- R64: an exact sum of several terms, from −0, which every other term absorbs. -/
def XVal.sum (ts : List XVal) : XVal := if ts.isEmpty then .zero else ts.foldl .add (.fin true 0 1)

/-- R60: an exact product; ∞ × 0 is NaN. -/
def XVal.mul : XVal → XVal → XVal
  | .nan, _ | _, .nan => .nan
  | .inf s, .inf t => .inf (s != t)
  | .inf s, .fin t n _ => if n = 0 then .nan else .inf (s != t)
  | .fin t n _, .inf s => if n = 0 then .nan else .inf (s != t)
  | .fin s n₁ d₁, .fin t n₂ d₂ => .fin (s != t) (n₁ * n₂) (d₁ * d₂)

/-- R115: an exact quotient: 0/0 and ∞/∞ are NaN, a finite non-zero value by ±0 is ∞. -/
def XVal.div : XVal → XVal → XVal
  | .nan, _ | _, .nan => .nan
  | .inf _, .inf _ => .nan
  | .inf s, .fin t _ _ => .inf (s != t)
  | .fin s _ _, .inf t => .fin (s != t) 0 1
  | .fin s n₁ d₁, .fin t n₂ d₂ =>
    if n₂ = 0 then (if n₁ = 0 then .nan else .inf (s != t)) else .fin (s != t) (n₁ * d₂) (d₁ * n₂)

/-- The integer square root, from bit b - 1 down. -/
def sqrtBits (n : Nat) : Nat → Nat → Nat
  | 0, r => r
  | b + 1, r => if (r + 2 ^ b) * (r + 2 ^ b) ≤ n then sqrtBits n b (r + 2 ^ b) else sqrtBits n b r

/-- A square root: exact where rational in these terms, else a value strictly between the same two neighbours at more than
a hundred bits, which every rounding of R64 treats alike. -/
def XVal.sqrt : XVal → XVal
  | .nan => .nan
  | .inf s => if s then .nan else .inf false
  | .fin s n d =>
    if n = 0 then .fin s 0 1
    else if s then .nan
    else
      let m := n * d * 4 ^ 128
      let r := sqrtBits m (Nat.log2 m / 2 + 1) 0
      if r * r = m then .fin false r (d * 2 ^ 128) else .fin false (2 * r + 1) (d * 2 ^ 129)

/-- −1, 0 or 1 as the first is below, equal to or above the second; none when either is NaN. -/
def XVal.cmp (a b : XVal) : Option Ordering :=
  match a, b with
  | .nan, _ | _, .nan => none
  | .inf s, .inf t => some (if s = t then .eq else if s then .lt else .gt)
  | .inf s, _ => some (if s then .lt else .gt)
  | _, .inf t => some (if t then .gt else .lt)
  | .fin s n₁ d₁, .fin t n₂ d₂ =>
    let x : Int := (if s then -1 else 1) * (n₁ * d₂ : Nat)
    let y : Int := (if t then -1 else 1) * (n₂ * d₁ : Nat)
    some (if x < y then .lt else if x = y then .eq else .gt)

def XVal.lt (a b : XVal) : Bool := a.cmp b == some .lt
def XVal.le (a b : XVal) : Bool := match a.cmp b with | some .lt | some .eq => true | _ => false
def XVal.eq (a b : XVal) : Bool := a.cmp b == some .eq

/-- The larger of two values neither of which is NaN. -/
def XVal.larger (a b : XVal) : XVal := if a.lt b then b else a

/-- A binary format of R59 or R61: magnitude codes rise with value, so rounding and decoding work on the code below the
sign bit. -/
structure Fmt where
  /-- Bits in all, the sign bit at the top. -/
  width : Nat
  /-- P: fraction bits. -/
  frac : Nat
  /-- Exponent of the smallest normal. -/
  emin : Int
  /-- Magnitude code of the largest finite value. -/
  maxCode : Nat
  /-- Magnitude code of infinity. -/
  infCode : Option Nat
  /-- The canonical NaN. -/
  nanCode : Option Nat
  deriving DecidableEq, Repr

def f64 : Fmt := ⟨64, 52, -1022, 0x7FEFFFFFFFFFFFFF, some 0x7FF0000000000000, some 0x7FF8000000000000⟩
def f32 : Fmt := ⟨32, 23, -126, 0x7F7FFFFF, some 0x7F800000, some 0x7FC00000⟩
def f16 : Fmt := ⟨16, 10, -14, 0x7BFF, some 0x7C00, some 0x7E00⟩
def bf16 : Fmt := ⟨16, 7, -126, 0x7F7F, some 0x7F80, some 0x7FC0⟩
def e4m3 : Fmt := ⟨8, 3, -6, 0x7E, none, some 0x7F⟩
def e5m2 : Fmt := ⟨8, 2, -14, 0x7B, some 0x7C, some 0x7E⟩
def e2m1 : Fmt := ⟨4, 1, 0, 7, none, none⟩

/-- R59, R61, R62, R89: decode(F, bits). -/
def Fmt.decode (F : Fmt) (v : Nat) : XVal :=
  let mag := v % 2 ^ (F.width - 1)
  let neg := v / 2 ^ (F.width - 1) % 2 = 1
  if F.infCode = some mag then .inf neg
  else if F.maxCode < mag then .nan
  else
    let e := mag / 2 ^ F.frac
    let f := mag % 2 ^ F.frac
    if e = 0 then .scaled neg f (F.emin - F.frac)
    else .scaled neg (2 ^ F.frac + f) (F.emin - F.frac + (e - 1))

/-- R61: decode of an E8M0 scale. -/
def decodeE8m0 (v : Nat) : XVal := if v = 255 then .nan else .scaled false 1 ((v : Int) - 127)

/-- R63: a rounding mode, with the 32 bits drawn for `sr`. -/
inductive Rm where
  | rne | rtz | rmi | rpl
  | sr (u : Nat)
  deriving DecidableEq, Repr

/-- ⌊log2 (n/d)⌋, for n and d positive. -/
def floorLog2 (n d : Nat) : Int :=
  let k : Int := (Nat.log2 n : Int) - Nat.log2 d
  if (if 0 ≤ k then decide (d * 2 ^ k.toNat ≤ n) else decide (d ≤ n * 2 ^ (-k).toNat)) then k else k - 1

/-- R64: whether a truncated magnitude of `t` steps with discarded fraction r/den rounds up. -/
def Rm.up (m : Rm) (neg : Bool) (t r den : Nat) : Bool :=
  match m with
  | .rne => den < 2 * r || (2 * r = den && t % 2 = 1)
  | .rtz => false
  | .rmi => r ≠ 0 && neg
  | .rpl => r ≠ 0 && !neg
  | .sr u => decide (2 ^ 32 ≤ r * 2 ^ 32 / den + u)

/-- R64: what overflow beyond the largest finite value becomes in a format with infinities. -/
def Rm.overflows (m : Rm) (neg : Bool) : Bool :=
  match m with
  | .rne => true
  | .sr _ => true
  | .rmi => neg
  | .rpl => !neg
  | .rtz => false

/-- A sign over a magnitude code. -/
def Fmt.signed (F : Fmt) (neg : Bool) (mag : Nat) : Nat := (if neg then 2 ^ (F.width - 1) else 0) + mag

/-- R64, R89: encode(F, x, m): the pattern of round_to(x, F, m), with the flags it raises. -/
def Fmt.encode (F : Fmt) (m : Rm) (x : XVal) : Nat × Raised :=
  match x with
  | .nan => match F.nanCode with
    | some c => (c, {})
    | none => (0, .onlyNv)
  | .inf s => match F.infCode with
    | some c => (F.signed s c, {})
    | none => (F.signed s F.maxCode, .onlySat)
  | .fin s n d =>
    if n = 0 then (F.signed s 0, {})
    else
      let qe := max (floorLog2 n d) F.emin - F.frac
      let num := if 0 ≤ qe then n else n * 2 ^ (-qe).toNat
      let den := if 0 ≤ qe then d * 2 ^ qe.toNat else d
      let t := num / den
      let v := if m.up s t (num % den) den then t + 1 else t
      let mag := (qe - (F.emin - F.frac)).toNat * 2 ^ F.frac + v
      if F.maxCode < mag then
        match F.infCode with
        | none => (F.signed s F.maxCode, .onlySat)
        | some c => (F.signed s (if m.overflows s then c else F.maxCode), {})
      else (F.signed s mag, {})

/-- R89: round_to as an exact value. -/
def Fmt.round (F : Fmt) (m : Rm) (x : XVal) : XVal := F.decode (F.encode m x).1

/-- R64, R67: an exact value rounded to an integer, step 1 of the conversion. -/
def roundInt (m : Rm) (neg : Bool) (n d : Nat) : Int :=
  let t := n / d
  let v : Nat := if m.up neg t (n % d) d then t + 1 else t
  if neg then -(v : Int) else v

/-- R58, R67: clamped to a range, with SAT when that changes it. -/
def clampInt (lo hi v : Int) : Int × Raised :=
  if v < lo then (lo, .onlySat) else if hi < v then (hi, .onlySat) else (v, {})

/-- R67: floating point to an integer type of the range lo to hi. -/
def toInteger (m : Rm) (lo hi : Int) (x : XVal) : Int × Raised :=
  match x with
  | .nan => (0, .onlyNv)
  | .inf s => (if s then lo else hi, .onlySat)
  | .fin s n d => clampInt lo hi (roundInt m s n d)

/-- R117: the types of `cvt`. -/
inductive NumType where
  | int (signed : Bool) (width : Nat)
  | flt (f : Fmt)
  deriving DecidableEq, Repr

/-- R117: the type codes; none is reserved. -/
def NumType.ofCode : Nat → Option NumType
  | 0 => some (.int true 64) | 1 => some (.int false 64) | 2 => some (.int true 32) | 3 => some (.int false 32)
  | 4 => some (.int true 16) | 5 => some (.int false 16) | 6 => some (.int true 8) | 7 => some (.int false 8)
  | 8 => some (.flt f64) | 9 => some (.flt f32) | 10 => some (.flt f16) | 11 => some (.flt bf16)
  | 12 => some (.flt e4m3) | 13 => some (.flt e5m2) | 14 => some (.flt e2m1)
  | _ => none

/-- R58: the range of an integer type. -/
def intRange (signed : Bool) (w : Nat) : Int × Int :=
  if signed then (-(2 ^ (w - 1) : Nat), (2 ^ (w - 1) : Nat) - 1) else (0, (2 ^ w : Nat) - 1)

/-- The integer the low w bits of a number hold. -/
def readInt (signed : Bool) (w v : Nat) : Int :=
  let u := v % 2 ^ w
  if signed ∧ 2 ^ (w - 1) ≤ u then (u : Int) - (2 ^ w : Nat) else u

/-- R117: a conversion that rounds. -/
def NumType.rounds : NumType → NumType → Bool
  | .int .., .int .. => false
  | dt, st => dt ≠ st

/-- R117, R66, R67: the low bits of a value of type st converted to type dt: an integer result as an integer, a floating
one as its pattern. -/
def NumType.convert (dt st : NumType) (m : Rm) (v : Nat) : Int × Raised :=
  match st, dt with
  | .int s w, .int s' w' => clampInt (intRange s' w').1 (intRange s' w').2 (readInt s w v)
  | .int s w, .flt F => let (c, r) := F.encode m (.ofInt (readInt s w v)); (c, r)
  | .flt F, .int s w => toInteger m (intRange s w).1 (intRange s w).2 (F.decode v)
  | .flt F, .flt G =>
    if F = G then
      match F.decode v with
      | .nan => ((F.nanCode.getD 0 : Nat), {})
      | _ => ((v % 2 ^ F.width : Nat), {})
    else let (c, r) := G.encode m (F.decode v); (c, r)

/-- R63, R65: the mode of a rounding code, with the generator's next draw where it is `sr`, and the generator after it. -/
def drawMode (code : Nat) (g : Dword) : Rm × Dword :=
  match code with
  | 1 => (.rtz, g)
  | 2 => (.rmi, g)
  | 3 => (.rpl, g)
  | 4 => (.sr (bits (nextSr g) 31 0), nextSr g)
  | _ => (.rne, g)

/-- The type of a scalar floating-point major or type field (R115, R116). -/
def scalarFmt (t : BitVec 2) : Fmt := if t = 0 then f64 else if t = 1 then f32 else if t = 2 then f16 else bf16

/-- The value of a register's low bits in a format. -/
def Context.float (c : Context) (F : Fmt) (r : Code) : XVal := F.decode (c.read r).toNat

end Sys2Proof.Machine
end

