-- ==== Sys2Proof/Machine/Formats.lean ====
section
/-! DEFINITION. Stored formats: page formats, block-scaled frames, NQ4 superblocks and L8 groups (R68 to R84, R444). -/

namespace Sys2Proof.Machine

/-- R68: the scale types. -/
inductive ScaleType where
  | e8m0 | e5m2 | e4m3
  deriving DecidableEq, Repr

/-- R68: the page formats. -/
inductive PageFmt where
  | raw
  /-- Element format, block length L, scale type. -/
  | block (elem : Fmt) (len : Nat) (scale : ScaleType)
  | nq4
  | l8
  deriving DecidableEq, Repr

/-- R68: the format of a page's FMT; none is reserved. -/
def PageFmt.ofCode (v : Nat) : Option PageFmt :=
  if 64 ≤ v then
    let elem := match v / 16 % 4 with | 0 => some e2m1 | 1 => some e4m3 | 2 => some e5m2 | _ => none
    let scale := match v % 4 with | 0 => some ScaleType.e8m0 | 1 => some .e5m2 | 2 => some .e4m3 | _ => none
    match elem, scale with
    | some e, some s => some (.block e (8 * 2 ^ (v / 4 % 4)) s)
    | _, _ => none
  else match v with
    | 0 => some .raw
    | 1 => some .nq4
    | 2 => some .l8
    | _ => none

/-- R157: the stored types. -/
inductive Stored where
  | elem (f : Fmt)
  | nq4
  | l8
  deriving DecidableEq, Repr

/-- R157: the stored-type codes; none is reserved. -/
def Stored.ofCode : Nat → Option Stored
  | 0 => some (.elem e2m1)
  | 1 => some (.elem e4m3)
  | 2 => some (.elem e5m2)
  | 3 => some .nq4
  | 4 => some .l8
  | _ => none

/-- R69: the page format holds the stored type. -/
def Stored.fits : Stored → PageFmt → Bool
  | .elem f, .block e _ _ => f = e
  | .nq4, .nq4 => true
  | .l8, .l8 => true
  | _, _ => false

/-- R61: a scale byte's value. -/
def ScaleType.value (t : ScaleType) (v : Nat) : XVal :=
  match t with
  | .e8m0 => decodeE8m0 v
  | .e5m2 => Sys2Proof.Machine.e5m2.decode v
  | .e4m3 => Sys2Proof.Machine.e4m3.decode v

/-- R73: the NaN, the smallest positive and the largest finite scale codes. -/
def ScaleType.nanCode : ScaleType → Nat
  | .e8m0 => 0xFF | .e5m2 => 0x7E | .e4m3 => 0x7F
def ScaleType.least : ScaleType → Nat
  | .e8m0 => 0x00 | .e5m2 => 0x01 | .e4m3 => 0x01
def ScaleType.most : ScaleType → Nat
  | .e8m0 => 0xFE | .e5m2 => 0x7B | .e4m3 => 0x7E

/-- R71: bytes of a frame of 32 blocks. -/
def frameBytes (elem : Fmt) (len : Nat) : Nat := 32 + 4 * len * elem.width

/-- R71: the offset of block b's scale byte. -/
def scaleOffset (elem : Fmt) (len b : Nat) : Nat := b / 32 * frameBytes elem len + b % 32

/-- R71, R74, R76: the offset of the byte that holds element i's code (its first byte for L8). -/
def PageFmt.codeOffset (pf : PageFmt) (i : Nat) : Nat :=
  match pf with
  | .raw => i
  | .block e len _ =>
    let b := i / len
    b / 32 * frameBytes e len + 32 +
      (if e.width = 8 then b % 32 * len + i % len else b % 32 * (len / 2) + i % len / 2)
  | .nq4 => i / 256 * 136 + 8 + i % 256 / 2
  | .l8 => i / 1024 * 272 + 16 + 16 * (i / 64 % 16) + 2 * (i / 8 % 8)

/-- R71, R74, R76: the code and scale bytes that govern element i. -/
def PageFmt.bytesOf (pf : PageFmt) (i : Nat) : List Nat :=
  match pf with
  | .raw => [i]
  | .block e len _ => [scaleOffset e len (i / len), pf.codeOffset i]
  | .nq4 => span (i / 256 * 136) 4 ++ [i / 256 * 136 + 4 + i / 64 % 4, pf.codeOffset i]
  | .l8 => [i / 1024 * 272 + i / 64 % 16, pf.codeOffset i, pf.codeOffset i + 1]

/-- R71: the half of a byte that holds a 4-bit code. -/
def nibble (v i : Nat) : Nat := if i % 2 = 0 then v % 16 else v / 16 % 16

/-- R74: the levels k of the NQ4 codes. -/
def nq4Levels : List Int := [-256, -186, -142, -108, -78, -50, -24, 0, 21, 42, 64, 88, 114, 144, 183, 256]

/-- R74: k(c). -/
def nq4Level (c : Nat) : Int := nq4Levels[c]?.getD 0

/-- R74: the level S × k(c) × s × 2^−16. -/
def nq4Value (S : XVal) (c s : Nat) : XVal := (S.mul (.scaled (nq4Level c < 0) ((nq4Level c).natAbs * s) (-16)))

/-! The E8 lattice (R76 to R81). -/

/-- R77: the tails of m integers of parity π with the given sum of squares and sum mod 4. -/
def cnt : Nat → Nat → Int → Int → Nat
  | 0, q, s, _ => if q = 0 ∧ s % 4 = 0 then 1 else 0
  | m + 1, q, s, par =>
    ((List.range 19).map fun (k : Nat) =>
      let v : Int := (k : Int) - 9
      if v % 2 = par % 2 ∧ v.natAbs ^ 2 ≤ q then cnt m (q - v.natAbs ^ 2) ((s - v) % 4) par else 0).sum

/-- R77: the first code of each shell, by half its squared norm. -/
def shellBase : List Nat := [0, 1, 241, 2401, 9121, 26641]

/-- R77: the candidates of a coordinate, ascending, of a parity where one is given. -/
def candidates (qa : Nat) (par : Option Int) : List Int :=
  ((List.range 19).map fun (k : Nat) => (k : Int) - 9).filter fun v =>
    decide (v.natAbs ^ 2 ≤ qa) && (match par with | some p => decide (v % 2 = p) | none => true)

/-- R77: rank, over the coordinates left. -/
def rankFrom (code : Nat) (qa : Nat) (sm : Int) (par : Option Int) : List Int → Nat
  | [] => code
  | y :: rest =>
    let below := (candidates qa par).filter (· < y)
    let code := code + (below.map fun v => cnt rest.length (qa - v.natAbs ^ 2) ((-sm - v) % 4) (v % 2)).sum
    rankFrom code (qa - y.natAbs ^ 2) (sm + y) (some (y % 2)) rest

/-- R77: rank of a codebook point, in doubled coordinates. -/
def rank (y : List Int) : Nat :=
  let q := (y.map fun v => v.natAbs ^ 2).sum
  rankFrom (shellBase[q / 8]?.getD 0) q 0 none y

/-- The first candidate whose tails reach k, with the k left. -/
def pickCandidate (rest qa : Nat) (sm : Int) : Nat → List Int → Int × Nat
  | k, [] => (0, k)
  | k, v :: vs =>
    let w := cnt rest (qa - v.natAbs ^ 2) ((-sm - v) % 4) (v % 2)
    if k < w then (v, k) else pickCandidate rest qa sm (k - w) vs

/-- R77: unrank, for the coordinates left. -/
def unrankFrom : Nat → Nat → Nat → Int → Option Int → List Int
  | 0, _, _, _, _ => []
  | m + 1, k, qa, sm, par =>
    let (v, k') := pickCandidate m qa sm k (candidates qa par)
    v :: unrankFrom m k' (qa - v.natAbs ^ 2) (sm + v) (some (v % 2))

/-- R77: the doubled coordinates of a code of 0 to 56,880. -/
def unrank (c : Nat) : List Int :=
  let n := ((shellBase.filter (· ≤ c)).length) - 1
  unrankFrom 8 (c - (shellBase[n]?.getD 0)) (8 * n) 0 none

/-- R78: the codes that name a point. -/
def isPoint (c : Nat) : Bool := c ≤ 56880

/-- A finite value as a signed numerator over d. -/
def overDen (d : Nat) (x : XVal) : Int :=
  match x with
  | .fin s n d' => (if s then -1 else 1) * (n * (d / d') : Nat)
  | _ => 0

/-- A denominator common to finite values. -/
def commonDen (xs : List XVal) : Nat :=
  xs.foldl (fun d x => match x with | .fin _ _ d' => Nat.lcm d d' | _ => d) 2

/-- R79: an integer nearest to v/d, ties to even. -/
def nearInt (v : Int) (d : Nat) : Int :=
  let t := v / d
  let r := v % d
  if d < 2 * r ∨ (2 * r = d ∧ t % 2 ≠ 0) then t + 1 else t

/-- The index of the first largest entry. -/
def firstLargest (xs : List Nat) : Nat :=
  let m := xs.foldl Nat.max 0
  xs.findIdx (· == m)

/-- R79: nearest_d8 of the vector v/d. -/
def nearestD8 (d : Nat) (v : List Int) : List Int :=
  let f := v.map (nearInt · d)
  if f.sum % 2 = 0 then f
  else
    let j := firstLargest ((v.zip f).map fun (p : Int × Int) => (p.1 - p.2 * d).natAbs)
    f.mapIdx fun i fi => if i = j then (if fi * d ≤ v[i]?.getD 0 then fi + 1 else fi - 1) else fi

/-- The squared distance of v/d from a point in doubled coordinates, times 4d². -/
def dist2 (d : Nat) (v y : List Int) : Nat := ((v.zip y).map fun (p : Int × Int) => (2 * p.1 - p.2 * d).natAbs ^ 2).sum

/-- R79: nearest_e8 of the vector v/d (d even), in doubled coordinates. -/
def nearestE8 (d : Nat) (v : List Int) : List Int :=
  let a := (nearestD8 d v).map (2 * ·)
  let b := (nearestD8 d (v.map (· - (d / 2 : Nat)))).map (2 * · + 1)
  if dist2 d v b < dist2 d v a then b else a

/-- R77: the squared norm of a point is at most 10. -/
def inBook (y : List Int) : Bool := (y.map fun v => v.natAbs ^ 2).sum ≤ 40

/-- R80: the shell-overflow loop of l8_point; the fuel is the bits of the largest coordinate, more passes than it takes. -/
def shrinkToBook : Nat → Nat → List Int → Bool → List Int × Bool
  | 0, d, w, sov => (nearestE8 d w, sov)
  | n + 1, d, w, sov =>
    let y := nearestE8 d w
    if inBook y then (y, sov) else shrinkToBook n (4 * d) (w.map (3 * ·)) true

/-- v × 2^−e for finite values, over one even denominator. -/
def scaleDown (v : List XVal) (e : Int) : Nat × List Int :=
  let v := v.map fun x => x.mul (.scaled false 1 (-e))
  let d := commonDen v
  (d, v.map (overDen d))

/-- R80: l8_point: the code of a vector of finite values under exponent e, and SOV. -/
def l8Point (v : List XVal) (e : Int) : Nat × Raised :=
  let (d, w) := scaleDown v e
  let fuel := 3 * (Nat.log2 ((w.map Int.natAbs).foldl Nat.max 1) + 4)
  let (y, sov) := shrinkToBook fuel d w false
  (rank y, { sov := sov })

/-- R80: the test of one exponent on every point of a group. -/
def l8Fits (x : List XVal) (e : Int) : Bool :=
  (List.range 8).all fun p => let (d, w) := scaleDown ((x.drop (8 * p)).take 8) e; inBook (nearestE8 d w)

/-- R80: the least exponent of −127 to 127 that fits, by halving; 127 if none. -/
def leastExponent (x : List XVal) : Nat → Nat → Nat → Int
  | 0, lo, _ => (lo : Int) - 127
  | n + 1, lo, hi =>
    if hi ≤ lo then (lo : Int) - 127
    else
      let mid := (lo + hi) / 2
      if l8Fits x ((mid : Int) - 127) then leastExponent x n lo mid else leastExponent x n (mid + 1) hi

/-- R80: the scale byte and the eight codes of a group of 64 values. -/
def l8EncodeGroup (x : List XVal) : Nat × List Nat × Raised :=
  if x.any XVal.special then (0xFF, List.replicate 8 0xFFFF, .onlyNv)
  else
    let e := leastExponent x 8 0 254
    let ps := (List.range 8).map fun p => l8Point ((x.drop (8 * p)).take 8) e
    ((e + 127).toNat, ps.map (·.1), (ps.map (·.2)).foldl .or {})

/-- R81: coordinate k of a point's code, times 2^e; NaN for a reserved code. -/
def l8Coord (c k : Nat) (e : Int) : XVal :=
  if isPoint c then
    let y := (unrank c)[k]?.getD 0
    .scaled (y < 0) y.natAbs (e - 1)
  else .nan

/-! Decoding (R72, R74, R81, R444). -/

/-- R444: the tensor scale of TSTYPE and TSCALE; a reserved type is refused before this (R69). -/
def tensorScale (tstype : Nat) (tscale : Word) : XVal :=
  match tstype with
  | 1 => bf16.decode (bits tscale 15 0)
  | 2 => f32.decode tscale.toNat
  | _ => .fin false 1 1

/-- The value of element i before the one rounding to its destination, its bytes read through rd by offset from BASE. -/
def PageFmt.decodeElem (pf : PageFmt) (T : XVal) (rd : Nat → Nat) (i : Nat) : XVal :=
  match pf with
  | .raw => .zero
  | .block e len st =>
    let code := rd (pf.codeOffset i)
    let a := e.decode (if e.width = 4 then nibble code i else code)
    (a.mul (st.value (rd (scaleOffset e len (i / len))))).mul T
  | .nq4 =>
    let base := i / 256 * 136
    let S := f32.decode (rd base + 256 * rd (base + 1) + 65536 * rd (base + 2) + 16777216 * rd (base + 3))
    f32.round .rne ((nq4Value S (nibble (rd (pf.codeOffset i)) i) (rd (base + 4 + i / 64 % 4))).mul T)
  | .l8 =>
    let g := rd (i / 1024 * 272 + i / 64 % 16)
    let c := rd (pf.codeOffset i) + 256 * rd (pf.codeOffset i + 1)
    if g = 255 then .nan else (l8Coord c (i % 8) ((g : Int) - 127)).mul T

/-! Encoding (R73, R75, R80, R82, R84). -/

/-- What an encoder leaves: bytes by offset, flags, the generator, and whether it rounds by `sr`. -/
structure Enc where
  bytes : List (Nat × Nat)
  flags : Raised
  gen : Dword
  deriving DecidableEq, Repr

/-- A byte as the encoder has left it. -/
def Enc.get (e : Enc) (rd : Nat → Nat) (o : Nat) : Nat := ((e.bytes.find? (·.1 == o)).map (·.2)).getD (rd o)
/-- A byte changed. -/
def Enc.put (e : Enc) (o v : Nat) : Enc := { e with bytes := (o, v % 256) :: e.bytes.filter (·.1 ≠ o) }
/-- A half of a byte changed. -/
def Enc.putNibble (e : Enc) (rd : Nat → Nat) (o i v : Nat) : Enc :=
  let old := e.get rd o
  e.put o (if i % 2 = 0 then old / 16 * 16 + v % 16 else old % 16 + v % 16 * 16)
/-- Flags raised. -/
def Enc.raise (e : Enc) (r : Raised) : Enc := { e with flags := e.flags.or r }

/-- A code of a block-scaled element put in place. -/
def Enc.putCode (e : Enc) (rd : Nat → Nat) (pf : PageFmt) (i v : Nat) : Enc :=
  match pf with
  | .block f _ _ => if f.width = 4 then e.putNibble rd (pf.codeOffset i) i v else e.put (pf.codeOffset i) v
  | _ => e.putNibble rd (pf.codeOffset i) i v

/-- One block-scaled element rounded under σ, with its draw. -/
def Enc.encodeElem (e : Enc) (rd : Nat → Nat) (pf : PageFmt) (f : Fmt) (rm i : Nat) (v : XVal) : Enc :=
  let (m, g) := drawMode rm e.gen
  let (c, r) := f.encode m v
  ({ e with gen := g }.raise r).putCode rd pf i c

/-- The largest magnitude. -/
def amax (xs : List XVal) : XVal := xs.foldl (fun a x => a.larger x.abs) .zero

/-- R73 step 3: the least positive scale code not below a bound, and whether it was held at the largest. -/
def scaleFor (st : ScaleType) (elem : Fmt) (m : XVal) : Nat × Raised :=
  if m.isZero then (st.least, {})
  else
    let bound := m.div (elem.decode elem.maxCode)
    match (List.range (st.most + 1)).find? fun c => st.least ≤ c && bound.le (st.value c) with
    | some c => (c, {})
    | none => (st.most, .onlySat)

/-- R73: a covered block, its values in order. -/
def encodeBlock (rd : Nat → Nat) (pf : PageFmt) (elem : Fmt) (len : Nat) (st : ScaleType) (rm b : Nat) (ys : List XVal)
    (e : Enc) : Enc :=
  let at' := scaleOffset elem len b
  if ys.any XVal.special then
    let e := (e.put at' st.nanCode).raise .onlyNv
    (List.range len).foldl (fun e k => e.putCode rd pf (b * len + k) 0) e
  else
    let (c, r) := scaleFor st elem (amax ys)
    let e := (e.put at' c).raise r
    (ys.zip (List.range len)).foldl (fun e p => e.encodeElem rd pf elem rm (b * len + p.2) (p.1.div (st.value c))) e

/-- R82, R57, R84: one element of a partly covered block; a NaN or infinity that reaches it sets NV. One at or past ELEN takes code 0
under every scale, the one R84's table gives. -/
def encodePart (rd : Nat → Nat) (pf : PageFmt) (elem : Fmt) (len : Nat) (st : ScaleType) (rm i : Nat) (past : Bool) (y : XVal)
    (e : Enc) : Enc :=
  let σ := st.value (e.get rd (scaleOffset elem len (i / len)))
  match σ with
  | .nan => (e.raise .onlyNv).putCode rd pf i 0
  | .fin _ 0 _ =>
    let e := if y.special then e.raise .onlyNv else e
    let e := if y.isZero then e else e.raise .onlySat
    e.putCode rd pf i 0
  | _ =>
    if past then ({ e with gen := (drawMode rm e.gen).2 }).putCode rd pf i 0
    else (if y.special then e.raise .onlyNv else e).encodeElem rd pf elem rm i (y.div σ)

/-- R75: nq4_code of element i. Under a kept S that is NaN or infinite no level is nearest, and the code is a free value (log 96); an
infinite one has levels to compare with all the same. -/
def nq4Code (x S : XVal) (s i : Nat) : Nat × Raised :=
  if S.isZero ∨ s = 0 then (7, { sat := !x.isZero })
  else if S.special then ((Config.openCode s i).val, { sat := x.lt (nq4Value S 0 s) || (nq4Value S 15 s).lt x })
  else
    let dist (c : Nat) : XVal := (x.add (nq4Value S c s).neg).abs
    let better (a b : Nat) : Bool :=
      (dist b).lt (dist a) || ((dist b).eq (dist a) && decide ((nq4Level b).natAbs < (nq4Level a).natAbs))
    let c := (List.range 16).foldl (fun a b => if better a b then b else a) 0
    (c, { sat := x.lt (nq4Value S 0 s) || (nq4Value S 15 s).lt x })

/-- R75: the block scale of 64-element block b: min(255, ⌈256 × bmax / S⌉), with SAT where the min clamps. One below 0, under a kept
negative S, is written modulo 2^8 (R12). Under a kept S that is NaN there is no such number: s is then a free value (log 96). -/
def nq4Scale (bmax S : XVal) (b : Nat) : Nat × Raised :=
  match bmax.mul (.ofInt 256) |>.div S with
  | .fin neg n d =>
    let v := (n + d - 1) / d
    if neg then ((256 - n / d % 256) % 256, {})
    else if 255 < v then (255, .onlySat) else (v, {})
  | _ => ((Config.openScale b).val, {})

/-- R82, R84: one NQ4 element of value y against S and its block's scale: at or past ELEN the code of +0, 7, with its SAT, which a kept
negative S gives; code 7 too, with NV, for a NaN or infinite value. -/
def nq4Element (rd : Nat → Nat) (elen i : Nat) (S : XVal) (s : Nat) (y : XVal) (e : Enc) : Enc :=
  if elen ≠ 0 ∧ elen ≤ i then (e.raise (nq4Code (.fin false 0 1) S s i).2).putCode rd .nq4 i 7
  else if y.special then (e.raise .onlyNv).putCode rd .nq4 i 7
  else
    let (c, r) := nq4Code y S s i
    (e.raise r).putCode rd .nq4 i c

/-- R75: the elements of 64-element block b of superblock j encoded under S and the block's scale. -/
def nq4Elements (rd : Nat → Nat) (elen j b : Nat) (S : XVal) (s : Nat) (ys : List XVal) (e : Enc) : Enc :=
  (ys.zip (List.range 64)).foldl (fun e p => nq4Element rd elen (256 * j + 64 * b + p.2) S s p.1 e) e

/-- R75: a covered superblock. -/
def nq4Superblock (rd : Nat → Nat) (elen j : Nat) (ys : List XVal) (e : Enc) : Enc :=
  let putS (e : Enc) (v : Nat) : Enc := (List.range 4).foldl (fun e k => e.put (136 * j + k) (v / 256 ^ k)) e
  if ys.any XVal.special then
    let e := (putS e 0x7FC00000).raise .onlyNv
    let e := (List.range 4).foldl (fun e b => e.put (136 * j + 4 + b) 0) e
    (List.range 256).foldl (fun e k => e.putCode rd .nq4 (256 * j + k) 7) e
  else
    let (v, r) : Nat × Raised := match f32.encode .rpl ((amax ys).mul (.fin false 256 255)) with
      | (v, _) => if v = 0x7F800000 then (f32.maxCode, Raised.onlySat) else (v, {})
    let S := f32.decode v
    (List.range 4).foldl (fun e b =>
      let yb := (ys.drop (64 * b)).take 64
      let (s, r) : Nat × Raised := if S.isZero then (0, {}) else nq4Scale (amax yb) S (4 * j + b)
      nq4Elements rd elen j b S s yb ((e.put (136 * j + 4 + b) s).raise { r with sat := false })) ((putS e v).raise r)

/-- The superscale as the encoder has left it. -/
def nq4Super (rd : Nat → Nat) (j : Nat) (e : Enc) : XVal :=
  f32.decode ((List.range 4).map fun k => e.get rd (136 * j + k) * 256 ^ k).sum

/-- R75: a covered 64-element block of a superblock that is not covered: S is kept, the block scale is made anew. Where the block
holds a NaN or infinity it takes what the rule gives a superblock that does: s = 0, every code 7, and NV (log 96). -/
def nq4Block (rd : Nat → Nat) (elen j b : Nat) (ys : List XVal) (e : Enc) : Enc :=
  let S := nq4Super rd j e
  if ys.any XVal.special then
    (List.range 64).foldl (fun e k => e.putCode rd .nq4 (256 * j + 64 * b + k) 7) ((e.put (136 * j + 4 + b) 0).raise .onlyNv)
  else
    let (s, r) : Nat × Raised := if S.isZero then (0, {}) else nq4Scale (amax ys) S (4 * j + b)
    nq4Elements rd elen j b S s ys ((e.put (136 * j + 4 + b) s).raise r)

/-- R82: one NQ4 element of a partly covered block. -/
def nq4Part (rd : Nat → Nat) (elen i : Nat) (y : XVal) (e : Enc) : Enc :=
  nq4Element rd elen i (nq4Super rd (i / 256) e) (e.get rd (136 * (i / 256) + 4 + i / 64 % 4)) y e

/-- A point's code put in place. -/
def Enc.putPoint (e : Enc) (g p c : Nat) : Enc :=
  let o := PageFmt.l8.codeOffset (64 * g + 8 * p)
  (e.put o c).put (o + 1) (c / 256)

/-- R80: a covered group. -/
def l8Group (g : Nat) (ys : List XVal) (e : Enc) : Enc :=
  let (sc, cs, r) := l8EncodeGroup ys
  (cs.zip (List.range 8)).foldl (fun e p => e.putPoint g p.2 p.1) ((e.put (g / 16 * 272 + g % 16) sc).raise r)

/-- R82: a point of a partly covered group; `new` gives the written coordinates. -/
def l8PartPoint (rd : Nat → Nat) (g p : Nat) (new : List (Option XVal)) (e : Enc) : Enc :=
  let sb := e.get rd (g / 16 * 272 + g % 16)
  if sb = 255 then e.raise .onlyNv
  else
    let ex : Int := (sb : Int) - 127
    let o := PageFmt.l8.codeOffset (64 * g + 8 * p)
    let c := e.get rd o + 256 * e.get rd (o + 1)
    let old := (List.range 8).map fun k => if isPoint c then l8Coord c k ex else .zero
    let merged := (new.zip old).map fun q => match q.1 with
      | some y => if y.special then .zero else y
      | none => q.2
    let nv := new.any fun y => match y with | some y => y.special | none => false
    let (c', r) := l8Point merged ex
    let changed := (List.range 8).any fun k =>
      match (new[k]?).getD none with
      | some _ => false
      | none => !((l8Coord c' k ex).eq (if isPoint c then l8Coord c k ex else .nan))
    ((e.raise r).raise { nv := nv, pw := changed }).putPoint g p c'

/-- R84: the value an element of a store has: +0 at or past ELEN. -/
def padded (elen i : Nat) (y : XVal) : XVal := if elen ≠ 0 ∧ elen ≤ i then .zero else y

/-- R82: the store writes every element of [lo, lo + n) below ELEN. -/
def covers (elen : Nat) (ws : List (Nat × XVal)) (lo n : Nat) : Bool :=
  (span lo n).all fun i => (elen ≠ 0 && decide (elen ≤ i)) || ws.any (·.1 == i)

/-- The values of [lo, lo + n): what the store writes, +0 past ELEN. -/
def valuesAt (elen : Nat) (ws : List (Nat × XVal)) (lo n : Nat) : List XVal :=
  (span lo n).map fun i => padded elen i (((ws.find? (·.1 == i)).map (·.2)).getD .zero)

/-- The written elements of [lo, lo + n), ascending. -/
def writtenIn (elen : Nat) (ws : List (Nat × XVal)) (lo n : Nat) : List (Nat × XVal) :=
  (span lo n).filterMap fun i => (ws.find? (·.1 == i)).map fun p => (i, padded elen i p.2)

/-- The distinct units of size n that the written elements lie in, ascending as written. -/
def unitsOf (ws : List (Nat × XVal)) (n : Nat) : List Nat := (ws.map (·.1 / n)).eraseDups

/-- R73, R75, R80, R82, R84: one decoding store of the elements ws, by index, with values x / T formed exactly: whole blocks
by their own scales, the rest against the scales that stand. In mode `sr` every block-scaled code it writes draws, one at or past
ELEN too (DESIGN CHOICE, log 96: no rule says whether rounding +0 there draws). -/
def PageFmt.encode (pf : PageFmt) (T : XVal) (elen rm : Nat) (rd : Nat → Nat) (xs : List (Nat × XVal)) (gen : Dword) : Enc :=
  let ws := xs.map fun p => (p.1, p.2.div T)
  let e : Enc := ⟨[], {}, gen⟩
  match pf with
  | .raw => e
  | .block f len st =>
    (unitsOf ws len).foldl (fun e b =>
      if covers elen ws (b * len) len then encodeBlock rd pf f len st rm b (valuesAt elen ws (b * len) len) e
      else (writtenIn elen ws (b * len) len).foldl (fun e p =>
        encodePart rd pf f len st rm p.1 (decide (elen ≠ 0 ∧ elen ≤ p.1)) p.2 e) e) e
  | .nq4 =>
    (unitsOf ws 256).foldl (fun e j =>
      if covers elen ws (256 * j) 256 then nq4Superblock rd elen j (valuesAt elen ws (256 * j) 256) e
      else (List.range 4).foldl (fun e b =>
        let lo := 256 * j + 64 * b
        if (writtenIn elen ws lo 64).isEmpty then e
        else if covers elen ws lo 64 then nq4Block rd elen j b (valuesAt elen ws lo 64) e
        else (writtenIn elen ws lo 64).foldl (fun e p => nq4Part rd elen p.1 p.2 e) e) e) e
  | .l8 =>
    (unitsOf ws 64).foldl (fun e g =>
      if covers elen ws (64 * g) 64 then l8Group g (valuesAt elen ws (64 * g) 64) e
      else (List.range 8).foldl (fun e p =>
        let lo := 64 * g + 8 * p
        if (writtenIn elen ws lo 8).isEmpty then e
        else l8PartPoint rd g p ((span lo 8).map fun i =>
          if elen ≠ 0 ∧ elen ≤ i then some .zero else (ws.find? (·.1 == i)).map (·.2)) e) e) e

end Sys2Proof.Machine
end

