-- ==== Sys2Proof/Machine/Ways.lean ====
section
/-! DEFINITION. Where lines reside in the last-level cache (R42, R244, R275, R423). Residence is never visible in a value read. -/

namespace Sys2Proof.Machine

/-- R5, R20, R25, R441: the partition RCB's resolved adapter-cache share, in MiB. -/
def State.partShare (s : State) (p : Nat) : Nat :=
  let acs (node : Dword) : Nat := bits (readDword s.coherentByte (node.toNat + 0x40)) 25 15
  let root := if acs s.mgmt.root = 2047 then 1024 else acs s.mgmt.root
  min 1024 (if acs (s.part p).prcb = 2047 then root else min (acs (s.part p).prcb) root)

/-- The set ways of a field, lowest first. -/
def waysOf (v : Nat) : List Nat := (List.range 16).filter v.testBit

/-- R423: a partition's adapter ways. -/
def State.adapterWays (s : State) (p : Nat) : List Nat :=
  (waysOf (bits (s.part p).waymask 31 16)).take ((s.partShare p + 127) / 128)

/-- R275: a virtual address lies on a page of one of the partition's factor pools. -/
def State.inPool (s : State) (p va : Nat) : Bool :=
  let d := (s.part p).adesc
  d ≠ 0 && [0x18, 0x20].any fun o => match deviceDword s p (d.toNat + o) with
    | .ok v => bits v 63 16 * 65536 ≤ va && va < (bits v 63 16 + bits v 15 0 + 1) * 65536
    | .error _ => false

/-- The virtual address of a physical one, by the leaves an access used; 0 where none maps it. -/
def virtualOf (ls : List Leaf) (a : Nat) : Nat :=
  ((ls.find? fun l => l.frame ≤ a && a < l.frame + l.size).map fun l => l.page + (a - l.frame)).getD 0

/-- R423: what a fill is placed by: its partition, its launch's resolved WAYS (R20), its policy, whether it is of a pool line, and
whether it enters at the lowest replacement rank. -/
structure Placing where
  part : Nat
  ways : Nat
  policy : CachePolicy
  pool : Bool
  low : Bool
  deriving DecidableEq, Repr

/-- R423: a fill of the policy keep-in-LLC that has ways of its own. -/
def State.keeps (s : State) (f : Placing) : Bool :=
  f.policy == .keep && f.ways != 0 && bits (s.part f.part).waymask 15 0 != 0 && !(f.pool && s.adapterWays f.part != [])

/-- R423: the ways a fill may use. Shared ways are those no partition names; no fill uses a way that a reclaim still holds
(R424). -/
def State.fillWays (s : State) (f : Placing) : List Nat :=
  let settled (w : Nat) : Bool := s.parts.toList.all fun r => (match r.reclaim with | some c => !c.changed.getLsbD w | none => true)
  let adapter := (s.adapterWays f.part).filter settled
  let own := waysOf (bits (s.part f.part).waymask 15 0)
  if f.pool ∧ adapter ≠ [] then adapter
  else if own = [] then
    (List.range 16).filter fun w => settled w && s.parts.toList.all fun r =>
      !(bits r.waymask 15 0).testBit w && !(bits r.waymask 31 16).testBit w
  else (if s.keeps f then own.take f.ways else own).filter fun w => settled w && !(s.adapterWays f.part).contains w

/-- R42, R275: a line found, or brought in, by a fill that may use the given ways; `same` says which lines compete with it for
them. A way with no such line is taken, else that of the least recently used which may go; none where every one must stay. -/
def placeLine (same held : Nat → Bool) (ways : List Nat) (keep low : Bool) (line : Nat) (ls : List LlcLine) : List LlcLine :=
  match ls.find? (·.line == line) with
  | some l => if low then ls else l :: ls.filter (·.line != line)
  | none =>
    let rivals := ls.filter fun l => ways.contains l.way && same l.line
    let add (w : Nat) (ls : List LlcLine) : List LlcLine := if low then ls ++ [⟨line, w, keep⟩] else ⟨line, w, keep⟩ :: ls
    match ways.find? fun w => !(rivals.any (·.way == w)) with
    | some w => add w ls
    | none => match (rivals.reverse).find? fun l => !held l.line && (keep || !l.keep) with
      | some l => add l.way (ls.filter (·.line != l.line))
      | none => ls

/-- R2: two lines share a set of one home slice. -/
def State.sameSet (s : State) (l m : Nat) : Bool :=
  m == l || (s.sliceOf (m / 4) == s.sliceOf (l / 4) && Config.llcSet m == Config.llcSet l)

/-- R42, R244, R423: a line an access reads or writes brought into its home slice, if it is absent: of the lines of its
set in its home slice (R2, log 34) the least recently used goes; a pinned line stays (R254). No line of the register region is held
(R417); of a host's memory both halves have their entries (R397). -/
def State.bringIn (s : State) (f : Placing) (line : Nat) : State :=
  if inFrames line then s
  else { s with fab := { (s.fab.keepEntry (line / 64)).keepEntry (line / 64 + 1) with
    llc := placeLine (s.sameSet line) (fun l => s.pins l != 0) (s.fillWays f)
      (s.keeps f) f.low line s.fab.llc } }

/-- R42, R275: how an access of a partition's launch places lines: stream at the lowest rank, but for a pool line in the adapter ways; a
pool line under no-LLC is as another line. -/
def State.placing (s : State) (part launch : Nat) (pol : CachePolicy) (pool : Bool) : Placing :=
  ⟨part, ((s.launch launch).map (·.res.ways)).getD 0, pol, pool && pol != .noLlc,
    pol == .noLlc || (pol == .stream && !(pool && s.adapterWays part != []))⟩

/-- R42: the lines of an access of a partition's launch brought in; no-LLC bypasses the last-level cache. -/
def State.touchFor (s : State) (part launch : Nat) (pol : CachePolicy) (pool : Nat → Bool) (lines : List Nat) : State :=
  if pol = .noLlc then s else lines.foldl (fun s l => s.bringIn (s.placing part launch pol (pool l)) l) s

/-- R42: the lines of an access of a launch brought in. -/
def State.touchLines (s : State) (launch : Nat) (pol : CachePolicy) (pool : Nat → Bool) (lines : List Nat) : State :=
  s.touchFor (s.partOf launch) launch pol pool lines

/-- R275: the pool lines among physical ones, by the leaves that map them. -/
def State.poolLine (s : State) (part : Nat) (ls : List Leaf) (line : Nat) : Bool := s.inPool part (virtualOf ls line)

/-- R275: the pool lines of an access. -/
def State.poolLines (s : State) (part : Nat) (ls : List Leaf) (as : List Nat) : List Nat :=
  if (s.part part).adesc = 0 then [] else (linesOf as).filter (s.poolLine part ls)

end Sys2Proof.Machine
end

