-- ==== Sys2Proof/Machine/LoadStore.lean ====
section
/-! DEFINITION. The load and store queues: what a memory instruction waits for, how a load sends and a store enters its
queue, marks, acquires and releases (R139 to R156), and the plain instructions of majors 0x24 to 0x29. -/

namespace Sys2Proof.Machine

/-- The wider of two scopes (R17). -/
def Scope.code : Scope → Nat
  | .c => 0 | .k => 1 | .d => 2 | .p => 3 | .s => 4

/-- R156: the scope codes; reserved ones are refused before this. -/
def Scope.ofCode : Nat → Scope
  | 0 => .c | 1 => .k | 2 => .d | 3 => .p | _ => .s

def Scope.wider (a b : Scope) : Scope := if a.code ≤ b.code then b else a

/-- R335: an arrival of the context is on its way. -/
def State.arriving (s : State) (ctx : Nat) : Bool :=
  s.inflight.any fun m => match m with
    | .arrive _ _ _ (.instr _ _ c) => c = ctx
    | _ => false

/-- R335, R140: an arrival of the context at the barrier object of one of some sync addresses is on its way: the store of its `barrive`,
which its younger accesses of those bytes do not pass. -/
def State.arrivingAt (s : State) (ctx : Nat) (as : List Nat) : Bool :=
  s.inflight.any fun m => match m with
    | .arrive a _ _ (.instr _ _ c) => c == ctx && as.any fun x => x / 32 == a / 32
    | _ => false

/-- R48: the engines whose scope is wider than the core. -/
def wideEngine (eng : Nat) : Bool := 2 ≤ eng

/-- R47: a command was sent before another, by the same context. -/
def Cmd.before (o k : Cmd) : Bool := o.iss.ctx == k.iss.ctx && o.iss.host == k.iss.host && decide (o.order < k.order)

/-- R48: a command has reached its engine: every older store, atomic, arrival and span of its thread is performed at the engine's
scope; every older command has reached its own, and one to `tf` has run all of its words (R253). -/
def State.reached (s : State) (k : Cmd) : Bool :=
  let mine (c : Option Context) : Bool := match c with
    | some c => c.ctxid.toNat = k.iss.ctx && c.lq.any fun e => e.kind.stores && !e.back && e.serial < k.after
    | none => false
  k.running ||
  (!((s.core.sq0 ++ s.core.sq1).any fun e => e.ctx = k.iss.ctx && e.serial < k.after) && !mine s.core.slot0 && !mine s.core.slot1 &&
    !s.arriving k.iss.ctx && !(s.sync.pend.any fun p => p.iss.ctx = k.iss.ctx && p.serial < k.after) &&
    !(s.eng.cmds.any fun o => o.before k && (!o.running || o.eng == 1)) &&
    (!wideEngine k.eng || s.storesAt k.iss.ctx .p))

/-- R338: a span the context has sent has not been applied: instructions that act as a mark wait. -/
def State.spansPending (s : State) (c : Context) : Bool := s.sync.pend.any fun p => p.iss.ctx = c.ctxid.toNat

/-- R48, R335, R338: stores of the context that are no longer in its store queue and not yet performed: commands that have
not reached their engines, arrivals on their way, ring spans waiting for their turn. -/
def State.sending (s : State) (c : Context) : Bool :=
  (s.eng.cmds.any fun k => k.iss.ctx = c.ctxid.toNat && !s.reached k) ||
  s.spansPending c || s.arriving c.ctxid.toNat

/-- R331: atomics and reservations of the context not yet performed. -/
def Context.atomics (c : Context) : Nat := (c.lq.filter fun e => e.kind.stores && !e.back).length

/-- R141: every load the context has sent has returned. -/
def Context.loadsBack (c : Context) : Bool := c.lq.all (·.back)

/-- R145, R392: every older store of the context is performed at the scope. -/
def State.storesPerformed (s : State) (slot : Bool) (c : Context) (sc : Scope) : Bool :=
  ((s.sq slot).all (·.bytes.isEmpty)) && c.atomics == 0 && !s.sending c && s.storesAt c.ctxid.toNat sc

/-- R145: a mark's condition for a younger load, and for a younger store. -/
def State.loadMayGo (s : State) (slot : Bool) (c : Context) : Bool :=
  match c.mark with
  | none => true
  | some sc => s.storesPerformed slot c sc

def State.storeMayGo (s : State) (slot : Bool) (c : Context) : Bool :=
  match c.mark with
  | none => true
  | some sc => s.storesPerformed slot c sc && c.loadsBack

/-- R139: the entries of the store queue held: those of stores, marks and atomics. -/
def State.storesHeld (s : State) (slot : Bool) (c : Context) : Nat := (s.sq slot).length + c.atomics

/-- R139: entries leave the load queue in program order, once they have returned. -/
def settled (q : List LoadEntry) : List LoadEntry := q.dropWhile (·.back)

/-- R139: a load takes the last entry of its queue. -/
def Context.pushLoad (c : Context) (e : LoadEntry) : Context := { c with lq := settled (c.lq ++ [e]), serial := c.serial + 1 }

/-- R139: an entry that only holds its place: a mark, or a load that bound when it issued. -/
def LoadEntry.held (serial : Nat) : LoadEntry := ⟨serial, .scratch, .normal, [], 0, .unsigned, zeroCode, true⟩

/-- R139, R145: the marks at the head of a store queue leave it. -/
def ripe (q : List StoreEntry) : List StoreEntry := q.dropWhile (·.bytes.isEmpty)

/-- R152: bytes that lie in ranges a copy writes (a load waits), or touches (a store waits). -/
def inRanges (rs : List Range) (store : Bool) (addrs : List Nat) : Bool :=
  rs.any fun r => (r.dest || store) && addrs.any fun a => r.lo ≤ a && a < r.hi

/-- R152: scratchpad bytes of copies in flight. -/
def State.rangeBusy (s : State) (store : Bool) (addrs : List Nat) : Bool := inRanges s.eng.ranges store addrs

/-- R351: scratchpad bytes that a command the context has sent will take, once its words have run (log 40). -/
def State.copyQueued (s : State) (c : Context) (store : Bool) (addrs : List Nat) : Bool :=
  s.eng.cmds.any fun k => k.iss.ctx = c.ctxid.toNat && inRanges k.spans store addrs

/-- R139, R145, R152: a load that may issue now. -/
def State.loadReady (s : State) (slot : Bool) (c : Context) (sp : Space) (addrs : List Nat) : Bool :=
  s.loadMayGo slot c && decide (c.lq.length < Config.queueDepth) &&
  !(sp = .scratch && (s.rangeBusy false addrs || s.copyQueued c false addrs))

/-- R139, R145, R152: a store that may issue now. -/
def State.storeReady (s : State) (slot : Bool) (c : Context) (sp : Space) (addrs : List Nat) : Bool :=
  s.storeMayGo slot c && decide (s.storesHeld slot c < Config.queueDepth) &&
  !(sp = .scratch && (s.rangeBusy true addrs || s.copyQueued c true addrs))

/-- R405, R417: what a plain or acquiring dword load of a context of a partition reads of the register region; none: the address
lies outside. Any other access reads 0. -/
def State.frameLoad (s : State) (part a size : Nat) : Option Dword :=
  if !inFrames a then none
  else
    let p := (a - Config.frameBase) / Config.frameBytes
    let o := (a - Config.frameBase) % Config.frameBytes
    some (if p ≠ part ∨ size ≠ 8 then 0 else if o = 0x808 then (s.part p).sdarr else if o = 0x810 then (s.part p).sddone else 0)

/-- How a load reads a word of its core's coherent data cache (R144, R392). -/
inductive Look where
  /-- The core's own value of R, P or W, and a copy in V, which may be stale. -/
  | copy
  /-- The core's own value of R, P or W; else the newest. -/
  | own
  /-- The newest value, under the core's own stores on their way to the home. -/
  | newest
  deriving DecidableEq, Repr

/-- R396: a stream load reads at the home, and so does one that looks for the newest value of a word. -/
def atHome (pol : CachePolicy) (look : Nat → Look) (a : Nat) : Bool := pol == .stream || decide (look (a / 4) = .newest)

/-- R144, R392, R396: the byte a load obtains from beyond the thread. Scratchpad and sync bytes are always the newest. -/
def State.loadByte (s : State) (sp : Space) (pol : CachePolicy) (look : Nat → Look) (a : Nat) : Byte :=
  match sp with
  | .scratch => cellGet s.core.scratch a
  | .sync => cellGet s.sync.sram a
  | .global | .code =>
    if inFrames a then 0
    else if atHome pol look a then s.byteUnder none a
    else match s.fab.copy (a / 4) with
      | none => s.coherentByte a
      | some k =>
        if k.st = .v ∧ look (a / 4) = .own then s.coherentByte a else byteOf (k.own (s.fab.home (a / 4))) a

/-- R392: a load of the byte finds it in the core's coherent data cache. -/
def State.hits (s : State) (pol : CachePolicy) (look : Nat → Look) (a : Nat) : Bool :=
  match s.fab.copy (a / 4) with
  | none => false
  | some k => match k.st with
    | .v => !atHome pol look a && decide (look (a / 4) = .copy)
    | .p => k.stored a || (!atHome pol look a && k.known.isSome)
    | .r | .w => true

/-- R150, R320, R408: what a load's data arrive from, for the bytes that no store queue forwards and no cache holds: a marked
line, a lost line, or a spoiled sync block. -/
def State.loadMeets (s : State) (sp : Space) (pol : CachePolicy) (look : Nat → Look) (as : List Nat) : Option Cause :=
  match sp with
  | .scratch => none
  | .sync => if s.sync.spoiled.any fun d => as.any fun a => d / 32 = a / 32 then some .poison else none
  | .global | .code => (as.filter fun a => !inFrames a && !s.hits pol look a).findSome? s.meets

/-- R392: the fills a load makes of the bytes it does not find; a stream load makes none (R396). -/
def State.loadFills (s : State) (sp : Space) (pol : CachePolicy) (as : List Nat) : State :=
  if sp.memory ≠ .global ∨ as.isEmpty ∨ pol = .stream then s
  else ((linesOf as).filter (!inFrames ·)).foldl (fun s l => s.fillLine l) s

/-- R144 item 1: the bytes that no older store of the thread's queue forwards. -/
def State.unforwarded (s : State) (slot : Bool) (serial : Nat) (sp : Space) (as : List Nat) : List Nat :=
  as.filter fun a => (s.forward slot sp.memory serial a).isNone

/-- R144 item 2: a load of the byte needs what homes have sent: it reads at the home, or a word of whose value only an acknowledgement on
its way tells. -/
def State.needsHome (s : State) (pol : CachePolicy) (look : Nat → Look) (a : Nat) : Bool :=
  atHome pol look a || (s.fab.copy (a / 4)).any CacheWord.unheard

/-- R53: a load that obtains new data of a transfer, from beyond the copies that may be stale, leaves no older copy of the same transfer's
earlier lines. -/
def State.meetNew (s : State) (pol : CachePolicy) (look : Nat → Look) (rest : List Nat) : State :=
  let stale (a : Nat) : Bool := s.hits pol look a && (s.fab.copy (a / 4)).any (·.st == .v)
  s.meetTransfers ((linesOf (rest.filter fun a => !stale a)).filter (!inFrames ·))

/-- The state a load reads in: of what it reads at the home, what homes have sent has reached the core, and no older copy stays
(R144 item 2, R53). -/
def State.looked (s : State) (sp : Space) (pol : CachePolicy) (look : Nat → Look) (rest : List Nat) : State :=
  if sp.memory ≠ .global then s
  else (if rest.any (s.needsHome pol look) then s.freshen (rest.filter (s.needsHome pol look)) else s).meetNew pol look rest

/-- A load's bytes bound now, for the thread of a slot, with what it meets and the state its fills leave. `pool` says which lines
are a pool's (R275). -/
def bindLoad (s : State) (slot : Bool) (serial : Nat) (sp : Space) (pol : CachePolicy) (look : Nat → Look)
    (pool : Nat → Bool) (as : List Nat) : List Byte × Option Cause × State :=
  let rest := s.unforwarded slot serial sp as
  let s := s.looked sp pol look rest
  let fills := rest.filter fun a => !s.hits pol look a
  let s' := s.loadFills sp pol fills
  (as.map fun a => (s.forward slot sp.memory serial a).getD (s.loadByte sp pol look a), s.loadMeets sp pol look rest,
    if sp.memory = .global then
      s'.touchLines (((s.ctx slot).map (·.launch)).getD 0) pol pool ((linesOf fills).filter (!inFrames ·)) else s')

/-- R70: a load that binds when it issues reads each sector at one time: as the copies of one fill, where every word it needs there
is in V and a free value says so (log 6), else as the newest. -/
def State.sectorLook (s : State) (as : List Nat) (w : Nat) : Look :=
  let copied (a : Nat) : Bool := a / 32 != w / 8 || (s.fab.copy (a / 4)).any (·.st == .v)
  if as.all copied && Config.useCopy s.core.now (w / 8) then .copy else .newest

/-- R144 items 1 and 2: an older load of one of some bytes has not returned. -/
def Context.overlaps (c : Context) (sp : Space) (as : List Nat) : Bool :=
  c.lq.any fun e => !e.back && e.space.memory = sp.memory && e.addrs.any as.contains

/-- R53: an older load of memory above one of some bytes has not returned, and may yet return new data of a transfer. -/
def Context.crosses (c : Context) (as : List Nat) : Bool :=
  c.lq.any fun e => !e.back && e.space.memory = .global && e.addrs.any fun x => as.any (· < x)

/-- What a load that binds as it issues waits for: an older load of one of its bytes; in memory, an older load of bytes above, and
the scrub of a line (R414); in sync space, the arrival of an older `barrive` there (R144 item 1, R335). -/
def State.loadWaits (s : State) (c : Context) (sp : Space) (as : List Nat) : Bool :=
  c.overlaps sp as || (sp.memory == .global && (c.crosses as || s.awaitsScrub as)) ||
  (sp == .sync && s.arrivingAt c.ctxid.toNat as)

/-- R53: a load of one of some sectors has returned while an older load of its thread, of memory above it, has not. -/
def returnedBelow (as : List Nat) : List LoadEntry → Bool
  | [] => false
  | e :: r => (!e.back && e.space.memory = .global && r.any fun y => y.back && y.space.memory = .global &&
      y.addrs.any fun a => as.any (· / 32 = a / 32) && e.addrs.any (a < ·)) || returnedBelow as r

/-- R53: a transfer to some bytes waits for such loads: their older ones would return its data after theirs had returned older. -/
def State.transferWaits (s : State) (as : List Nat) : Bool :=
  (s.core.slot0.any fun c => returnedBelow as c.lq) || (s.core.slot1.any fun c => returnedBelow as c.lq)

/-- R155: the value a load's bytes make. -/
def LoadKind.value (k : LoadKind) (bs : List Byte) : Dword :=
  let v := leNat bs
  match k with
  | .signed => .ofInt 64 (readInt true (8 * bs.length) v)
  | _ => .ofNat 64 v

/-- R146: a mark a context has issued and whose conditions later accesses await. -/
def Context.addMark (c : Context) (sc : Scope) : Context :=
  { c with mark := some (match c.mark with | some m => m.wider sc | none => sc) }

/-- A mark whose conditions hold for loads and stores is spent. -/
def State.spendMark (s : State) (slot : Bool) (c : Context) : Context :=
  if s.storeMayGo slot c then { c with mark := none } else c

/-- The offset of a Memory-format operand (R148). -/
def memoryOffset (c : Context) (a : Code) (i : BitVec 8) (size : Nat) : Dword := c.read a + .ofNat 64 (i.toNat * size)

/-- The handle index of a slot. -/
def Context.slotIndex (c : Context) (n : Nat) : Nat := ((c.h[n]?).getD 0).toNat

/-- R149: the checks of a plain access of the current context. -/
def checkHere (s : State) (c : Context) (n : Nat) (off : Dword) (size : Nat) (need : Need) : Check Mapped :=
  checkPlain s (s.threadByte s.core.active) (s.access c.launch) n (c.slotIndex n) off size need

/-- R139: a plain load is sent; its value is bound when it returns (R141). -/
def sendLoad (n : Nat) (off : Context → Dword) (size : Nat) (kind : LoadKind) (d : Code) (s : State) (c : Context) : Res :=
  (checkHere s c n (off c) size .read).orTrap fun m =>
    if !s.loadReady s.core.active c m.handle.space m.addrs then .wait c
    else
      let c := s.spendMark s.core.active c
      let e : LoadEntry := ⟨c.serial, m.handle.space, m.handle.policy, m.addrs, m.handle.va (off c), kind, d, false⟩
      .done (s.holdLeaves (s.partOf c.launch) m.leaves) (c.pushLoad e)

/-- A store entry of the current context: of a `tst`, of a register, or of neither. -/
def Context.entry (c : Context) (sp : Space) (pol : CachePolicy) (bytes : List (Nat × Byte)) (tile : Option Nat)
    (plain : Bool) (pool : List Nat) : StoreEntry :=
  ⟨c.serial, sp, pol, bytes, ⟨c.launch, c.walk, c.taskNo.toNat, c.ctxid.toNat⟩, tile, plain, pool⟩

/-- R139, R140: a store whose checks have passed enters its queue: a `tst`'s, else one of a register. -/
def enqueueStore (s : State) (c : Context) (m : Mapped) (bytes : List (Nat × Byte)) (tile : Option Nat) : Res :=
  let slot := s.core.active
  if !s.storeReady slot c m.handle.space m.addrs then .wait c
  else
    let c := s.spendMark slot c
    let e := c.entry m.handle.space.memory m.handle.policy bytes tile tile.isNone (s.poolLines (s.partOf c.launch) m.leaves m.addrs)
    .done ((s.setSq slot (ripe (s.sq slot ++ [e]))).holdLeaves (s.partOf c.launch) m.leaves) { c with serial := c.serial + 1 }

/-- R155: a plain store of the low bytes of d. -/
def sendStore (n : Nat) (off : Context → Dword) (size : Nat) (d : Code) (s : State) (c : Context) : Res :=
  (checkHere s c n (off c) size .write).orTrap fun m =>
    enqueueStore s c m (m.addrs.zip (leBytes size (c.read d).toNat)) none

/-- R150: a value written by a load that has returned: 0 and an asynchronous entry where the data met a marker. -/
def State.afterLoad (s : State) (slot : Bool) (met : Option Cause) (va : Dword) : State :=
  match met with
  | some cause => s.asyncFault slot cause va
  | none => s

/-- The access's markers met, as an answer lists them. -/
def metAt (met : Option Cause) (va : Dword) : List (Cause × Dword) := met.toList.map (·, va)

/-- R146: an acquiring load: the newest value, then every word not registered to the core dropped beyond `.c`, then a mark. -/
def acquireLoad (n : Nat) (off : Context → Dword) (size : Nat) (d : Code) (sc : Scope) (s : State) (c : Context) : Res :=
  (checkHere s c n (off c) size .read).orTrap fun m =>
    let slot := s.core.active
    let sp := m.handle.space
    let part := s.partOf c.launch
    if !s.loadReady slot c sp m.addrs ∨ s.loadWaits c sp m.addrs ∨ s.spansPending c then .wait c
    else
      let c := s.spendMark slot c
      let s := s.receiveAll fun _ => true
      let (bs, met, s') := bindLoad s slot c.serial sp m.handle.policy (fun _ => .newest) (s.poolLine part m.leaves) m.addrs
      let v := if met.isSome then 0
        else ((if sp = .global then s.frameLoad part (m.addrs.headD 0) size else none).getD (LoadKind.unsigned.value bs))
      let s' := s'.holdLeaves part m.leaves
      let s' := if sc = .c then s' else s'.acquire
      .bound s' (((c.write d v).pushLoad (.held c.serial)).addMark sc) (metAt met (m.handle.va (off c)))

/-- R146: a releasing store: `mark.s`, then the store. -/
def releaseStore (n : Nat) (off : Context → Dword) (size : Nat) (d : Code) (sc : Scope) (s : State) (c : Context) : Res :=
  (checkHere s c n (off c) size .write).orTrap fun m =>
    if !s.storeMayGo s.core.active (c.addMark sc) then .wait c
    else enqueueStore s { c with mark := none } m (m.addrs.zip (leBytes size (c.read d).toNat)) none

/-- R154 `ldI64`, Memory format. -/
def execLdI64 (st : BitVec 2) (d a : Code) (h : BitVec 4) (i : BitVec 8) (s : State) : Answer :=
  issue (.ldI64 st d a h i) anyLevel (sendLoad h.toNat (fun c => memoryOffset c a i 8) 8 .unsigned d) s

/-- R154 `ldI32`, Memory format. -/
def execLdI32 (st : BitVec 2) (d a : Code) (h : BitVec 4) (i : BitVec 8) (s : State) : Answer :=
  issue (.ldI32 st d a h i) anyLevel (sendLoad h.toNat (fun c => memoryOffset c a i 4) 4 .signed d) s

/-- R154 `stI64`, Memory format. -/
def execStI64 (st : BitVec 2) (d a : Code) (h : BitVec 4) (i : BitVec 8) (s : State) : Answer :=
  issue (.stI64 st d a h i) anyLevel (sendStore h.toNat (fun c => memoryOffset c a i 8) 8 d) s

/-- R154 `stI32`, Memory format. -/
def execStI32 (st : BitVec 2) (d a : Code) (h : BitVec 4) (i : BitVec 8) (s : State) : Answer :=
  issue (.stI32 st d a h i) anyLevel (sendStore h.toNat (fun c => memoryOffset c a i 4) 4 d) s

/-- R155 `ldI8`. -/
def execLdI8 (st : BitVec 2) (d n b : Code) (s : State) : Answer :=
  issue (.ldI8 st d n b) anyLevel (sendLoad n.toNat (fun c => c.read b) 1 .signed d) s

/-- R155 `ldN8`. -/
def execLdN8 (st : BitVec 2) (d n b : Code) (s : State) : Answer :=
  issue (.ldN8 st d n b) anyLevel (sendLoad n.toNat (fun c => c.read b) 1 .unsigned d) s

/-- R155 `ldI16`. -/
def execLdI16 (st : BitVec 2) (d n b : Code) (s : State) : Answer :=
  issue (.ldI16 st d n b) anyLevel (sendLoad n.toNat (fun c => c.read b) 2 .signed d) s

/-- R155 `ldN16`. -/
def execLdN16 (st : BitVec 2) (d n b : Code) (s : State) : Answer :=
  issue (.ldN16 st d n b) anyLevel (sendLoad n.toNat (fun c => c.read b) 2 .unsigned d) s

/-- R155 `ldI32Reg`. -/
def execLdI32Reg (st : BitVec 2) (d n b : Code) (s : State) : Answer :=
  issue (.ldI32Reg st d n b) anyLevel (sendLoad n.toNat (fun c => c.read b) 4 .signed d) s

/-- R155 `ldN32`. -/
def execLdN32 (st : BitVec 2) (d n b : Code) (s : State) : Answer :=
  issue (.ldN32 st d n b) anyLevel (sendLoad n.toNat (fun c => c.read b) 4 .unsigned d) s

/-- R155 `ldI64Reg`. -/
def execLdI64Reg (st : BitVec 2) (d n b : Code) (s : State) : Answer :=
  issue (.ldI64Reg st d n b) anyLevel (sendLoad n.toNat (fun c => c.read b) 8 .unsigned d) s

/-- R155 `stI8`. -/
def execStI8 (st : BitVec 2) (d n b : Code) (s : State) : Answer :=
  issue (.stI8 st d n b) anyLevel (sendStore n.toNat (fun c => c.read b) 1 d) s

/-- R155 `stI16`. -/
def execStI16 (st : BitVec 2) (d n b : Code) (s : State) : Answer :=
  issue (.stI16 st d n b) anyLevel (sendStore n.toNat (fun c => c.read b) 2 d) s

/-- R155 `stI32Reg`. -/
def execStI32Reg (st : BitVec 2) (d n b : Code) (s : State) : Answer :=
  issue (.stI32Reg st d n b) anyLevel (sendStore n.toNat (fun c => c.read b) 4 d) s

/-- R155 `stI64Reg`. -/
def execStI64Reg (st : BitVec 2) (d n b : Code) (s : State) : Answer :=
  issue (.stI64Reg st d n b) anyLevel (sendStore n.toNat (fun c => c.read b) 8 d) s

/-- R156, R146 `ldAcqN32`. -/
def execLdAcqN32 (st : BitVec 2) (d n b : Code) (c : BitVec 3) (s : State) : Answer :=
  issue (.ldAcqN32 st d n b c) anyLevel (acquireLoad n.toNat (fun c => c.read b) 4 d (.ofCode c.toNat)) s

/-- R156, R146 `ldAcqI64`. -/
def execLdAcqI64 (st : BitVec 2) (d n b : Code) (c : BitVec 3) (s : State) : Answer :=
  issue (.ldAcqI64 st d n b c) anyLevel (acquireLoad n.toNat (fun c => c.read b) 8 d (.ofCode c.toNat)) s

/-- R156, R146 `stRelI32`. -/
def execStRelI32 (st : BitVec 2) (d n b : Code) (c : BitVec 3) (s : State) : Answer :=
  issue (.stRelI32 st d n b c) anyLevel (releaseStore n.toNat (fun c => c.read b) 4 d (.ofCode c.toNat)) s

/-- R156, R146 `stRelI64`. -/
def execStRelI64 (st : BitVec 2) (d n b : Code) (c : BitVec 3) (s : State) : Answer :=
  issue (.stRelI64 st d n b c) anyLevel (releaseStore n.toNat (fun c => c.read b) 8 d (.ofCode c.toNat)) s

/-- R139, R145: a mark takes an entry of each queue, which leaves it in program order. -/
def placeMark (sc : Scope) (s : State) (c : Context) : Res :=
  let slot := s.core.active
  if Config.queueDepth ≤ c.lq.length ∨ Config.queueDepth ≤ s.storesHeld slot c ∨ s.spansPending c then .wait c
  else .done (s.setSq slot (ripe (s.sq slot ++ [c.entry .scratch .normal [] none false []]))) ((c.pushLoad (.held c.serial)).addMark sc)

/-- R156, R145 `mark`. -/
def execMark (st : BitVec 2) (c : BitVec 3) (s : State) : Answer :=
  issue (.mark st c) anyLevel (placeMark (.ofCode c.toNat)) s

/-- R156 `pf.dc`: a hint that changes no visible state. -/
def execPfDc (st : BitVec 2) (n b : Code) (s : State) : Answer := issue (.pfDc st n b) anyLevel (fun s c => .done s c) s

/-- R156 `pf.llc`. -/
def execPfLlc (st : BitVec 2) (n b : Code) (s : State) : Answer := issue (.pfLlc st n b) anyLevel (fun s c => .done s c) s

end Sys2Proof.Machine
end

