-- ==== Sys2Proof/Machine/Decoding.lean ====
section
/-! DEFINITION. Decoding loads and stores and tile-register loads and stores: R157 to R160, with the checks of R443. -/

namespace Sys2Proof.Machine

/-- A stored-format access whose checks have passed: the handle, the page format, the tensor scale, the address of each
byte offset, and the leaves used. -/
structure Elems where
  handle : Handle
  fmt : PageFmt
  scale : XVal
  addrs : List (Nat × Nat)
  leaves : List Leaf
  deriving DecidableEq, Repr

/-- R69, R443 step 5: what the format of BASE's page refuses. -/
def formatFault (h : Handle) (ty : Stored) (store : Bool) (code : Nat) : Option PageFmt :=
  match PageFmt.ofCode code with
  | none => none
  | some pf =>
    if !ty.fits pf ∨ h.tstype = 3 then none
    else if store then
      match tensorScale h.tstype h.tscale with
      | .fin _ n _ => if n = 0 then none else some pf
      | _ => none
    else some pf

/-- R443 steps 3 to 8, after the handle has been read: `touch` gives the byte offsets of the elements under the format. The offset that
a BOUND of step 6 puts in EVAL, which no rule gives, is the byte offset of the first code or scale byte that fails (DESIGN CHOICE,
log 91). -/
def checkElems (s : State) (rd : Nat → Byte) (ac : Access) (h : Handle) (slot : Nat) (off : Dword) (ty : Stored)
    (store vector : Bool) (touch : PageFmt → List Nat) : Check Elems := do
  let need : Need := if store then .write else .read
  match h.space with
  | .code => failed (if store then .wperm else .rperm) (h.va off)
  | .scratch => failed .fmtbad (h.va off)
  | .sync => failed (if vector then .align else .fmtbad) (h.va off)
  | .global =>
    let leaf ← mapOne s rd ac.part need h.base
    match formatFault h ty store leaf.fmt with
    | none => failed .fmtbad (.ofNat 64 leaf.page)
    | some pf =>
      let offs := (touch pf).eraseDups
      match offs.find? fun o => h.bound < o + 1 with
      | some o => failed .bound (boundValue slot (.ofNat 64 o))
      | none =>
        let (as, ls) ← mapBytes s rd ac.part need (offs.map (h.base + ·))
        match ls.find? fun l => l.fmt ≠ leaf.fmt with
        | some l => failed .fmtbad (.ofNat 64 l.page)
        | none => .ok ⟨h, pf, tensorScale h.tstype h.tscale, offs.zip as, leaf :: ls⟩

/-- The address of a byte offset. -/
def Elems.addr (e : Elems) (o : Nat) : Nat := ((e.addrs.find? (·.1 == o)).map (·.2)).getD 0

/-- A reader of byte offsets over bytes already bound. -/
def readerOf (bs : List (Nat × Byte)) (o : Nat) : Nat := ((bs.find? (·.1 == o)).map (·.2.toNat)).getD 0

/-- R83: the element lies at or past ELEN. -/
def Handle.past (h : Handle) (i : Nat) : Bool := h.elen ≠ 0 && decide (h.elen ≤ i)

/-- R157: `dld`. `The load's address` that R150 puts in EVAL is BASE plus the byte offset of the element's code, also where the line of
its scale is the marked one (DESIGN CHOICE, log 91). -/
def decodingLoad (d n b : Code) (t : BitVec 3) (u : BitVec 2) (s : State) (c : Context) : Res :=
  let slot := s.core.active
  let i := (c.read b).toNat
  let ac := s.access c.launch
  let rd := s.threadByte slot
  (readHandle s rd ac n.toNat (c.slotIndex n.toNat) (c.read b)).orTrap fun h =>
    if h.past i then .done s (c.write d 0)
    else match Stored.ofCode t.toNat with
      | none => .done s c
      | some ty =>
        (checkElems s rd ac h n.toNat (c.read b) ty false false (·.bytesOf i)).orTrap fun e =>
          let as := e.addrs.map (·.2)
          if !s.loadReady slot c h.space as ∨ s.loadWaits c .global as then .wait c
          else
            let c := s.spendMark slot c
            let (bs, met, s') := bindLoad s slot c.serial .global h.policy (s.sectorLook as) (s.poolLine ac.part e.leaves) as
            let v := e.fmt.decodeElem e.scale (readerOf ((e.addrs.map (·.1)).zip bs)) i
            let r := if met.isSome then 0 else (Fmt.encode (scalarFmt u) .rne v).1
            .bound (s'.holdLeaves ac.part e.leaves) ((c.write d (.ofNat 64 r)).pushLoad (.held c.serial))
              (metAt met (.ofNat 64 (h.base + e.fmt.codeOffset i)))

/-- R157 `dld`: its result is interlocked. -/
def execDld (st : BitVec 2) (d n b : Code) (t : BitVec 3) (u : BitVec 2) (s : State) : Answer :=
  issue (.dld st d n b t u) anyLevel (decodingLoad d n b t u) s

/-- R84: the elements whose codes a store writes: its own, and those past ELEN of every unit it covers: of NQ4 a superblock, or a
64-element block (R75, R82). -/
def PageFmt.reached (pf : PageFmt) (elen : Nat) (is : List Nat) : List Nat :=
  let ws := is.map fun i => (i, XVal.zero)
  let units := match pf with | .block _ l _ => [l] | .nq4 => [256, 64] | .l8 => [64] | .raw => []
  let more := units.flatMap fun n => (unitsOf ws n).flatMap fun u => if covers elen ws (u * n) n then span (u * n) n else []
  let points := if pf = .l8 then is.flatMap fun i => span (i / 8 * 8) 8 else []
  (is ++ more ++ points).eraseDups

/-- R70, R150: a line, marked, of a sector that a decoding store changes without writing it whole. -/
def markedSector (s : State) (written read : List Nat) : Option (Cause × Nat) :=
  let partly := written.filter fun a => !((span (a / 32 * 32) 32).all written.contains)
  s.firstMarked (partly ++ read.filter fun a => !written.contains a)

/-- R70, R140: a decoding store reads and writes its sectors at their homes, in one event as it issues, once every older store of
its thread has left its queue, none of its words is on its way, and its lines are free (log 68). -/
def State.editReady (s : State) (slot : Bool) (c : Context) (as : List Nat) : Bool :=
  s.storeReady slot c .global as && (s.sq slot).all (·.bytes.isEmpty) && c.atomics == 0 && !c.overlaps .global as &&
  !s.awaitsScrub as && as.all fun a => !s.writeWaits a && !s.onTheWay (a / 4)

/-- R158, R70, R150: the store of elements xs through a checked access, atomic per sector; dropped whole where a sector it must read
is marked. What it meets: the marker, or what drops bytes at the home (R410, R414), with the line's address. -/
def placeElems (e : Elems) (rm : Nat) (xs : List (Nat × XVal)) (s : State) (c : Context) : State × Context × List (Cause × Dword) :=
  let offs := ((e.fmt.reached e.handle.elen (xs.map (·.1))).flatMap e.fmt.bytesOf).eraseDups
  let as := offs.map e.addr
  let enc := e.fmt.encode e.scale e.handle.elen rm (readerOf (offs.zip (as.map s.coherentByte))) xs c.gen
  let writes := (sortAddr (enc.bytes.map fun p => (e.addr p.1, BitVec.ofNat 8 p.2))).filter fun p => !inFrames p.1
  let c' : Context := { c with serial := c.serial + 1 }
  match markedSector s (writes.map (·.1)) as with
  | some (cause, a) =>
    let o := ((e.addrs.find? (·.2 == a)).map (·.1)).getD 0
    (s, c', [(cause, .ofNat 64 (lineOf (e.handle.base + o)))])
  | none =>
    let pool := s.poolLine (s.partOf c.launch) e.leaves
    let was := writes.map (·.1)
    ((s.ownWrite false writes).touchLines c.launch e.handle.policy pool (linesOf was), { c' with gen := enc.gen }.raise enc.flags,
      (s.dropsAt was).toList)

/-- R158: the same as an instruction's effect. -/
def storeElems (s : State) (c : Context) (e : Elems) (rm : Nat) (xs : List (Nat × XVal)) : Res :=
  if !s.editReady s.core.active c (e.addrs.map (·.2)) then .wait c
  else
    let c := s.spendMark s.core.active c
    let (s, c, mets) := placeElems e rm xs (s.holdLeaves (s.partOf c.launch) e.leaves) c
    .bound s c mets

/-- R158: `dst`. -/
def decodingStore (d n b : Code) (t r : BitVec 3) (s : State) (c : Context) : Res :=
  let i := (c.read b).toNat
  let ac := s.access c.launch
  let rd := s.threadByte s.core.active
  (readHandle s rd ac n.toNat (c.slotIndex n.toNat) (c.read b)).orTrap fun h =>
    match Stored.ofCode t.toNat with
    | none => .done s c
    | some ty =>
      (checkElems s rd ac h n.toNat (c.read b) ty true false fun pf => (pf.reached h.elen [i]).flatMap pf.bytesOf).orTrap fun e =>
        storeElems s c e r.toNat [(i, c.float f32 d)]

/-- R158 `dst`. -/
def execDst (st : BitVec 2) (d n b : Code) (t r : BitVec 3) (s : State) : Answer :=
  issue (.dst st d n b t r) anyLevel (decodingStore d n b t r) s

/-! Tile registers (R159, R160). -/

/-- R159: the geometry. -/
structure Geometry where
  swz : Bool
  column : Bool
  /-- Element width in bytes. -/
  w : Nat
  nb : Nat
  row0 : Nat
  rows : Nat
  stride : Nat
  deriving DecidableEq, Repr

/-- R159: the geometry of a value; none when a reserved bit, W = 3 or a limit is broken. -/
def Geometry.parse (g : Dword) : Option Geometry :=
  let t : Geometry := {
    swz := bit g 39, column := bit g 38, w := 2 ^ bits g 37 36, nb := 32 * (bits g 34 32 + 1), row0 := bits g 31 24
    rows := bits g 23 16 + 1, stride := bits g 15 0 }
  if bits g 63 40 ≠ 0 ∨ bit g 35 ∨ bits g 37 36 = 3 then none
  else if !t.column ∧ 128 < t.row0 + t.rows then none
  else if t.column ∧ (256 / t.w < t.rows ∨ 128 < t.row0 + t.nb / t.w) then none
  else if t.swz ∧ ((t.nb ≠ 128 ∧ t.nb ≠ 256) ∨ t.stride % 128 ≠ 0) then none
  else some t

/-- R160: the offset of memory row k, byte j. -/
def Geometry.mem (t : Geometry) (off k j : Nat) : Nat :=
  off + k * t.stride + (if t.swz then Nat.xor (j / 16) (k % 8) * 16 + j % 16 else j)

/-- R160: the tile row and byte that memory row k, byte j corresponds to. -/
def Geometry.tile (t : Geometry) (k j : Nat) : Nat × Nat :=
  if t.column then (t.row0 + j / t.w, k * t.w + j % t.w) else (t.row0 + k, j)

/-- The (row k, byte j) pairs in ascending order. -/
def Geometry.cells (t : Geometry) : List (Nat × Nat) :=
  (List.range t.rows).flatMap fun k => (List.range t.nb).map fun j => (k, j)

/-- The tile-file rows the geometry names in tile register K. -/
def Geometry.tileRows (t : Geometry) (K : Nat) : List Nat :=
  span (128 * K + t.row0) (if t.column then t.nb / t.w else t.rows)

/-- A byte of a tile-file row. -/
def tileByte (t : Cells 2048) (row b : Nat) : Byte := .ofNat 8 (bits (cellGet t row) (8 * b + 7) (8 * b))

/-- A byte of a wide row replaced. -/
def setRowByte {w : Nat} (r : BitVec w) (b : Nat) (v : Byte) : BitVec w :=
  (r &&& ~~~(.ofNat w (255 * 2 ^ (8 * b)))) ||| .ofNat w (v.toNat * 2 ^ (8 * b))

/-- A byte of a tile-file row written. -/
def setTileByte (t : Cells 2048) (row b : Nat) (v : Byte) : Cells 2048 := cellSet row (setRowByte (cellGet t row) b v) t

/-- R149 for tile accesses: every byte of the span, then the multiples of 32, then translation. -/
def checkTile (s : State) (c : Context) (slot : Nat) (off : Dword) (t : Geometry) (need : Need) : Check Mapped := do
  let rd := s.threadByte s.core.active
  let ac := s.access c.launch
  let h ← readHandle s rd ac slot (c.slotIndex slot) off
  checkBound s ac h slot off ((t.rows - 1) * t.stride + t.nb)
  let va := h.va off
  if va.toNat % 32 ≠ 0 ∨ t.stride % 32 ≠ 0 ∨ h.space = .sync then failed .align va
  else
    let as := t.cells.map fun p => t.mem va.toNat p.1 p.2
    match h.space with
    | .code => refuseCode s rd ac.part need as va
    | .global =>
      let (ps, ls) ← mapBytes s rd ac.part need as
      .ok ⟨h, ps, ls⟩
    | _ => .ok ⟨h, as, []⟩

/-- R243: a breach of an ownership window by an access to a row, in check mode. -/
def Context.ownBreach (c : Context) (tile : Bool) (rows : List Nat) (hit : Window → Bool) : Option Dword :=
  if bit c.chk 1 then
    (c.windows.find? fun w => w.tile = tile && rows.contains w.row && hit w).map fun w =>
      .ofNat 64 (w.row % 1024 + tile.toNat * 4096 + w.eng % 16 * 65536)
  else none

/-- R160: an older `tst` of the context that names the tile register has still to be performed. -/
def State.tileHeld (s : State) (c : Context) (K : Nat) : Bool :=
  (s.sq s.core.active).any fun e => e.ctx == c.ctxid.toNat && e.tile == some K

/-- R159, R160: `tld`: the tile is written only when every sector has returned unmarked. -/
def tileLoad (K : Nat) (d n b : Code) (s : State) (c : Context) : Res :=
  match Geometry.parse (c.read d) with
  | none => .trap .illopd (c.read d)
  | some t =>
    (checkTile s c n.toNat (c.read b) t .read).orTrap fun m =>
      match c.ownBreach true (t.tileRows K) fun w => !w.write || w.eng == 1 with
      | some v => .trap .ownbrk v
      | none =>
        let slot := s.core.active
        if s.tileHeld c K ∨ !s.loadReady slot c m.handle.space m.addrs ∨ s.loadWaits c m.handle.space m.addrs then .wait c
        else
          let c := s.spendMark slot c
          let part := s.partOf c.launch
          let (bs, met, s') := bindLoad s slot c.serial m.handle.space m.handle.policy (s.sectorLook m.addrs)
            (s.poolLine part m.leaves) m.addrs
          let s' := s'.holdLeaves part m.leaves
          let tile := (t.cells.zip bs).foldl (fun f p =>
            let (row, byte) := t.tile p.1.1 p.1.2
            setTileByte f (128 * K + row) byte p.2) s.core.tile
          let s' := if met.isSome then s' else { s' with core := { s'.core with tile := tile } }
          .bound s' (c.pushLoad (.held c.serial)) (metAt met (m.handle.va (c.read b)))

/-- R159 `tld`. -/
def execTld (st : BitVec 2) (d n b : Code) (k : BitVec 3) (s : State) : Answer :=
  issue (.tld st d n b k) anyLevel (tileLoad k.toNat d n b) s

/-- R159, R160: `tst`: one store, its sectors in ascending address order. Where its rows overlap, which no rule orders, the later row's
byte stays (DESIGN CHOICE, log 91). -/
def tileStore (K : Nat) (d n b : Code) (s : State) (c : Context) : Res :=
  match Geometry.parse (c.read d) with
  | none => .trap .illopd (c.read d)
  | some t =>
    (checkTile s c n.toNat (c.read b) t .write).orTrap fun m =>
      match c.ownBreach true (t.tileRows K) fun w => w.write && w.eng == 1 with
      | some v => .trap .ownbrk v
      | none =>
        let data := t.cells.map fun p => let (row, byte) := t.tile p.1 p.2; tileByte s.core.tile (128 * K + row) byte
        if s.tileHeld c K then .wait c else enqueueStore s c m (m.addrs.zip data) (some K)

/-- R159 `tst`. -/
def execTst (st : BitVec 2) (d n b : Code) (k : BitVec 3) (s : State) : Answer :=
  issue (.tst st d n b k) anyLevel (tileStore k.toNat d n b) s

end Sys2Proof.Machine
end

