-- ==== Sys2Proof/Machine/EngineOps.lean ====
section
/-! DEFINITION. What every command engine shares: stacks, commands, completion numbers and faults (R44 to R50). -/

namespace Sys2Proof.Machine

/-- R8, R49: a context's stack and numbers on an engine; empty where nothing has been sent. -/
def State.engCtx (s : State) (eng ctx : Nat) : EngCtx :=
  (s.eng.ctxs.find? fun e => e.eng = eng ∧ e.ctx = ctx).getD ⟨eng, ctx, [], 0, [], 0⟩

/-- The same replaced. -/
def State.setEngCtx (s : State) (e : EngCtx) : State :=
  { s with eng := { s.eng with ctxs := e :: s.eng.ctxs.filter fun o => ¬ (o.eng = e.eng ∧ o.ctx = e.ctx) } }

/-- R49: an operation is launched. -/
def EngCtx.launchOp (e : EngCtx) : EngCtx := { e with ops := e.ops ++ [false], launched := e.launched + 1 }

/-- The number the next launched operation takes among its context's. -/
def State.nextNum (s : State) (eng ctx : Nat) : Nat := (s.engCtx eng ctx).launched

/-- The operations at the front of the list that have completed. -/
def doneCount : List Bool → Nat
  | true :: r => doneCount r + 1
  | _ => 0

/-- R49: an operation completes; the number rises past every completed operation not held back by an earlier one. -/
def EngCtx.complete (e : EngCtx) (num : Nat) : EngCtx :=
  let ops := e.ops.set (num - (e.launched - e.ops.length)) true
  { e with ops := ops.drop (doneCount ops), seq := e.seq + .ofNat 32 (doneCount ops) }

/-- R49: an operation of a context completes. -/
def State.completeOp (s : State) (eng ctx num : Nat) : State := s.setEngCtx ((s.engCtx eng ctx).complete num)

/-- R49: an operation that completes as it is launched. -/
def State.instantOp (s : State) (eng ctx : Nat) : State :=
  let e := s.engCtx eng ctx
  s.setEngCtx (e.launchOp.complete e.launched)

/-- R39, R47, R345: the issuer of a command or action of the context in the active slot. -/
def State.issuer (s : State) (c : Context) : Issuer :=
  ⟨c.ctxid.toNat, s.core.active, s.partOf c.launch, c.launch, c.walk, c.taskNo.toNat, c.prv.cur, c.h, c.acc⟩

/-- The partition RCB's own fault queue: its FQ, or the root's where it inherits (R21, R25, R441). -/
def State.partFq (s : State) (p : Nat) : Option (Dword × Nat) :=
  let ofField (v : Dword) : Option (Dword × Nat) := if bits v 3 0 ≤ 8 then some (v &&& 0xFFFFFFFFFFFFF000, 2 ^ (bits v 3 0 + 4)) else none
  let v := readDword s.coherentByte ((s.part p).prcb.toNat + 0x90)
  if bits v 3 0 = 15 then ofField (readDword s.coherentByte (s.mgmt.root.toNat + 0x90)) else ofField v

/-- R22: a record of a partition-level action: launch identifier 0, no core, no leaf. -/
def State.partRecord (s : State) (p : Nat) (c : Cause) (src : Nat) (v : Dword) : State :=
  s.record ⟨p, s.partFq p, c, src, false, 0, 0xFFFFFFFF, 0, v⟩

/-- R410, R414: why some of a write's bytes are dropped at the home, with the line; none where all are performed. -/
def State.writeDrops (s : State) (whole : Bool) (bs : List (Nat × Byte)) : Option (Cause × Dword) :=
  match bs.find? fun p => s.fencedAt p.1 with
  | some p => some (.hostlost, .ofNat 64 (lineOf p.1))
  | none => ((s.badLines whole bs).head?).map fun l => (.memerr, .ofNat 64 l)

/-- R410, R414, R445: the loss of a device write that has waited: the partition's record, or a notice where it was a record itself
(log 79). -/
def State.tellLoss (s : State) (part : Option Nat) (f : Option (Cause × Dword)) : State :=
  match f, part with
  | some (c, v), some p => s.partRecord p c 0xFF v
  | some (c, v), none => s.notify c v
  | none, _ => s

/-- The writes of a list that may go, performed in order; `kept` are those before that must wait, behind which a later write to
one of their lines, or a later record of one of their rings (R22), waits too. -/
def State.drainWrites (s : State) (kept : List WaitingWrite) : List WaitingWrite → State
  | [] => { s with fab := { s.fab with waiting := kept ++ s.fab.waiting } }
  | w :: r =>
    let behind := kept.any fun k => (k.ring.isSome && k.ring == w.ring) || k.bytes.any fun p => w.bytes.any fun q => lineOf p.1 = lineOf q.1
    if behind || w.bytes.any fun p => s.writeWaits p.1 then s.drainWrites (kept ++ [w]) r
    else
      let lost := s.writeDrops w.whole w.bytes
      let s := s.homeWrite w.whole w.bytes
      State.drainWrites (({ s with inflight := s.inflight ++ w.reply } : State).tellLoss w.part lost) kept r

/-- R254, R398: writes that wait at their homes proceed when pins and hosts let them. -/
def State.drainWaiting (s : State) : State := State.drainWrites { s with fab := { s.fab with waiting := [] } } [] s.fab.waiting

/-- R442, R410, R438: bytes of the partition RCB written by the dispatcher; the partition's record of a loss. -/
def State.writePrcb (s : State) (p off : Nat) (bs : List Byte) : State :=
  match s.writeNode p ⟨true, (s.part p).prcb⟩ off bs with
  | (s', none) => s'
  | (s', some f) => s'.partRecord p (afterScrub f).1 0xFF ((s.part p).prcb + .ofNat 64 off)

/-- The slot in which a context is resident. -/
def State.slotOf (s : State) (ctx : Nat) : Option Bool :=
  if (s.core.slot0.map (·.ctxid.toNat)) = some ctx then some false
  else if (s.core.slot1.map (·.ctxid.toNat)) = some ctx then some true
  else none

/-- R133: a cause held for a context that is saved, which is at task privilege (R38); none where it has ended. -/
def State.holdSaved (s : State) (ctx : Nat) (h : Held) : State :=
  { s with disp := { s.disp with saved := s.disp.saved.map fun k => if k.ctx = ctx then { k with held := k.held ++ [h] } else k } }

/-- R22, R131, R133: an engine fault of an issuing context: the record, then the effect that its privilege and the policy give; of a
saved context the entry waits for its return, and of an ended one only the record remains. -/
def State.engineFault (s : State) (iss : Issuer) (eng : Nat) (c : Cause) (v : Dword) : State :=
  if iss.host then
    s.record ⟨iss.part, s.partFq iss.part, c, eng + 1, false, 0, 0xFFFFFFF0 + iss.ctx % 2, 0, v⟩
  else match s.slotOf iss.ctx with
    | some slot => s.raise slot c (eng + 1) v
    | none =>
      let s := s.recordFor iss.launch c (eng + 1) false (s.slotNumber iss.slot) v
      match s.policyOf iss.launch with
      | .trap => s.holdSaved iss.ctx ⟨c, eng + 1, v, .task⟩
      | pol => s.applyPolicy iss.launch pol c

/-- R46: a command ends with a fault: it is discarded, the context's stack for the engine is emptied, the fault recorded. -/
def State.endCommand (s : State) (k : Cmd) (c : Cause) (v : Dword) : State :=
  let s := { s with eng := { s.eng with cmds := s.eng.cmds.tail } }
  (s.setEngCtx { s.engCtx k.eng k.iss.ctx with stack := [] }).engineFault k.iss k.eng c v

/-- What an engine word does: it completes with a stack, or ends its command. -/
inductive WordRes where
  | ok (s : State) (stack : List Dword)
  | fault (c : Cause) (v : Dword)
  /-- It cannot run yet; the command stays as it is. -/
  | wait
  deriving DecidableEq

/-- R47: the stack with the value `xsend` pushes before its words. -/
def Cmd.pushed (k : Cmd) (st : List Dword) : List Dword := k.param.toList ++ st

/-- R253, R314, R381: a fetch of the context that waits for pins, or a local walk that waits for a record slot, holds back the
later words of its context at the unit; an `lstep` that waits, those of its partition. -/
def State.heldBack (s : State) (k : Cmd) : Bool :=
  (k.eng == 1 && s.eng.fetches.any fun f => f.iss.ctx = k.iss.ctx && !f.warm && f.stage == .waiting) ||
  (k.eng == 3 && s.wick.locals.any fun w => w.iss.ctx = k.iss.ctx && w.waiting) ||
  (k.eng == 7 && s.eng.ll.any fun p => p.part = k.iss.part && p.waiting.isSome)

/-- R44, R46: the next word of the head command runs; the command leaves when its words are spent. `bad` says that its row does
not assign its argument, which ends it with EOPX; the push of `xsend` counts as word 0 of its command (log 31). -/
def runWord (bad : Bool) (body : State → Cmd → List Dword → WordRes) (s : State) : Answer :=
  match s.eng.cmds with
  | [] => .fault .noCommand
  | k :: rest =>
    let st := k.pushed (s.engCtx k.eng k.iss.ctx).stack
    if s.heldBack k then .next s
    else if 8 < st.length then .next (s.endCommand k .estk 0)
    else if bad then .next (s.endCommand k .eopx (.ofNat 64 k.index))
    else match body s k st with
      | .wait => .next s
      | .fault c v => .next (s.endCommand k c v)
      | .ok s' st' =>
        let k' := { k with words := k.words.tail, index := k.index + 1, running := true, param := none }
        let s' := s'.setEngCtx { s'.engCtx k.eng k.iss.ctx with stack := st' }
        .next { s' with eng := { s'.eng with cmds := if k'.words.isEmpty then rest else k' :: rest } }

/-- R46: ESTK: the index of the failing word. -/
def estk (k : Cmd) : WordRes := .fault .estk (.ofNat 64 k.index)

/-- R130: EOPX: the index of the failing word. -/
def eopx (k : Cmd) : WordRes := .fault .eopx (.ofNat 64 k.index)

/-- R45: a word that pops n entries, top first, and pushes what f makes of them. -/
def stackWord (n : Nat) (f : List Dword → List Dword) (s : State) (k : Cmd) (st : List Dword) : WordRes :=
  if st.length < n then estk k
  else
    let st' := f (st.take n) ++ st.drop n
    if 8 < st'.length then estk k else .ok s st'

/-- R46: a launch or setting word that pops n operands, top first. -/
def popping (n : Nat) (body : State → Cmd → List Dword → List Dword → WordRes) (s : State) (k : Cmd) (st : List Dword) : WordRes :=
  if st.length < n then estk k else body s k (st.take n) (st.drop n)

/-- R278 item 1: a barrier operand: 0 names none; else bit 0 set, and the object at bits[25:5] × 32; none: malformed. -/
def barOperand (v : Dword) : Option Bar :=
  if v = 0 then some none
  else if bit v 0 ∧ bits v 4 1 = 0 ∧ bits v 63 26 = 0 then some (some (bits v 25 5 * 32))
  else none

/-- The checks of R42 for an engine operation of an issuer; a host context has the partition RCB's handle table, or the root's where
that is the inherit code (R371, R25). -/
def State.accessOf (s : State) (i : Issuer) : Access :=
  if i.host then
    ⟨i.part, (let own := readDword s.coherentByte ((s.part i.part).prcb.toNat + 0x18)
      if own = 0 then readDword s.coherentByte (s.mgmt.root.toNat + 0x18) else own), 0⟩
  else s.access i.launch

/-- A handle entry through a slot of an issuer (R345: the slots as they stood when the sending instruction issued). -/
def handleOf (s : State) (i : Issuer) (slot : Nat) (off : Dword) : Check Handle :=
  readHandle s s.coherentByte (s.accessOf i) slot ((i.handles[slot]?).getD 0).toNat off

/-- R47: commands of the core still in its queue to an engine. -/
def State.queuedTo (s : State) (eng : Nat) : Nat :=
  (s.eng.cmds.filter fun k => k.eng == eng && !k.running && !k.iss.host).length

/-- A check's failure is the word's fault; a check that waits for a scrub is made later (R414). -/
def Check.orFault {α : Type} (r : Check α) (k : α → WordRes) : WordRes :=
  match r with
  | .ok a => k a
  | .error (c, v) => if c = .none then .wait else .fault c v

/-- R278 item 2: a record span of n bytes through a slot: its bytes' addresses and the space they lie in. -/
def checkRecord (s : State) (i : Issuer) (slot : Nat) (off : Dword) (n : Nat) : Check Mapped := do
  let ac := s.accessOf i
  let h ← handleOf s i slot off
  checkBound s ac h slot off n
  let va := h.va off
  if va.toNat % 32 ≠ 0 then failed .align va
  else match h.space with
    | .scratch => .ok ⟨h, span va.toNat n, []⟩
    | .global => do
      let (as, ls) ← mapBytes s s.coherentByte ac.part .write (span va.toNat n)
      .ok ⟨h, as, ls⟩
    | _ => failed .wperm va

/-- Bytes an engine writes at checked addresses of a space (R242, R349): scratchpad, sync or memory through the home. -/
def State.engineWrite (s : State) (sp : Space) (whole : Bool) (bs : List (Nat × Byte)) : State :=
  match sp with
  | .scratch => { s with core := { s.core with scratch := writeBytes bs s.core.scratch } }
  | .sync => { s with sync := { s.sync with sram := writeBytes bs s.sync.sram } }
  | _ => s.deviceWrite none whole bs

/-- R410: such a write would meet an uncorrectable error, so some of its bytes are dropped and it counts them with the poison
flag (R51). -/
def State.writeBad (s : State) (sp : Space) (whole : Bool) (bs : List (Nat × Byte)) : Bool :=
  sp.memory == .global && !(s.badLines whole bs).isEmpty

/-- R411, R414: the same for an operation of an issuer; a write behind a fence is dropped and its writer has HOSTLOST; a partial
write that meets an uncorrectable error is dropped and its writer has MEMERR. -/
def State.writeFor (s : State) (iss : Issuer) (eng : Nat) (sp : Space) (whole : Bool) (bs : List (Nat × Byte)) : State :=
  let s' := s.engineWrite sp whole bs
  if sp.memory ≠ .global then s'
  else
    let s' := match bs.find? fun p => s.fencedAt p.1 with
      | some p => s'.engineFault iss eng .hostlost (.ofNat 64 (lineOf p.1))
      | none => s'
    (s.badLines whole bs).foldl (fun s l => s.engineFault iss eng .memerr (.ofNat 64 l)) s'

/-- A byte an engine reads at an address of a space. -/
def State.engineByte (s : State) (sp : Space) (a : Nat) : Byte :=
  match sp with
  | .scratch => cellGet s.core.scratch a
  | .sync => cellGet s.sync.sram a
  | _ => s.coherentByte a

end Sys2Proof.Machine
end

