-- ==== Sys2Proof/Machine/Acc.lean ====
section
/-! DEFINITION. The accumulator: segments (R223), its owner and the first touch (R236 to R239). -/

namespace Sys2Proof.Machine

/-- R223: bits of a row that its touched segments hold. -/
def segMask (touch : Dword) (row : Nat) : BitVec 4096 :=
  .ofNat 4096 (((List.range 4).map fun h =>
    if bit touch (row / 8 * 4 + h) then (2 ^ 1024 - 1) * 2 ^ (1024 * h) else 0).sum)

/-- R223: a row as it reads: 0 in untouched segments. -/
def CoreState.accRow (k : CoreState) (row : Nat) : AccRow := cellGet k.acc row &&& segMask k.actouch row

/-- R223: segment 4g + h becomes touched, the rest of it 0. -/
def CoreState.touchSeg (k : CoreState) (seg : Nat) : CoreState :=
  if bit k.actouch seg then k
  else
    let clear : BitVec 4096 := ~~~(.ofNat 4096 ((2 ^ 1024 - 1) * 2 ^ (1024 * (seg % 4))))
    { k with
      actouch := k.actouch ||| .ofNat 64 (2 ^ seg)
      acc := (span (seg / 4 * 8) 8).foldl (fun m r => cellSet r (cellGet m r &&& clear) m) k.acc }

/-- A lane of a row, w bytes wide. -/
def rowLane {n : Nat} (r : BitVec n) (w j : Nat) : Nat := bits r (8 * w * (j + 1) - 1) (8 * w * j)

/-- A lane of a row replaced. -/
def setRowLane {n : Nat} (r : BitVec n) (w j v : Nat) : BitVec n :=
  (r &&& ~~~(.ofNat n ((2 ^ (8 * w) - 1) * 2 ^ (8 * w * j)))) ||| .ofNat n (v % 2 ^ (8 * w) * 2 ^ (8 * w * j))

/-- R223: lanes of a row written, as (lane, value) pairs of w bytes; the segments they lie in become touched. -/
def CoreState.writeLanes (k : CoreState) (row w : Nat) (vs : List (Nat × Nat)) : CoreState :=
  let segs := ((vs.map fun p => row / 8 * 4 + p.1 * w / 128).eraseDups)
  let k := segs.foldl CoreState.touchSeg k
  if vs.isEmpty then k
  else { k with acc := cellSet row (vs.foldl (fun r p => setRowLane r w p.1 p.2) (cellGet k.acc row)) k.acc }

/-- R236: ACOWN naming a context. -/
def ownerWord (ctx : Nat) : BitVec 15 := .ofNat 15 (2 ^ 14 + ctx % 2 ^ 14)
/-- R236: OWNER where VALID is 1. -/
def CoreState.owner (k : CoreState) : Option Nat := if bit k.acown 14 then some (bits k.acown 13 0) else none

/-- R237: the save area of a context of a partition. -/
def State.saveArea (s : State) (part ctx : Nat) : Nat := (s.part part).asbase.toNat + ctx * 0x11000

/-- R237, R238: the owner word of a save area names the context. -/
def savedFor (v : Dword) (ctx : Nat) : Bool := bit v 14 && bits v 13 0 == ctx

/-- R239: a claim: ownership, nothing touched, both field sets at their Reset values, the status clear. -/
def State.claim (s : State) (ctx : Nat) : State :=
  { s with
    core := { s.core with acown := ownerWord ctx, actouch := 0 }
    eng := { s.eng with mx := { s.eng.mx with active := Fields.reset, shadow := Fields.reset, status := 0 } } }

/-- R239: no owner, nothing touched. -/
def State.disown (s : State) : State := { s with core := { s.core with acown := 0, actouch := 0 } }

/-- R240: an `msave` or `mload` is queued or running. -/
def State.moving (s : State) : Bool :=
  (s.eng.cmds.any fun k => k.eng == 0 && k.words.any fun w => bits w 15 8 == 0x24 || bits w 15 8 == 0x25) ||
  (s.eng.mx.ops.any fun o => match o.kind with | .save | .load => true | _ => false)

/-- R238: an accumulator touch, then what follows it. While an `msave` or `mload` moves the accumulator (R240) its checks cannot be made
yet: a cycle passes, and no held cause goes before them (R133). -/
def touching (k : State → Context → Res) (s : State) (c : Context) : Res :=
  if s.moving then .entered (s.tick 1)
  else match c.prv.cur with
    | .machine => k s c
    | _ =>
      let id := c.ctxid.toNat
      match s.core.owner with
      | some o => if o = id then k s c else .trap .accfirst (zext64 s.core.acown)
      | none =>
        let part := s.partOf c.launch
        match deviceDword s part (s.saveArea part id + 8) with
        | .error (.none, v) => .trap .none v
        | .error (cause, v) => .left (((s.setCurrent (some c)).stopContext s.core.active c cause 0 v false).tick 1)
        | .ok w => if savedFor w id then .trap .accfirst (zext64 s.core.acown) else k (s.claim id) c

end Sys2Proof.Machine
end

