-- ==== Sys2Proof/Machine/FloatOps.lean ====
section
/-! DEFINITION. Scalar floating-point instructions: R115 to R117. -/

namespace Sys2Proof.Machine

/-- R57, R115: an operation on operands none of which is NaN that gives NaN is invalid. -/
def invalid (operands : List XVal) (r : XVal) : Raised := { nv := r.isNan && !(operands.any XVal.isNan) }

/-- R115: a sum. -/
def addX (a b : XVal) : XVal × Raised := (a.add b, invalid [a, b] (a.add b))
/-- R115: a difference. -/
def subX (a b : XVal) : XVal × Raised := (a.add b.neg, invalid [a, b] (a.add b.neg))
/-- R115: a product. -/
def mulX (a b : XVal) : XVal × Raised := (a.mul b, invalid [a, b] (a.mul b))
/-- R115: a quotient. -/
def divX (a b : XVal) : XVal × Raised := (a.div b, invalid [a, b] (a.div b))
/-- R115: a square root. -/
def sqrtX (a : XVal) : XVal × Raised := (a.sqrt, invalid [a] a.sqrt)
/-- R115: a × b + c, with a × b as one term. -/
def fmaX (a b c : XVal) : XVal × Raised :=
  ((a.mul b).add c, (invalid [a, b] (a.mul b)).or (invalid [a.mul b, c] ((a.mul b).add c)))

/-- R115: the smaller value; −0 is below +0; NaN if either is NaN. -/
def minX (a b : XVal) : XVal :=
  match a, b with
  | .nan, _ | _, .nan => .nan
  | .fin s 0 _, .fin _ 0 _ => if s then a else b
  | _, _ => if b.lt a then b else a

/-- R115: the larger value. -/
def maxX (a b : XVal) : XVal :=
  match a, b with
  | .nan, _ | _, .nan => .nan
  | .fin s 0 _, .fin _ 0 _ => if s then b else a
  | _, _ => if a.lt b then b else a

/-- R115: a rounded result, zero-extended, with its flags and its draw. The rules give the destination its landing time; that the sticky
flags and the generator change at issue is a DESIGN CHOICE (log 101). -/
def roundedResult (F : Fmt) (rm : BitVec 3) (d : Code) (lat : Nat) (f : Context → XVal × Raised) (s : State) (c : Context) : Res :=
  let (m, g) := drawMode rm.toNat c.gen
  let (x, r) := f c
  let (v, r') := F.encode m x
  .done s (({ c with gen := g }.raise (r.or r')).result d (.ofNat 64 v) lat)

/-- R115: an unrounded result. -/
def exactResult (F : Fmt) (d : Code) (lat : Nat) (f : Context → XVal) (s : State) (c : Context) : Res :=
  .done s (c.result d (.ofNat 64 (F.encode .rne (f c)).1) lat)

/-- R115 `fadd`. -/
def execFadd (st t : BitVec 2) (d a b : Code) (r : BitVec 3) (s : State) : Answer :=
  let F := scalarFmt t
  issue (.fadd st t d a b r) anyLevel (roundedResult F r d 4 fun c => addX (c.float F a) (c.float F b)) s

/-- R115 `fsub`. -/
def execFsub (st t : BitVec 2) (d a b : Code) (r : BitVec 3) (s : State) : Answer :=
  let F := scalarFmt t
  issue (.fsub st t d a b r) anyLevel (roundedResult F r d 4 fun c => subX (c.float F a) (c.float F b)) s

/-- R115 `fmul`. -/
def execFmul (st t : BitVec 2) (d a b : Code) (r : BitVec 3) (s : State) : Answer :=
  let F := scalarFmt t
  issue (.fmul st t d a b r) anyLevel (roundedResult F r d 4 fun c => mulX (c.float F a) (c.float F b)) s

/-- R115 `fdiv`. -/
def execFdiv (st t : BitVec 2) (d a b : Code) (r : BitVec 3) (s : State) : Answer :=
  let F := scalarFmt t
  issue (.fdiv st t d a b r) anyLevel (roundedResult F r d (divLat t) fun c => divX (c.float F a) (c.float F b)) s

/-- R115 `fsqrt`. -/
def execFsqrt (st t : BitVec 2) (d a : Code) (r : BitVec 3) (s : State) : Answer :=
  let F := scalarFmt t
  issue (.fsqrt st t d a r) anyLevel (roundedResult F r d (divLat t) fun c => sqrtX (c.float F a)) s

/-- R115 `fmin`. -/
def execFmin (st t : BitVec 2) (d a b : Code) (s : State) : Answer :=
  let F := scalarFmt t
  issue (.fmin st t d a b) anyLevel (exactResult F d 4 fun c => minX (c.float F a) (c.float F b)) s

/-- R115 `fmax`. -/
def execFmax (st t : BitVec 2) (d a b : Code) (s : State) : Answer :=
  let F := scalarFmt t
  issue (.fmax st t d a b) anyLevel (exactResult F d 4 fun c => maxX (c.float F a) (c.float F b)) s

/-- R115 `fma`: the old xd is read at issue. -/
def execFma (st t : BitVec 2) (d a b : Code) (r : BitVec 3) (s : State) : Answer :=
  let F := scalarFmt t
  issue (.fma st t d a b r) anyLevel
    (roundedResult F r d 5 fun c => fmaX (c.float F a) (c.float F b) (c.float F d)) s

/-- R116: a comparison's 1 or 0. -/
def compared (F : Fmt) (a b : Code) (p : XVal → XVal → Bool) (c : Context) : Dword := bool64 (p (c.float F a) (c.float F b))

/-- R116 `feq`. -/
def execFeq (st : BitVec 2) (d a b : Code) (t : BitVec 2) (s : State) : Answer :=
  issue (.feq st d a b t) anyLevel (fixedResult d 2 (compared (scalarFmt t) a b XVal.eq)) s

/-- R116 `flt`. -/
def execFlt (st : BitVec 2) (d a b : Code) (t : BitVec 2) (s : State) : Answer :=
  issue (.flt st d a b t) anyLevel (fixedResult d 2 (compared (scalarFmt t) a b XVal.lt)) s

/-- R116 `fle`. -/
def execFle (st : BitVec 2) (d a b : Code) (t : BitVec 2) (s : State) : Answer :=
  issue (.fle st d a b t) anyLevel (fixedResult d 2 (compared (scalarFmt t) a b XVal.le)) s

/-- R116 `fun`. -/
def execFun (st : BitVec 2) (d a b : Code) (t : BitVec 2) (s : State) : Answer :=
  issue (.fun st d a b t) anyLevel (fixedResult d 2 (compared (scalarFmt t) a b fun x y => x.isNan || y.isNan)) s

/-- R116 `fclass`: the bit of a value's class. -/
def classBit (F : Fmt) (v : Nat) : Nat :=
  let subnormal := v % 2 ^ (F.width - 1) < 2 ^ F.frac
  match F.decode v with
  | .nan => 8
  | .inf s => if s then 0 else 7
  | .fin s n _ =>
    if n = 0 then (if s then 3 else 4)
    else if subnormal then (if s then 2 else 5)
    else if s then 1 else 6

/-- R116 `fclass`. -/
def execFclass (st : BitVec 2) (d a : Code) (t : BitVec 2) (s : State) : Answer :=
  issue (.fclass st d a t) anyLevel (fixedResult d 2 fun c => .ofNat 64 (2 ^ classBit (scalarFmt t) (c.read a).toNat)) s

/-- R116: the low bits of a register with the sign changed; a NaN gives the canonical NaN. -/
def signed (F : Fmt) (v : Nat) (f : XVal → XVal) : Dword := .ofNat 64 (F.encode .rne (f (F.decode v))).1

/-- R116 `fneg`. -/
def execFneg (st : BitVec 2) (d a : Code) (t : BitVec 2) (s : State) : Answer :=
  issue (.fneg st d a t) anyLevel (fixedResult d 1 fun c => signed (scalarFmt t) (c.read a).toNat XVal.neg) s

/-- R116 `fabs`. -/
def execFabs (st : BitVec 2) (d a : Code) (t : BitVec 2) (s : State) : Answer :=
  issue (.fabs st d a t) anyLevel (fixedResult d 1 fun c => signed (scalarFmt t) (c.read a).toNat XVal.abs) s

/-- R117: the conversion's result in a register, its flags and its draw; a reserved code is ILLOP before this. -/
def convertResult (e u : BitVec 4) (r : BitVec 3) (d a : Code) (s : State) (c : Context) : Res :=
  match NumType.ofCode e.toNat, NumType.ofCode u.toNat with
  | some dt, some st =>
    let (m, g) := if dt.rounds st then drawMode r.toNat c.gen else (.rne, c.gen)
    let (v, fl) := dt.convert st m (c.read a).toNat
    .done s (({ c with gen := g }.raise fl).result d (.ofInt 64 v) 3)
  | _, _ => .done s c

/-- R117 `cvt`. -/
def execCvt (st : BitVec 2) (d a : Code) (e u : BitVec 4) (r : BitVec 3) (s : State) : Answer :=
  issue (.cvt st d a e u r) anyLevel (convertResult e u r d a) s

end Sys2Proof.Machine
end

