-- ==== Sys2Proof/Machine/MatrixOps.lean ====
section
/-! DEFINITION. The matrix engine's operations: operands, checks, steps, side path, epilogue and status (R218 to R230, R241,
R261 to R266). -/

namespace Sys2Proof.Machine

/-- A field of a field set, as a number and as a signed value. -/
def Fields.nat (fs : Fields) (f : Nat) : Nat := ((fs[f]?).getD 0).toNat
def Fields.int (fs : Fields) (f : Nat) : Int := ((fs[f]?).getD 0).toInt
/-- A field written. -/
def Fields.put (fs : Fields) (f : Nat) (v : Dword) : Fields := fs.setIfInBounds f (v.truncate 32)

/-! Operand formats (R219, R85). -/

/-- R219: the block-scaled format of a 7-bit code. -/
def blockFormat (code : Nat) : Option (Fmt × Nat × ScaleType) :=
  if 128 ≤ code then none
  else match PageFmt.ofCode code with
    | some (.block e l st) => some (e, l, st)
    | _ => none

/-- R219: an operand: format code, and its block-scaled format where the code is 7. -/
structure Operand where
  code : Nat
  block : Option (Fmt × Nat × ScaleType)
  deriving DecidableEq, Repr

/-- R219: element bits, counting a point of L8 as 8 elements of 2 bits. -/
def Operand.elemBits (o : Operand) : Nat :=
  match o.code with
  | 0 => 64 | 1 => 32 | 2 | 3 => 16 | 4 | 5 | 6 => 8 | 8 | 10 => 4 | 9 => 2
  | _ => match o.block with | some (e, _, _) => e.width | none => 8

/-- R219: E(F). -/
def Operand.rowElems (o : Operand) : Nat := 2048 / o.elemBits

/-- R85: the natural chunk. -/
def Operand.chunk (o : Operand) : Nat :=
  match o.code with
  | 0 => 1 | 1 => 16 | 2 | 3 => 32 | 4 | 5 | 6 => 64 | 8 | 9 => 64 | 10 => 128
  | _ => match o.block with | some (_, l, _) => l | none => 64

/-- R225 check 4: the block of an operand with a scale row. -/
def Operand.scaleBlock (o : Operand) : Nat := match o.block with | some (_, l, _) => l | none => 64

/-- R219: the operand carries scales of its own. -/
def Operand.scaled (o : Operand) : Bool := 7 ≤ o.code && o.code ≤ 9

/-- R218, R219, R227: element e of a tile-file row, without scale. -/
def Operand.elem (o : Operand) (row : TileRow) (e : Nat) : XVal :=
  match o.code with
  | 0 => f64.decode (rowLane row 8 e)
  | 1 => f32.decode (rowLane row 4 e)
  | 2 => f16.decode (rowLane row 2 e)
  | 3 => bf16.decode (rowLane row 2 e)
  | 4 => e4m3.decode (rowLane row 1 e)
  | 5 => e5m2.decode (rowLane row 1 e)
  | 6 => .ofInt (readInt true 8 (rowLane row 1 e))
  | 8 => let c := nibble (rowLane row 1 (e / 2)) e; .scaled (nq4Level c < 0) (nq4Level c).natAbs (-16)
  | 9 => l8Coord (rowLane row 2 (e / 8)) (e % 8) 0
  | 10 => e2m1.decode (nibble (rowLane row 1 (e / 2)) e)
  | _ => match o.block with
    | some (f, _, _) => f.decode (if f.width = 4 then nibble (rowLane row 1 (e / 2)) e else rowLane row 1 e)
    | none => .nan

/-- R226: the factors of the scale of the chunk whose first element is e, from the operand's scale row; `uniform` is CSC where COS is 1. -/
def Operand.scale (o : Operand) (row : TileRow) (uniform : Option Nat) (e : Nat) : XVal × XVal :=
  match o.code with
  | 8 =>
    let s := e / 256
    (f32.decode (rowLane row 4 (2 * s)), .ofInt (rowLane row 1 (8 * s + 4 + e % 256 / 64)))
  | 9 => (decodeE8m0 (uniform.getD (rowLane row 1 (e / 64))), .ofInt 1)
  | 7 => match o.block with
    | some (_, l, st) => (st.value (rowLane row 1 (e / l)), .ofInt 1)
    | none => (.nan, .ofInt 1)
  | _ => (.ofInt 1, .ofInt 1)

/-- R220, R221: an accumulator type. -/
inductive AccType where
  | int32
  | flt (f : Fmt)
  deriving DecidableEq, Repr

def AccType.ofCode : Nat → Option AccType
  | 2 => some .int32
  | 8 => some (.flt f64) | 9 => some (.flt f32) | 10 => some (.flt f16) | 11 => some (.flt bf16)
  | _ => none

/-- R222: bytes of a lane. -/
def AccType.bytes : AccType → Nat
  | .int32 => 4
  | .flt f => f.width / 8

/-! The copied set (R224, R225). -/

def Fields.a (fs : Fields) : Operand := ⟨fs.nat 0x48, if fs.nat 0x48 = 7 then blockFormat (fs.nat 0x4A) else none⟩
def Fields.b (fs : Fields) : Operand := ⟨fs.nat 0x49, if fs.nat 0x49 = 7 then blockFormat (fs.nat 0x4B) else none⟩
def Fields.trb (fs : Fields) : Bool := fs.nat 0x4C = 1
def Fields.m (fs : Fields) : Nat := fs.nat 0x4D
def Fields.n (fs : Fields) : Nat := fs.nat 0x4E
def Fields.k (fs : Fields) : Nat := fs.nat 0x4F
def Fields.epi (fs : Fields) : Bool := fs.nat 0x50 = 1
def Fields.cnt (fs : Fields) (l : Nat) : Nat := fs.nat (0x40 + l)
/-- R224: COS = 1: the uniform L8 scale. -/
def Fields.uniform (fs : Fields) : Option Nat := if fs.nat 0x54 = 1 then some (fs.nat 0x55 % 256) else none
/-- R225 check 3: B has a scale row, and it is used: an L8 operand with COS = 1 takes its scale elsewhere. -/
def Fields.bScaled (fs : Fields) : Bool := fs.b.scaled && !(fs.b.code == 9 && fs.nat 0x54 == 1)
/-- R85: the chunk length of the pair. -/
def Fields.chunk (fs : Fields) : Nat := min fs.a.chunk fs.b.chunk
/-- R226: chunks of a step. -/
def Fields.chunks (fs : Fields) : Nat := (fs.k + fs.chunk - 1) / fs.chunk
/-- R225: steps of an operation. -/
def Fields.steps (fs : Fields) : Nat := (List.range 6).foldl (fun t l => t * fs.cnt l) 1

/-- R225: the iteration of level l in step t, level 0 innermost. -/
def Fields.level (fs : Fields) (t l : Nat) : Nat := t / (List.range l).foldl (fun d i => d * fs.cnt i) 1 % fs.cnt l

/-- R225: the value at step t of the generator whose part 0 is field `base`. -/
def Fields.gen (fs : Fields) (base t : Nat) : Int :=
  (List.range 6).foldl (fun v l => v + fs.level t l * fs.int (base + 1 + l)) (fs.int base)

/-- R225 check 3: the least and greatest values of a generator. -/
def Fields.least (fs : Fields) (base : Nat) : Int :=
  (List.range 6).foldl (fun v l => v + min 0 ((fs.cnt l - 1 : Nat) * fs.int (base + 1 + l))) (fs.int base)
def Fields.greatest (fs : Fields) (base : Nat) : Int :=
  (List.range 6).foldl (fun v l => v + max 0 ((fs.cnt l - 1 : Nat) * fs.int (base + 1 + l))) (fs.int base)

/-- A generator's values and the n places from each lie in 0 to top − 1. -/
def Fields.within (fs : Fields) (base n top : Nat) : Bool :=
  decide (0 ≤ fs.least base) && decide (fs.greatest base + n ≤ top)

/-- R225 check 4: base and running strides are multiples of a block. -/
def Fields.aligned (fs : Fields) (base block : Nat) : Bool :=
  decide (fs.int base % block = 0) &&
  (List.range 6).all fun l => decide (fs.cnt l ≤ 1) || decide (fs.int (base + 1 + l) % block = 0)

/-- R220: the combination of formats. -/
def combination (fa fb : Nat) (t : AccType) : Bool :=
  match fa, fb with
  | 0, 0 => t = .flt f64
  | 1, 1 => t = .flt f32
  | 6, 6 => t = .int32
  | _, _ =>
    ([2, 3, 4, 5, 7, 10].contains fa && [2, 3, 4, 5, 7, 8, 9, 10].contains fb) &&
    decide (t = .flt f32 ∨ t = .flt f16 ∨ t = .flt bf16)

/-- R224: a reserved field number. -/
def reservedField (f : Nat) : Bool := (f < 0x40 && f % 8 == 7) || f == 0x46 || f == 0x47 || (0x56 ≤ f && f < 0x60)

/-- R225: the checks of a copied set. -/
def Fields.ok (fs : Fields) (t : AccType) : Bool :=
  let w := t.bytes
  combination fs.a.code fs.b.code t &&
  (fs.a.code != 7 || fs.a.block.isSome) && (fs.b.code != 7 || fs.b.block.isSome) &&
  fs.nat 0x4C ≤ 1 && (fs.trb || fs.b.code ≤ 6) &&
  fs.nat 0x54 ≤ 1 && (fs.nat 0x54 == 0 || fs.b.code == 9) &&
  fs.nat 0x50 ≤ 1 && (fs.nat 0x50 == 0 || t != .int32) &&
  1 ≤ fs.m && fs.m ≤ 128 && 1 ≤ fs.n && fs.n ≤ 512 / w && 1 ≤ fs.k && fs.k ≤ min fs.a.rowElems fs.b.rowElems &&
  ((List.range 6).all fun l => 1 ≤ fs.cnt l && fs.cnt l ≤ 65536) &&
  ((List.range 128).all fun f => !reservedField f || fs.nat f == 0) &&
  fs.within 0x00 fs.m 1024 && fs.within 0x08 fs.k fs.a.rowElems &&
  (if fs.trb then fs.within 0x10 fs.n 1024 && fs.within 0x18 fs.k fs.b.rowElems
    else fs.within 0x10 fs.k 1024 && fs.within 0x18 fs.n fs.b.rowElems) &&
  fs.within 0x20 fs.m 128 && fs.within 0x28 fs.n (512 / w) &&
  (!fs.a.scaled || fs.within 0x30 fs.m 1024) && (!fs.bScaled || fs.within 0x38 fs.n 1024) &&
  (!fs.a.scaled || fs.aligned 0x08 fs.a.scaleBlock) && (!fs.b.scaled || fs.aligned 0x18 fs.b.scaleBlock)

/-! The side path (R261 to R263). -/

/-- R262: a group's fields. -/
structure Group where
  drow : Nat
  urow : Nat
  rank : Nat
  reserved : Bool
  deriving DecidableEq, Repr

def Fields.group (fs : Fields) (g : Nat) : Group :=
  let v : Word := (fs[0x60 + g]?).getD 0
  ⟨bits v 31 22, bits v 21 12, bits v 11 5, bits v 4 0 ≠ 0⟩

/-- R262: the factor format. -/
def Fields.factor (fs : Fields) : Operand := ⟨fs.nat 0x77, none⟩

/-- R263: the groups that the tile's rows meet and that have a rank. -/
def Fields.groups (fs : Fields) : List Nat :=
  let r := (fs.gen 0x20 0).toNat
  ((List.range fs.m).map fun m => (r + m) / 8).eraseDups.filter fun g => (fs.group g).rank != 0

/-- R263: the further checks of an `mgo` with the side path. -/
def Fields.sideOk (fs : Fields) (t : AccType) : Bool :=
  decide (t = .flt f32 ∨ t = .flt f16 ∨ t = .flt bf16) && 2 ≤ fs.a.code && fs.a.code ≤ 5 &&
  2 ≤ fs.nat 0x77 && fs.nat 0x77 ≤ 4 &&
  ((List.range 6).all fun l => decide (fs.cnt l ≤ 1) || (fs.int (0x21 + l) == 0 && fs.int (0x29 + l) == 0)) &&
  ((List.range 16).all fun g => !(fs.group g).reserved && (fs.group g).rank ≤ 64) &&
  fs.n ≤ fs.factor.rowElems && fs.nat 0x7F ≤ 1023 &&
  fs.within 0x78 fs.k fs.factor.rowElems &&
  fs.groups.all fun g =>
    let gr := fs.group g
    decide (0 ≤ gr.drow + fs.least 0x70) && decide (gr.drow + fs.greatest 0x70 + gr.rank ≤ 1024) &&
    decide (gr.urow + gr.rank ≤ 1024)

/-! Status (R229). -/

/-- R229: NANIN, OVF, NV of one update. -/
structure Status where
  nanin : Bool := false
  ovf : Bool := false
  nv : Bool := false
  deriving DecidableEq, Repr

def Status.toBits (s : Status) : BitVec 3 := .ofNat 3 (4 * s.nanin.toNat + 2 * s.ovf.toNat + s.nv.toNat)
def Status.or (a b : Status) : Status := ⟨a.nanin || b.nanin, a.ovf || b.ovf, a.nv || b.nv⟩

/-- R229: a rounding to a format: OVF where a finite value gives ±∞. -/
def roundStatus (F : Fmt) (x : XVal) : XVal × Status :=
  let r := F.round .rne x
  (r, { ovf := !x.special && r.special })

/-- R64, R229: an exact sum of products of terms with NaN and invalid operations noted. -/
def productSum (ps : List (XVal × XVal)) : XVal × Status :=
  let prods := ps.map fun p => (p.1.mul p.2, p)
  let total := XVal.sum (prods.map (·.1))
  (total, {
    nanin := ps.any fun p => p.1.isNan || p.2.isNan
    nv := (prods.any fun q => q.1.isNan && !q.2.1.isNan && !q.2.2.isNan) ||
      (total.isNan && !prods.any fun q => q.1.isNan) })

/-- A product with NV for 0 × ∞. -/
def timesStatus (a b : XVal) : XVal × Status := (a.mul b, { nanin := b.isNan, nv := (a.mul b).isNan && !a.isNan && !b.isNan })

/-- R226, R229: a product with a scale of two factors: NANIN where one of them is NaN, NV for 0 × ∞ between them or with them. -/
def scaleStatus (p : XVal) (σ : XVal × XVal) : XVal × Status :=
  let (x, s1) := timesStatus σ.1 σ.2
  let (r, s2) := timesStatus p x
  (r, { nanin := σ.1.isNan || σ.2.isNan, nv := s1.nv || s2.nv })

/-- R86: acc + p, rounded, with NV for ∞ − ∞. -/
def addStatus (F : Fmt) (acc p : XVal) : XVal × Status :=
  let x := acc.add p
  let (r, st) := roundStatus F x
  (r, st.or { nv := x.isNan && !acc.isNan && !p.isNan })

/-! Updates (R226, R228, R264, R265). -/

/-- A tile-file row. -/
def CoreState.tileRow (k : CoreState) (r : Int) : TileRow := cellGet k.tile r.toNat

/-- R222, R223: a lane of the accumulator. -/
def CoreState.accLane (k : CoreState) (w row lane : Nat) : Nat := rowLane (k.accRow row) w lane

/-- R226: the terms of chunk j of element (m, n) at step t. -/
def chunkTerms (k : CoreState) (fs : Fields) (t m n j : Nat) : List (XVal × XVal) :=
  let ra := k.tileRow (fs.gen 0x00 t + m)
  let ka := (fs.gen 0x08 t).toNat
  let rb := fs.gen 0x10 t
  let kb := (fs.gen 0x18 t).toNat
  (span (j * fs.chunk) (min fs.chunk (fs.k - j * fs.chunk))).map fun i =>
    (fs.a.elem ra (ka + i),
      if fs.trb then fs.b.elem (k.tileRow (rb + n)) (kb + i) else fs.b.elem (k.tileRow (rb + i)) (kb + n))

/-- R226: the scales of chunk j, each in two factors. -/
def chunkScales (k : CoreState) (fs : Fields) (t m n j : Nat) : (XVal × XVal) × (XVal × XVal) :=
  let e := j * fs.chunk
  (fs.a.scale (k.tileRow (fs.gen 0x30 t + m)) none ((fs.gen 0x08 t).toNat + e),
    fs.b.scale (k.tileRow (fs.gen 0x38 t + n)) fs.uniform ((fs.gen 0x18 t).toNat + e))

/-- The integer a value holds. -/
def XVal.toInt : XVal → Int
  | .fin s n d => (if s then -1 else 1) * ((n / d : Nat) : Int)
  | _ => 0

/-- R86, R87: the accumulator lane after chunk j of element (m, n) at step t. -/
def chunkUpdate (k : CoreState) (fs : Fields) (ty : AccType) (t m n j acc : Nat) : Nat × Status :=
  let ps := chunkTerms k fs t m n j
  match ty with
  | .int32 => (((acc : Int) + (ps.map fun p => p.1.toInt * p.2.toInt).sum) % (2 ^ 32 : Nat) |>.toNat, {})
  | .flt F =>
    let (p, st) := productSum ps
    if fs.a.code = 0 then
      let (r, st') := addStatus F (F.decode acc) p
      ((F.encode .rne r).1, st.or st')
    else
      let (σa, σb) := chunkScales k fs t m n j
      let (p, s1) := scaleStatus p σa
      let (p, s2) := scaleStatus p σb
      let (p, s3) := roundStatus F p
      let (r, s4) := addStatus F (F.decode acc) p
      ((F.encode .rne r).1, (((st.or s1).or s2).or s3).or s4)

/-- R264: the side accumulator of row m after step t. -/
def sideRow (k : CoreState) (fs : Fields) (t : Nat) (m : Nat) (u : Cells 32) : Cells 32 × Status :=
  let gr := fs.group (((fs.gen 0x20 t).toNat + m) / 8)
  let c := min fs.a.chunk fs.factor.chunk
  let ra := k.tileRow (fs.gen 0x00 t + m)
  let ka := (fs.gen 0x08 t).toNat
  let kd := (fs.gen 0x78 t).toNat
  (List.range gr.rank).foldl (fun us (q : Nat) =>
    let rd := k.tileRow ((gr.drow : Int) + fs.gen 0x70 t + (q : Int))
    let (x, st) := (List.range ((fs.k + c - 1) / c)).foldl (fun (x, st) j =>
      let ps := (span (j * c) (min c (fs.k - j * c))).map fun i => (fs.a.elem ra (ka + i), fs.factor.elem rd (kd + i))
      let (p, s1) := productSum ps
      let (p, s2) := roundStatus f32 p
      let (r, s3) := addStatus f32 x p
      (r, ((st.or s1).or s2).or s3)) (f32.decode (cellGet us.1 (64 * m + q)).toNat, us.2)
    (cellSet (64 * m + q) (.ofNat 32 (f32.encode .rne x).1) us.1, st)) (u, {})

/-- R265: an element's correction; a side accumulator that is NaN is no NaN that enters (R266). -/
def sideElement (k : CoreState) (fs : Fields) (F : Fmt) (m n acc : Nat) (u : Cells 32) : Nat × Status :=
  let g := ((fs.gen 0x20 0).toNat + m) / 8
  let gr := fs.group g
  if gr.rank = 0 then (acc, {})
  else
    let α := f32.decode (rowLane (k.tileRow (fs.nat 0x7F)) 4 g)
    let ps := (List.range gr.rank).map fun q =>
      (f32.decode (cellGet u (64 * m + q)).toNat, fs.factor.elem (k.tileRow (gr.urow + q)) n)
    let (x, s1) := productSum ps
    let s1 := { s1 with nanin := ps.any (·.2.isNan) }
    let (x, s2) := roundStatus f32 x
    let (p, s3) := timesStatus x α
    let (p, s4) := roundStatus F p
    let (r, s5) := addStatus F (F.decode acc) p
    ((F.encode .rne r).1, ((((s1.or s2).or s3).or s4).or s5))

/-- R228: the epilogue on one element. -/
def epilogue (fs : Fields) (F : Fmt) (acc : Nat) : Nat × Status :=
  let (x, s1) := timesStatus (F.decode acc) (f32.decode (fs.nat 0x52))
  let (x, s2) := timesStatus x (f32.decode (fs.nat 0x53))
  let (x, s3) := timesStatus x (f32.decode (fs.nat 0x51))
  let (r, s4) := roundStatus F x
  ((F.encode .rne r).1, { ovf := s4.ovf, nv := s1.nv || s2.nv || s3.nv })

/-- R241: the updates of an `mgo`, in order: of each step, its chunks, then its side rows; then the corrections; then the
epilogue over every lane of the accumulator. -/
def updatesOfStep (fs : Fields) (side : Bool) : Nat := fs.m * fs.n * fs.chunks + (if side then fs.m else 0)
def updatesOf (fs : Fields) (side : Bool) (ty : AccType) : Nat :=
  fs.steps * updatesOfStep fs side + (if side then fs.m * fs.n else 0) + (if fs.epi then 128 * (512 / ty.bytes) else 0)

/-- An update of one lane of the accumulator. -/
def CoreState.update (k : CoreState) (ty : AccType) (row lane : Nat) (f : Nat → Nat × Status) : CoreState × Status :=
  let (v, st) := f (k.accLane ty.bytes row lane)
  (k.writeLanes row ty.bytes [(lane, v)], st)

/-- R226, R228, R264, R265: update i of an operation. -/
def oneUpdate (fs : Fields) (side : Bool) (ty : AccType) (i : Nat) (k : CoreState) (op : MxOp) : CoreState × MxOp × Status :=
  let per := updatesOfStep fs side
  let main := fs.m * fs.n * fs.chunks
  let t := i / per
  if t < fs.steps then
    let r := i % per
    if r < main then
      let j := r % fs.chunks
      let n := r / fs.chunks % fs.n
      let m := r / fs.chunks / fs.n
      let row := (fs.gen 0x20 t + m).toNat
      let lane := (fs.gen 0x28 t + n).toNat
      let (k', st) := k.update ty row lane (chunkUpdate k fs ty t m n j)
      (k', { op with seen := cellSet row (cellGet op.seen row ||| .ofNat 256 (2 ^ lane)) op.seen }, st)
    else
      let (u, st) := sideRow k fs t (r - main) op.side
      (k, { op with side := u }, st)
  else
    let i := i - fs.steps * per
    let corrections := if side then fs.m * fs.n else 0
    match ty with
    | .int32 => (k, op, {})
    | .flt F =>
      if i < corrections then
        let (k', st) := k.update ty ((fs.gen 0x20 0).toNat + i / fs.n) ((fs.gen 0x28 0).toNat + i % fs.n)
          (fun acc => sideElement k fs F (i / fs.n) (i % fs.n) acc op.side)
        (if (fs.group (((fs.gen 0x20 0).toNat + i / fs.n) / 8)).rank = 0 then k else k', op, st)
      else
        let i := i - corrections
        let lanes := 512 / ty.bytes
        if (cellGet op.seen (i / lanes)).getLsbD (i % lanes) then
          let (k', st) := k.update ty (i / lanes) (i % lanes) (epilogue fs F)
          (k', op, st)
        else (k, op, {})

/-- R230, R241: the next n updates of an operation. -/
def runUpdates (fs : Fields) (side : Bool) (ty : AccType) : Nat → CoreState → MxOp → Status → CoreState × MxOp × Status
  | 0, k, op, st => (k, op, st)
  | n + 1, k, op, st =>
    let (k, op, st') := oneUpdate fs side ty op.pos k op
    runUpdates fs side ty n k { op with pos := op.pos + 1 } (st.or st')

/-! Rows an operation names (R243, R266). -/

/-- The values a generator takes. -/
def Fields.values (fs : Fields) (base : Nat) : List Int :=
  (List.range 6).foldl (fun vs l =>
    let d := fs.int (base + 1 + l)
    if d = 0 then vs else (vs.flatMap fun v => (List.range (fs.cnt l)).map fun (i : Nat) => v + (i : Int) * d).eraseDups) [fs.int base]

/-- Rows from each value of a generator. -/
def Fields.rows (fs : Fields) (base n : Nat) : List Nat :=
  ((fs.values base).flatMap fun v => span v.toNat n).eraseDups

/-- R243: the accumulator rows an operation writes. -/
def Fields.writes (fs : Fields) : List Nat := fs.rows 0x20 fs.m

/-- R243, R266: the tile-file rows an operation reads. -/
def Fields.reads (fs : Fields) (side : Bool) : List Nat :=
  (fs.rows 0x00 fs.m ++ fs.rows 0x10 (if fs.trb then fs.n else fs.k) ++
    (if fs.a.scaled then fs.rows 0x30 fs.m else []) ++ (if fs.bScaled then fs.rows 0x38 fs.n else []) ++
    (if side then
      fs.nat 0x7F :: fs.groups.flatMap fun g =>
        let gr := fs.group g
        ((fs.values 0x70).flatMap fun v => span ((gr.drow : Int) + v).toNat gr.rank) ++ span gr.urow gr.rank
    else [])).eraseDups

end Sys2Proof.Machine
end

