-- ==== Sys2Proof/Machine/Matrix.lean ====
section
/-! DEFINITION. The words of the matrix engine (R231 to R240, R267, R268) and the completion of its operations (R230). -/

namespace Sys2Proof.Machine

/-! Setters (R232, R268). -/

/-- The shadow set changed. -/
def State.mapShadow (s : State) (f : Fields → Fields) : State :=
  { s with eng := { s.eng with mx := { s.eng.mx with shadow := f s.eng.mx.shadow } } }

/-- R232: a setter word: n values popped, top first, and the shadow set they make. -/
def setter (bad : Bool) (n : Nat) (f : List Dword → Fields → Fields) (s : State) : Answer :=
  runWord bad (popping n fun s _ vs st => .ok (s.mapShadow (f vs)) st) s

/-- Popped values written to fields, pair by pair. -/
def putAll (fields : List Nat) (vs : List Dword) (fs : Fields) : Fields :=
  (fields.zip vs).foldl (fun fs p => fs.put p.1 p.2) fs

/-- R232 `mset`. -/
def execMset (f : BitVec 8) (s : State) : Answer :=
  setter (128 ≤ f.toNat || reservedField f.toNat) 1 (putAll [f.toNat]) s
/-- R232 `mswp`. -/
def execMswp (s : State) : Answer :=
  runWord false (popping 0 fun s _ _ st => .ok { s with eng := { s.eng with
    mx := { s.eng.mx with active := s.eng.mx.shadow, shadow := s.eng.mx.active } } } st) s
/-- R232 `mcpy`. -/
def execMcpy (s : State) : Answer :=
  runWord false (popping 0 fun s _ _ st => .ok { s with eng := { s.eng with
    mx := { s.eng.mx with shadow := s.eng.mx.active } } } st) s
/-- R232 `mrst`. -/
def execMrst (s : State) : Answer :=
  runWord false (popping 0 fun s _ _ st => .ok { s with eng := { s.eng with
    mx := { s.eng.mx with active := Fields.reset, shadow := Fields.reset } } } st) s
/-- R231, R232 `mgeo`: K, N, M. -/
def execMgeo (s : State) : Answer := setter false 3 (putAll [0x4F, 0x4E, 0x4D]) s
/-- R231, R232 `msra`: AK base, AR base. -/
def execMsra (s : State) : Answer := setter false 2 (putAll [0x08, 0x00]) s
/-- R231, R232 `msrb`: BK base, BR base. -/
def execMsrb (s : State) : Answer := setter false 2 (putAll [0x18, 0x10]) s
/-- R231, R232 `mdst`: CL base, CR base. -/
def execMdst (s : State) : Answer := setter false 2 (putAll [0x28, 0x20]) s
/-- R231, R232 `mssr`: SB base, SA base. -/
def execMssr (s : State) : Answer := setter false 2 (putAll [0x38, 0x30]) s
/-- R231, R232 `mfmt`. -/
def execMfmt (b a : BitVec 4) (s : State) : Answer :=
  setter false 0 (fun _ fs => (fs.put 0x48 (zext64 a)).put 0x49 (zext64 b)) s
/-- R231, R232 `mbsf`: BSB, BSA. -/
def execMbsf (s : State) : Answer := setter false 2 (putAll [0x4B, 0x4A]) s
/-- R231, R232 `mtr`. -/
def execMtr (t : BitVec 1) (s : State) : Answer := setter false 0 (fun _ fs => fs.put 0x4C (zext64 t)) s
/-- R231, R232 `mcos`: with 1, the scale byte. -/
def execMcos (c : BitVec 1) (s : State) : Answer :=
  setter false c.toNat (fun vs fs => putAll [0x55] vs (fs.put 0x54 (zext64 c))) s
/-- R231, R232 `mlev`. -/
def execMlev (l : BitVec 3) (s : State) : Answer := setter (Instr.mlev l).badArgument 1 (putAll [0x40 + l.toNat]) s
/-- R231, R232 `mstr`: the strides of levels 5 to 0. -/
def execMstr (g : BitVec 3) (s : State) : Answer :=
  setter false 6 (putAll ((List.range 6).map fun i => 8 * g.toNat + 6 - i)) s
/-- R231, R232 `mepi`: with 1, E. -/
def execMepi (e : BitVec 1) (s : State) : Answer :=
  setter false e.toNat (fun vs fs => putAll [0x51] vs (fs.put 0x50 (zext64 e))) s
/-- R231, R232 `mtsc`: TSB, TSA. -/
def execMtsc (s : State) : Answer := setter false 2 (putAll [0x53, 0x52]) s

/-- R268 `mgrp`: RK, UROW, DROW. -/
def groupWord (g : BitVec 4) (s : State) (k : Cmd) (vs st : List Dword) : WordRes :=
  match vs with
  | [rk, urow, drow] =>
    if 1024 ≤ drow.toNat ∨ 1024 ≤ urow.toNat ∨ 128 ≤ rk.toNat then eopx k
    else .ok (s.mapShadow fun fs => fs.put (0x60 + g.toNat) (.ofNat 64 (drow.toNat * 2 ^ 22 + urow.toNat * 2 ^ 12 + rk.toNat * 2 ^ 5))) st
  | _ => estk k
/-- R267, R268 `mgrp`. -/
def execMgrp (g : BitVec 4) (s : State) : Answer := runWord false (popping 3 (groupWord g)) s
/-- R268 `mgclr`. -/
def execMgclr (s : State) : Answer :=
  setter false 0 (fun _ fs => (List.range 16).foldl (fun fs g => fs.put (0x60 + g) 0) fs) s
/-- R268 `msfm`. -/
def execMsfm (f : BitVec 3) (s : State) : Answer :=
  setter (Instr.msfm f).badArgument 0 (fun _ fs => fs.put 0x77 (zext64 f)) s
/-- R268 `msar`. -/
def execMsar (s : State) : Answer := setter false 1 (putAll [0x7F]) s
/-- R268 `msdb`: SK base, SD base. -/
def execMsdb (s : State) : Answer := setter false 2 (putAll [0x78, 0x70]) s
/-- R268 `msds`: the strides of levels 5 to 0 of SD or SK. -/
def execMsds (g : BitVec 1) (s : State) : Answer :=
  setter false 6 (putAll ((List.range 6).map fun i => 0x70 + 8 * g.toNat + 6 - i)) s

/-! Launches (R233 to R235, R240). -/

/-- R243: an operation just launched opens windows for its context, where that is resident. The number that closes them is
its own completion number. -/
def State.openWindows (s : State) (iss : Issuer) (eng : Nat) (tile write : Bool) (rows : List Nat) : State :=
  let e := s.engCtx eng iss.ctx
  let upto := (e.seq + .ofNat 32 e.ops.length).toNat
  match s.slotOf iss.ctx with
  | none => s
  | some slot =>
    match s.ctx slot with
    | none => s
    | some c =>
      if c.launch = iss.launch ∧ c.taskNo.toNat = iss.task then
        s.setCtx slot (some { c with windows := c.windows ++ rows.map fun r => ⟨eng, upto, tile, write, r⟩ })
      else s

/-- R233: the accumulator type an issuer's operation runs under. -/
def Issuer.accType (i : Issuer) : Option AccType := AccType.ofCode i.acc.toNat

/-- An operation put at the end of the engine's order; a counted one is launched (R230, R49). -/
def State.mxLaunch (s : State) (k : Cmd) (kind : MxKind) (counted : Bool) : State :=
  let op : MxOp := ⟨k.iss, s.nextNum 0 k.iss.ctx, kind, 0, [], []⟩
  let s := if counted then s.setEngCtx (s.engCtx 0 k.iss.ctx).launchOp else s
  { s with eng := { s.eng with mx := { s.eng.mx with ops := s.eng.mx.ops ++ [op] } } }

/-- R233: `mgo`: the copied set is checked; the operation is launched and its windows open. -/
def goWord (side : Bool) (s : State) (k : Cmd) (_ st : List Dword) : WordRes :=
  let fs := s.eng.mx.active
  match k.iss.accType with
  | none => eopx k
  | some t =>
    if !fs.ok t || (side && !fs.sideOk t) then eopx k
    else
      let s := s.mxLaunch k (.go fs side) true
      .ok ((s.openWindows k.iss 0 false true fs.writes).openWindows k.iss 0 true false (fs.reads side)) st
/-- R233 `mgo`. -/
def execMgo (a : BitVec 1) (s : State) : Answer := runWord false (popping 0 (goWord (a == 1))) s

/-- R234: `mzero`: nl, lf, nr, rf. -/
def zeroWord (s : State) (k : Cmd) (vs st : List Dword) : WordRes :=
  match vs.map BitVec.toNat, k.iss.accType with
  | [nl, lf, nr, rf], some t =>
    if nr = 0 ∨ nl = 0 ∨ 128 < rf + nr ∨ 512 / t.bytes < lf + nl then eopx k
    else .ok ((s.mxLaunch k (.zero rf nr lf nl) true).openWindows k.iss 0 false true (span rf nr)) st
  | _, _ => eopx k
/-- R234 `mzero`. -/
def execMzero (s : State) : Answer := runWord false (popping 4 zeroWord) s

/-- R235: `mstat`. -/
def statWord (clear : Bool) (s : State) (k : Cmd) (vs st : List Dword) : WordRes :=
  match vs with
  | [row] =>
    if 128 ≤ row.toNat then eopx k
    else .ok ((s.mxLaunch k (.stat row.toNat clear) true).openWindows k.iss 0 false true [row.toNat]) st
  | _ => estk k
/-- R235 `mstat`. -/
def execMstat (c : BitVec 1) (s : State) : Answer := runWord false (popping 1 (statWord (c == 1))) s

/-- R240: a housekeeping word: refused outside machine privilege, its value the engine word (log 32); it is not counted. -/
def housekeeping (kind : MxKind) (word : Dword) (s : State) (k : Cmd) (_ st : List Dword) : WordRes :=
  if k.iss.level ≠ .machine then .fault .priv word else .ok (s.mxLaunch k kind false) st
/-- R240 `msave`. -/
def execMsave (s : State) : Answer := runWord false (popping 0 (housekeeping .save 0x2400)) s
/-- R240 `mload`. -/
def execMload (s : State) : Answer := runWord false (popping 0 (housekeeping .load 0x2500)) s

/-! The save area (R237, R240). -/

/-- The bytes of a field set. -/
def Fields.toBytes (fs : Fields) : List Byte := fs.toList.flatMap fun v => leBytes 4 v.toNat
/-- A field set from its bytes. -/
def Fields.ofBytes (bs : List Byte) : Fields :=
  Vector.ofFn fun (i : Fin 128) => .ofNat 32 (leNat ((bs.drop (4 * i.val)).take 4))

/-- R223: the touched segments, as (row, 128-byte column). -/
def touchedParts (touch : Dword) : List (Nat × Nat) :=
  (List.range 128).flatMap fun r => ((List.range 4).filter fun h => bit touch (r / 8 * 4 + h)).map fun h => (r, h)

/-- R240: the effect of `msave` for a context of a partition, with the failure of a write: where one has no translation or permission none
is made (log 33). -/
def State.saveAcc (s : State) (part ctx : Nat) : State × Option (Cause × Dword) :=
  let at' := s.saveArea part ctx
  let k := s.core
  let mx := s.eng.mx
  let head := leBytes 8 k.actouch.toNat ++ leBytes 8 k.acown.toNat ++ leBytes 8 mx.status.toNat
  let parts : List (Nat × List Byte) := [(at', head), (at' + 0x400, mx.active.toBytes), (at' + 0x600, mx.shadow.toBytes)] ++
    (touchedParts k.actouch).map fun p =>
      (at' + 0x1000 + 512 * p.1 + 128 * p.2, leBytes 128 (bits (cellGet k.acc p.1) (1024 * p.2 + 1023) (1024 * p.2)))
  s.writeParts part parts

/-- R240: the effect of `mload` for a context of a partition. -/
def State.loadAcc (s : State) (part ctx : Nat) : Check State := do
  let at' := s.saveArea part ctx
  let rd (va n : Nat) : Check (List Byte) := deviceRead s s.coherentByte part va n
  let owner ← deviceDword s part (at' + 8)
  if !savedFor owner ctx then .ok (s.claim ctx)
  else
    let touch ← deviceDword s part at'
    let status ← deviceDword s part (at' + 16)
    let active ← rd (at' + 0x400) 512
    let shadow ← rd (at' + 0x600) 512
    let acc ← (touchedParts touch).foldlM (init := s.core.acc) fun m p => do
      let bs ← rd (at' + 0x1000 + 512 * p.1 + 128 * p.2) 128
      let keep : BitVec 4096 := ~~~(.ofNat 4096 ((2 ^ 1024 - 1) * 2 ^ (1024 * p.2)))
      .ok (cellSet p.1 ((cellGet m p.1 &&& keep) ||| .ofNat 4096 (leNat bs * 2 ^ (1024 * p.2))) m)
    .ok { s with
      core := { s.core with acc := acc, actouch := touch, acown := ownerWord ctx }
      eng := { s.eng with mx := { s.eng.mx with
        active := .ofBytes active, shadow := .ofBytes shadow, status := .ofNat 3 status.toNat } } }

/-- R240, R131: a memory fault of `msave` or `mload`: the record with source `mx` and the machine flag, the notice, and the
end by fault of the task of the owner concerned, its launch under STOP; one that has ended and is not counted yet counts as ended by
fault. -/
def State.housekeepingFault (s : State) (iss : Issuer) (ctx : Nat) (c : Cause) (v : Dword) : State :=
  let mark (s : State) (launch core : Nat) : State :=
    ((s.recordFor launch c 1 true core v).notify c v).applyPolicy launch .stop c
  match s.slotOf ctx with
  | some slot =>
    let launch := ((s.ctx slot).map (·.launch)).getD iss.launch
    (mark s launch (s.slotNumber slot)).endTask slot true
  | none =>
    match s.disp.saved.find? (·.ctx == ctx) with
    | some k =>
      let s := mark s k.launch (s.slotNumber iss.slot)
      { s with disp := { s.disp with
        saved := s.disp.saved.filter (·.ctx != ctx)
        ending := s.disp.ending ++ [⟨k.launch, k.walk, k.task, ctx, true, k.claimed⟩] } }
    | none =>
      match s.disp.ending.find? (·.ctx == ctx) with
      | some e =>
        let s := mark s e.launch (s.slotNumber iss.slot)
        { s with disp := { s.disp with ending := s.disp.ending.map fun x => if x.ctx = ctx then { x with byFault := true } else x } }
      | none => mark s iss.launch (s.slotNumber iss.slot)

/-! Completion (R230). -/

/-- R234: the rectangle's segments that it covers wholly, and their bits. -/
def wholeSegs (w rf nr lf nl : Nat) : List Nat :=
  (List.range 64).filter fun g =>
    rf ≤ g / 4 * 8 && g / 4 * 8 + 8 ≤ rf + nr && lf * w ≤ g % 4 * 128 && g % 4 * 128 + 128 ≤ (lf + nl) * w

/-- R234: the effect of `mzero`. -/
def CoreState.zeroRect (k : CoreState) (w rf nr lf nl : Nat) : CoreState :=
  let whole := wholeSegs w rf nr lf nl
  let k := (span rf nr).foldl (fun k r =>
    k.writeLanes r w (((span lf nl).filter fun j => !whole.contains (r / 8 * 4 + j * w / 128)).map (·, 0))) k
  { k with actouch := k.actouch &&& ~~~(.ofNat 64 ((whole.map (2 ^ ·)).sum)) }

/-- R235: the effect of `mstat`. -/
def State.writeStatus (s : State) (row : Nat) (clear : Bool) : State :=
  { s with
    core := s.core.writeLanes row 8 [(0, s.eng.mx.status.toNat)]
    eng := { s.eng with mx := { s.eng.mx with status := if clear then 0 else s.eng.mx.status } } }

/-- R230, R241: the engine's running operation makes its next n updates. -/
def State.mxAdvance (s : State) (n : Nat) : State :=
  match s.eng.mx.ops with
  | op :: rest =>
    match op.kind, op.iss.accType with
    | .go fs side, some ty =>
      let (core, op, st) := runUpdates fs side ty (min n (updatesOf fs side ty - op.pos)) s.core op {}
      { s with core := core, eng := { s.eng with mx := { s.eng.mx with status := s.eng.mx.status ||| st.toBits, ops := op :: rest } } }
    | _, _ => s
  | [] => s

/-- R230, R240: what an operation does as it completes. -/
def State.mxFinish (s : State) (op : MxOp) : State :=
  match op.kind with
  | .go fs side => s.mxAdvance ((op.iss.accType.map (updatesOf fs side)).getD 0)
  | .zero rf nr lf nl => { s with core := s.core.zeroRect ((op.iss.accType.map AccType.bytes).getD 4) rf nr lf nl }
  | .stat row clear => s.writeStatus row clear
  | .save =>
    match s.core.owner with
    | none => s
    | some o => match s.saveAcc op.iss.part o with
      | (s', none) => s'
      | (s', some (c, v)) => s'.housekeepingFault op.iss o c v
  | .load =>
    match s.loadAcc op.iss.part op.iss.ctx with
    | .ok s' => s'
    | .error (c, v) => s.housekeepingFault op.iss op.iss.ctx c v

/-- R414: a save or restore of the accumulator waits for the scrub of a line it would read or that would translate for it. -/
def State.moveAwaits (s : State) (op : MxOp) : Bool :=
  match op.kind with
  | .save => match s.core.owner with
    | some o => waitsScrub (s.saveAcc op.iss.part o).2
    | none => false
  | .load => (s.loadAcc op.iss.part op.iss.ctx).awaits
  | _ => false

/-- R230, R240: the head operation may complete; the writes of `msave` are performed at `.p` before it does. -/
def mxReady (s : State) : Bool :=
  match s.eng.mx.ops with
  | [] => false
  | op :: _ => !s.moveAwaits op && (op.kind != .save || (s.mxFinish op).fab.waiting == s.fab.waiting)

/-- R240: housekeeping is not counted. -/
def MxKind.counted : MxKind → Bool
  | .save | .load => false
  | _ => true

/-- The head operation completes (R230, R49). -/
def mxComplete (s : State) : State :=
  match s.eng.mx.ops with
  | [] => s
  | op :: _ =>
    let s := s.mxFinish op
    let s := { s with eng := { s.eng with mx := { s.eng.mx with ops := s.eng.mx.ops.tail } } }
    if op.kind.counted then s.completeOp 0 op.iss.ctx op.num else s

/-- R230 MX_OPERATION_COMPLETE. -/
def execMxOperationComplete (s : State) : Answer := .next (if mxReady s then mxComplete s else s)

end Sys2Proof.Machine
end

