-- ==== Sys2Proof/Machine/Sync.lean ====
section
/-! DEFINITION. Synchronisation space: blocks, barrier objects and their trees, ring objects, object errors, the pending
table (R318 to R329), and the flits a tree across modules sends (R433, R435). -/

namespace Sys2Proof.Machine

/-- R319, R318: the first byte of a sync block, and the layer whose engine is its home. -/
def blockOf (a : Nat) : Nat := a / 32 * 32
def syncLayer (a : Nat) : Nat := a / 2 ^ 22

/-- A dword of synchronisation SRAM. -/
def State.syncDword (s : State) (a : Nat) : Dword := readDword (cellGet s.sync.sram) a

/-- Dwords written from an address. -/
def State.setSync (s : State) (a : Nat) (ds : List Dword) : State :=
  { s with sync := { s.sync with
    sram := writeBytes ((ds.zipIdx).flatMap fun p => leWrites (a + 8 * p.2) 8 p.1.toNat) s.sync.sram } }

/-- R320: the block of an address is spoiled. -/
def State.spoiledAt (s : State) (a : Nat) : Bool := s.sync.spoiled.any fun d => blockOf d = blockOf a

/-- R326: the conditions on an object's place: its address, the partition's window, its spoil. -/
def State.badPlace (s : State) (part a : Nat) : Bool :=
  decide (Config.syncBytes ≤ a) || !s.inWindow part a || !s.inWindow part (a + 31) || s.spoiledAt a

/-- The partition whose sync window holds an address (R420: windows do not overlap). -/
def State.windowOwner (s : State) (a : Nat) : Nat := ((List.range Config.partCount).find? fun p => s.inWindow p a).getD 0

/-- R322: a well-formed barrier object. -/
structure Barrier where
  lp : Bool
  cp : Bool
  us : Bool
  np : Bool
  phase : Nat
  arr : Nat
  earr : Nat
  bytes : Nat
  ebytes : Nat
  up : Nat
  mod : Nat
  parent : Nat
  deriving DecidableEq, Repr

/-- R322, R326: the object of four dwords; none where an action finds an object error in them. -/
def Barrier.parse (d0 d1 d2 d3 : Dword) : Option Barrier :=
  if bits d0 63 62 ≠ 1 ∨ bits d0 57 32 ≠ 0 ∨ bits d3 52 26 ≠ 0 ∨ bits d3 4 0 ≠ 0 ∨ bits d3 63 62 = 3 ∨ bits d1 31 0 = 0 then none
  else some {
    lp := bit d0 61, cp := bit d0 60, us := bit d0 59, np := bit d0 58, phase := bits d0 31 0
    arr := bits d1 63 32, earr := bits d1 31 0, bytes := bits d2 63 32, ebytes := bits d2 31 0
    up := bits d3 63 62, mod := bits d3 61 53, parent := bits d3 25 5 * 32 }

/-- The barrier object at an address, if its block holds a well-formed one. -/
def State.barrier (s : State) (a : Nat) : Option Barrier :=
  Barrier.parse (s.syncDword a) (s.syncDword (a + 8)) (s.syncDword (a + 16)) (s.syncDword (a + 24))

/-- R326: the barrier object an action of a partition finds; none: an object error. -/
def State.barrierFor (s : State) (part a : Nat) : Option Barrier := if s.badPlace part a then none else s.barrier a

/-- The fields an action changes, written back: dwords 0 to 2. -/
def State.putBarrier (s : State) (a : Nat) (b : Barrier) : State :=
  s.setSync a [
    .ofNat 64 (2 ^ 62 + b.lp.toNat * 2 ^ 61 + b.cp.toNat * 2 ^ 60 + b.us.toNat * 2 ^ 59 + b.np.toNat * 2 ^ 58 + b.phase),
    .ofNat 64 (b.arr * 2 ^ 32 + b.earr), .ofNat 64 (b.bytes * 2 ^ 32 + b.ebytes)]

/-- R323: complete. -/
def Barrier.complete (b : Barrier) : Bool := decide (b.earr ≤ b.arr) && decide (b.ebytes ≤ b.bytes)

/-! The way to other modules. -/

/-- R433: a partition's peer on a module; none: unreachable. -/
def State.peerOf (s : State) (part m : Nat) : Option Nat :=
  let t := (s.part part).ppeer
  let v : BitVec 16 := .ofNat 16 (readLe s.coherentByte (t.toNat + 2 * m) 2)
  if t = 0 ∨ !bit v 15 ∨ bits v 14 4 ≠ 0 then none else some (bits v 3 0)

/-- R412: the management network has fenced a module. -/
def State.moduleFenced (s : State) (m : Nat) : Bool := s.mgmt.peers.any fun p => p.mod = m && p.fenced

/-- R324, R436: a module that can be reached, and the partition's peer there. -/
def State.reachable (s : State) (part m : Nat) : Option Nat :=
  if s.mgmt.linkst = 0 ∨ s.moduleFenced m then none else s.peerOf part m

/-- A flit sent. -/
def State.sendFlit (s : State) (f : Flit) : State := { s with mgmt := { s.mgmt with sent := s.mgmt.sent ++ [f] } }

/-- R434, R435: the tag of a barrier's flit: a sync address and a phase. -/
def barrierTag (a phase : Nat) : Dword := .ofNat 64 (phase * 2 ^ 32 + a % 2 ^ 26)

/-! Ring objects (R327, R328). -/

/-- R327: a well-formed ring object. -/
structure Ring where
  logs : Nat
  tail : Word
  res : Word
  head : Word
  take : Word
  deriving DecidableEq, Repr

def Ring.size (r : Ring) : Nat := 2 ^ r.logs

/-- R327, R326: the ring an action of a partition finds; none: an object error. -/
def State.ring (s : State) (part a : Nat) : Option Ring :=
  let d0 := s.syncDword a
  let d1 := s.syncDword (a + 8)
  let d2 := s.syncDword (a + 16)
  if s.badPlace part a ∨ bits d0 63 62 ≠ 2 ∨ bits d0 61 5 ≠ 0 ∨ 24 < bits d0 4 0 ∨ s.syncDword (a + 24) ≠ 0 then none
  else some ⟨bits d0 4 0, .ofNat 32 (bits d1 63 32), .ofNat 32 (bits d1 31 0), .ofNat 32 (bits d2 63 32),
    .ofNat 32 (bits d2 31 0)⟩

/-- A ring's counts written back. -/
def State.putRing (s : State) (a : Nat) (r : Ring) : State :=
  s.setSync (a + 8) [.ofNat 64 (r.tail.toNat * 2 ^ 32 + r.res.toNat), .ofNat 64 (r.head.toNat * 2 ^ 32 + r.take.toNat)]

/-- R328: x ≼ y. -/
def upTo (x y : Word) : Bool := decide ((y - x).toNat < 2 ^ 31)

/-- R337: `rres` and `rtake`: the first index; none: an object error. -/
def State.reserve (s : State) (part a : Nat) (take : Bool) (n : Nat) : Option (State × Word) :=
  match s.ring part a with
  | none => none
  | some r =>
    let cur := if take then r.take else r.res
    if r.size < n ∨ 2 ^ 31 ≤ (cur + .ofNat 32 n - r.head).toNat then none
    else
      let r' := if take then { r with take := cur + .ofNat 32 n } else { r with res := cur + .ofNat 32 n }
      some (s.putRing a r', cur)

/-- R338: a span waits while its turn has not come. -/
def State.spanTurn (s : State) (p : PendingSpan) : Bool :=
  match s.ring p.iss.part p.ring with
  | none => true
  | some r => (if p.free then r.head else r.tail) == p.s

/-! The pending table (R329). -/

/-- R329, R435: entries in use of a layer's table: spans whose turn has not come, waiting instructions, arrivals and flips that cross
to another die, the remote arrivals counted at its objects, and the posts of `lstep` that wait. -/
def State.entriesAt (s : State) (layer : Nat) : Nat :=
  let waits (c : Option Context) : Nat := match c.bind (·.waiting) with
    | some (.phase a _) | some (.filled a _) | some (.freed a _) => (decide (syncLayer a = layer)).toNat
    | none => 0
  (s.sync.pend.filter fun p => syncLayer p.ring == layer && !s.spanTurn p).length + waits s.core.slot0 + waits s.core.slot1 +
  (s.inflight.filter fun m => match m with
    | .arrive b _ _ (.child a _) => syncLayer a == layer && syncLayer b != layer
    | .flip b a _ _ => syncLayer b == layer && syncLayer a != layer
    | _ => false).length +
  (s.sync.children.filter fun c => c.mod.isSome && syncLayer c.parent == layer).length +
  (s.eng.ll.filter fun l => l.waiting.any fun w => syncLayer w.ring == layer).length

/-- R329: the table of an address's home engine has room. -/
def State.tableRoom (s : State) (a : Nat) : Bool := decide (s.entriesAt (syncLayer a) < Config.pendingEntries)

/-- R329: the spilled entries that still lie in an area, of those of one engine: as many of the youngest as its entries exceed its table
by; an older one has come back into the table (log 98). -/
def State.spillsAt (s : State) (layer : Nat) : List Spill :=
  let mine := s.sync.spills.filter (·.layer == layer)
  mine.drop (mine.length - (s.entriesAt layer - Config.pendingEntries))

/-- The same of every engine. -/
def State.spilled (s : State) : List Spill := (s.sync.spills.map (·.layer)).eraseDups.flatMap s.spillsAt

/-- R329: the lowest slot of a partition's overflow area that holds no entry. -/
def State.freeSpill (s : State) (part : Nat) : Nat :=
  let mine := s.spilled.filter (·.part == part)
  ((List.range (mine.length + 1)).find? fun k => mine.all (·.slot != k)).getD mine.length

/-- R329: the entry of an action about an address: the table's, or 16 bytes written in the partition's overflow area, to be read back
(what they hold is no one's: log 98); none where both are full, there is no area, or it can be neither written nor read (R445). -/
def State.takeEntry (s : State) (part a : Nat) : Option State :=
  if s.tableRoom a then some s
  else
    let area := (s.part part).sovf
    let loge := bits area 4 0
    let k := s.freeSpill part
    let at' := bits area 63 12 * 4096 + 16 * k
    if loge = 0 ∨ 2 ^ loge ≤ k then none
    else match mapBytes s s.coherentByte part .read (span at' 16), s.writeOwn part at' ((List.range 16).map (Config.spillByte s.core.now)) with
      | .ok _, (s', none) => some { s' with sync := { s'.sync with spills := s.spilled ++ [⟨syncLayer a, part, k⟩] } }
      | _, _ => none

/-! Flips and arrivals (R323, R324). -/

/-- R323: a flip is sent to a child, in this package or on another module. One that crosses a die holds an entry of its parent's engine
(R329); where there is none it is an object error, recorded as a child's arrival would be, and the child's flip carries the poison flag
(R326, log 98). One to another module takes the entry that its child's arrival held. -/
def State.sendFlip (s : State) (lp : Bool) (c : ChildArrival) : State :=
  match c.mod with
  | none =>
    let go (lp : Bool) (s : State) : State := { s with inflight := s.inflight ++ [.flip c.parent c.child c.phase lp] }
    if syncLayer c.parent = syncLayer c.child then go lp s
    else match s.takeEntry (s.windowOwner c.parent) c.parent with
      | some s => go lp s
      | none => (go true s).partRecord (s.windowOwner c.child) .syncerr 5 (.ofNat 64 c.parent)
  | some m => s.sendFlit ⟨5, lp, s.mgmt.modid.toNat, m, s.windowOwner c.parent, c.part, barrierTag c.child c.phase, []⟩

/-- R323: flip(o, pp), without the settle that follows it. Of the arrivals counted for the phase that ends the first EARR belong to
it; the children among them are sent the flip. -/
def State.flip (s : State) (a : Nat) (b : Barrier) (pp : Bool) : State :=
  let lp := b.cp || pp
  let s := s.putBarrier a { b with
    phase := (b.phase + 1) % 2 ^ 32, lp := lp, cp := b.np, np := false, us := false
    arr := (b.arr + 2 ^ 32 - b.earr) % 2 ^ 32, bytes := (b.bytes + 2 ^ 32 - b.ebytes) % 2 ^ 32 }
  let mine := s.sync.children.filter (·.parent == a)
  let ends (c : ChildArrival) : Bool := !c.next && decide (c.place < b.earr)
  let rest := (mine.filter fun c => !ends c).map fun c => { c with place := c.place - b.earr, next := false }
  let s := { s with sync := { s.sync with children := s.sync.children.filter (·.parent != a) ++ rest } }
  (mine.filter ends).foldl (fun s c => s.sendFlip lp c) s

/-- R324: the objects above a node in this package and beyond, counted up to the fuel. -/
def State.ancestors : Nat → State → Nat → Nat
  | 0, _, _ => 0
  | n + 1, s, a =>
    match s.barrier a with
    | none => 0
    | some b => if b.up = 0 then 0 else if b.up = 2 then 1 else 1 + s.ancestors n b.parent

/-- R324: the one arrival of a complete child to its parent; none where it cannot be made, and the child flips at once. -/
def State.sendUp (s : State) (a : Nat) (b : Barrier) : Option State :=
  let part := s.windowOwner a
  if 8 ≤ s.ancestors 8 a then none
  else if b.up = 1 then
    (if syncLayer a = syncLayer b.parent then some s else s.takeEntry part a).map fun s =>
      { s with inflight := s.inflight ++ [.arrive b.parent 0 b.cp (.child a b.phase)] }
  else match s.reachable part b.mod with
    | none => none
    | some q => (s.takeEntry part a).map fun s =>
      s.sendFlit ⟨4, b.cp, s.mgmt.modid.toNat, b.mod, part, q, barrierTag b.parent b.phase, leBytes 8 a⟩

/-- R326: the record of an upward arrival that failed, in the partition's fault queue. -/
def State.recordUp (s : State) (child parent : Nat) : State :=
  s.partRecord (s.windowOwner child) .syncerr 5 (.ofNat 64 parent)

/-- R323: settle(o). The fuel bounds the flips one settle makes; every flip takes EARR, at least 1, from ARR. -/
def State.settle : Nat → State → Nat → State
  | 0, s, _ => s
  | n + 1, s, a =>
    match s.barrier a with
    | none => s
    | some b =>
      if !b.complete || b.us then s
      else if b.up = 0 then State.settle n (s.flip a b false) a
      else match (s.putBarrier a { b with us := true }).sendUp a b with
        | some s => s
        | none => State.settle n ((s.flip a b true).recordUp a b.parent) a

/-- R324: a parent's flip reaches a child, which flips; one that finds no barrier object is dropped (log 57). -/
def State.flipChild (s : State) (a : Nat) (poison : Bool) : State :=
  match s.barrier a with
  | none => s
  | some b => if s.spoiledAt a then s else State.settle (b.arr + 1) (s.flip a b poison) a

/-- R435: a flip that came as a flit flips the child only when it names the phase that the child's arrival carried. -/
def State.flipRemote (s : State) (a phase : Nat) (poison : Bool) : State :=
  match s.barrier a with
  | none => s
  | some b => if b.us ∧ b.phase = phase then s.flipChild a poison else s

/-- R323: an arrival counted at a barrier object; none: an object error, and nothing has changed. `child` is the child whose
upward arrival it is, with its place still to be filled in. -/
def State.countArrival (s : State) (part a bytes : Nat) (poison : Bool) (child : Option ChildArrival) : Option State :=
  match s.barrierFor part a with
  | none => none
  | some b =>
    if 2 ^ 32 ≤ b.arr + 1 ∨ 2 ^ 32 ≤ b.bytes + bytes then none
    else
      let b' := { b with
        arr := b.arr + 1, bytes := b.bytes + bytes
        np := b.np || (b.us && poison), cp := b.cp || (!b.us && poison) }
      let s := s.putBarrier a b'
      let s := match child with
        | none => s
        | some c => { s with sync := { s.sync with children := s.sync.children ++ [{ c with place := b.arr, next := b.us }] } }
      some (State.settle (b.arr + 2) s a)

/-- R51, R352: bytes of an operation counted before its arrival; none: an object error, left for the arrival to meet. -/
def State.countBytes (s : State) (part a bytes : Nat) (poison : Bool) : Option State :=
  match s.barrierFor part a with
  | none => none
  | some b =>
    if 2 ^ 32 ≤ b.bytes + bytes then none
    else
      let b' := { b with bytes := b.bytes + bytes, np := b.np || (b.us && poison), cp := b.cp || (!b.us && poison) }
      some (State.settle (b.arr + 1) (s.putBarrier a b') a)

/-- R326, R410: an event cause for a thread's own action: its record, then the policy's effect on its context where it is
resident, on its saved context, or on its launch. -/
def State.threadEvent (s : State) (part launch ctx : Nat) (slot : Bool) (c : Cause) (v : Dword) : State :=
  match s.slotOf ctx with
  | some sl => s.asyncFault sl c v
  | none =>
    match s.launch launch with
    | none => s.partRecord part c 0 v
    | some _ =>
      let s := s.recordFor launch c 0 false (s.slotNumber slot) v
      match s.policyOf launch with
      | .trap => s.holdSaved ctx ⟨c, 0, v, .task⟩
      | pol => s.applyPolicy launch pol c

/-- R411: the context whose store it was. -/
def Storer.runs (w : Storer) (c : Context) : Bool :=
  c.ctxid.toNat == w.ctx && c.launch == w.launch && c.walk == w.walk && c.taskNo.toNat == w.task

/-- The same of one saved, or restored by another core. -/
def Storer.saved (w : Storer) (k : SavedCtx) : Bool := k.ctx == w.ctx && k.launch == w.launch && k.walk == w.walk && k.task == w.task

/-- R411, R414: MEMERR or HOSTLOST of bytes that a task of the core stored: its record, and the policy's effect on its context where it
is resident, on its saved context, or on its launch; where its task has ended or its launch retired, the partition's record. -/
def State.storerEvent (s : State) (w : Storer) (slot : Bool) (c : Cause) (v : Dword) : State :=
  if s.core.slot0.any w.runs then s.asyncFault false c v
  else if s.core.slot1.any w.runs then s.asyncFault true c v
  else
    let away := (s.disp.saved ++ s.disp.elsewhere).any w.saved
    let ends := s.disp.ending.any fun e => e.ctx == w.ctx && e.launch == w.launch && e.walk == w.walk && e.task == w.task
    if (s.launch w.launch).isNone || !(away || ends) then s.partRecord (w.ctx / 1024) c 0 v
    else
      let s := s.recordFor w.launch c 0 false (s.slotNumber slot) v
      match s.policyOf w.launch with
      | .trap => if away then s.holdSaved w.ctx ⟨c, 0, v, .task⟩ else s
      | pol => s.applyPolicy w.launch pol c

/-- The partition whose rules an arrival answers to. -/
def State.arrivalPart (s : State) : ArrSrc → Nat
  | .instr _ launch _ => s.partOf launch
  | .engine p _ _ _ => p
  | .doneb launch => s.partOf launch
  | .evbar p => p
  | .child a _ => s.windowOwner a
  | .remote _ _ _ p => p
  | .other p _ _ => p

/-- R326: an object error of an action of another core's context: its record, and the policy's effect on its launch; an entry of
that context is that core's. -/
def State.awayError (s : State) (part launch src core : Nat) (v : Dword) : State :=
  match s.launch launch with
  | some _ => (s.recordFor launch .syncerr src false core v).applyPolicy launch (s.policyOf launch) .syncerr
  | none => s.partRecord part .syncerr src v

/-- R326: an object error of an arrival, settled by its source. -/
def State.arrivalError (s : State) (a : Nat) (src : ArrSrc) : State :=
  let v : Dword := .ofNat 64 a
  match src with
  | .instr slot launch ctx => s.threadEvent (s.partOf launch) launch ctx slot .syncerr v
  | .engine p e launch core => s.awayError p launch (e + 1) core v
  | .doneb launch => s.recordFor launch .syncerr 0xFF false 0xFFFFFFFF v
  | .evbar p => s.partRecord p .syncerr 0xFF v
  | .child c _ =>
    (match s.barrier c with
      | some b => State.settle (b.arr + 1) (s.flip c b true) c
      | none => s).recordUp c a
  | .remote m c phase p =>
    let s := s.partRecord p .syncerr 5 v
    (match s.reachable p m with
      | some q => s.sendFlit ⟨5, true, s.mgmt.modid.toNat, m, p, q, barrierTag c phase, []⟩
      | none => s)
  | .other p launch core => s.awayError p launch 0 core v

/-- R323, R326: an arrival reaches the object's home engine. -/
def State.arrive (s : State) (a bytes : Nat) (poison : Bool) (src : ArrSrc) : State :=
  let part := s.arrivalPart src
  let child : Option ChildArrival := match src with
    | .child c phase => some ⟨a, c, none, part, phase, 0, false⟩
    | .remote m c phase p => some ⟨a, c, some m, (s.peerOf p m).getD 0, phase, 0, false⟩
    | _ => none
  let room : Option State := match src with
    | .remote _ _ _ _ => s.takeEntry part a
    | _ => some s
  match room.bind fun s => s.countArrival part a bytes poison child with
  | some s' => s'
  | none => s.arrivalError a src

/-- R51: the arrival of an engine operation on its barrier operand. -/
def State.engineArrive (s : State) (iss : Issuer) (eng : Nat) (bar : Bar) (bytes : Nat) (poison : Bool) : State :=
  match bar with
  | none => s
  | some a =>
    match s.countArrival iss.part a bytes poison none with
    | some s' => s'
    | none => s.engineFault iss eng .syncerr (.ofNat 64 a)

/-! Stores to synchronisation space (R320, R323). -/

/-- R320: a single word stored to a spoiled dword is dropped. -/
def State.syncDropped (s : State) (bs : List (Nat × Byte)) : Bool :=
  bs.length < 8 && s.sync.spoiled.any fun d => bs.any fun p => p.1 / 8 * 8 = d

/-- R320, R323: a word or dword stored: a whole dword clears its spoil, and a store that leaves a well-formed barrier object
settles it in the same action. -/
def State.syncWrite (s : State) (bs : List (Nat × Byte)) : State :=
  if s.syncDropped bs then s
  else
    let s := { s with sync := { s.sync with
      sram := writeBytes bs s.sync.sram
      spoiled := s.sync.spoiled.filter fun d => !((span d 8).all fun a => bs.any (·.1 == a)) } }
    ((bs.map (blockOf ·.1)).eraseDups).foldl (fun s a =>
      match s.barrier a with
      | some b => if s.spoiledAt a then s else State.settle (b.arr + 1) s a
      | none => s) s

/-! Spans (R337, R338). -/

/-- R338: the span lies behind the count it moves. -/
def State.spanBehind (s : State) (part ring : Nat) (free : Bool) (first : Word) : Bool :=
  match s.ring part ring with
  | none => true
  | some r =>
    let cur := if free then r.head else r.tail
    upTo first cur && first != cur

/-- R338: a span applied in its turn; none: an object error. -/
def State.applySpan (s : State) (p : PendingSpan) : Option State :=
  match s.ring p.iss.part p.ring with
  | none => none
  | some r =>
    let goal := p.s + .ofNat 32 p.n
    if !upTo goal (if p.free then r.take else r.res) ∨ r.size < p.n then none
    else some (s.putRing p.ring (if p.free then { r with head := goal } else { r with tail := goal }))

/-- R339: the conditions of the wait and test forms, for a span ending before `to`. -/
def Ring.filled (r : Ring) (goal : Word) : Bool := upTo goal r.tail
def Ring.freed (r : Ring) (goal : Word) : Bool := decide ((goal - r.head).toNat ≤ r.size) || !upTo r.head goal

/-! Atomics (R332 to R334). -/

/-- R332 to R334: the new value, of the given width in bits, and whether NV is raised; none: nothing is stored. -/
def Atom.apply (op : Atom) (w : Nat) (old v e : Nat) : Option Nat × Bool :=
  let sg (x : Nat) : Int := readInt true w x
  let int (n : Nat) : Option Nat × Bool := (some (n % 2 ^ w), false)
  match op with
  | .swp => int v
  | .add => int (old + v)
  | .and => int (Nat.land old v)
  | .or => int (Nat.lor old v)
  | .xor => int (Nat.xor old v)
  | .min => int (if sg old ≤ sg v then old else v)
  | .max => int (if sg old ≤ sg v then v else old)
  | .minn => int (Nat.min old v)
  | .maxn => int (Nat.max old v)
  | .cas => (if old = e then some v else none, false)
  | .fadd =>
    let f := if w = 64 then f64 else f32
    let (r, bad) := addX (f.decode old) (f.decode v)
    (some (f.encode .rne r).1, bad.nv)

end Sys2Proof.Machine
end

