-- ==== Sys2Proof/Machine/TileFetch.lean ====
section
/-! DEFINITION. The tile fetch unit (R244 to R260): geometry, checks, placement, pins, releases. -/

namespace Sys2Proof.Machine

/-! Geometry (R245, R247). -/

/-- R245. -/
structure FetchGeo where
  srow : Nat
  drow : Nat
  wd : Nat
  swz : Bool
  column : Bool
  mode : Nat
  nb : Nat
  rows : Nat
  stride : Nat
  deriving DecidableEq, Repr

/-- R245: the fields of a geometry value. -/
def FetchGeo.parse (g : Dword) : FetchGeo where
  srow := bits g 63 54; drow := bits g 53 44; wd := bits g 43 40; swz := bit g 39; column := bit g 38; mode := bits g 37 36
  nb := bits g 35 25 + 1; rows := bits g 24 16 + 1; stride := bits g 15 0

/-- R245: the destination type of a widening fetch. -/
def FetchGeo.wide (g : FetchGeo) : Option Fmt :=
  match g.wd with
  | 8 => some f64 | 9 => some f32 | 10 => some f16 | 11 => some bf16 | 12 => some e4m3 | 13 => some e5m2
  | _ => none

/-- R247: element bits of the raw column port. -/
def FetchGeo.rawBits (g : FetchGeo) : Nat := 4 * 2 ^ g.wd

/-- R247: the conditions of the popped values; `tile` for the conditions on DROW. -/
def FetchGeo.ok (g : FetchGeo) (tile : Bool) : Bool :=
  let fits (last : Nat) : Bool := !tile || g.drow + last ≤ 1023
  match g.mode with
  | 3 => false
  | 2 =>
    !g.swz && (match g.wide with
      | none => false
      | some f =>
        if g.column then g.rows * f.width ≤ 2048 && fits (g.nb - 1) else g.nb * f.width ≤ 2048 && fits (g.rows - 1))
  | m =>
    g.nb ≤ 256 && (!g.swz || ((g.nb == 128 || g.nb == 256) && g.stride % 128 == 0)) && (m == 0 || g.wd == 0) &&
    (if g.column then
      g.wd ≤ 4 && g.nb * 8 % g.rawBits == 0 && g.rows * g.rawBits ≤ 2048 && fits (g.nb * 8 / g.rawBits - 1)
    else g.wd == 0 && fits (g.rows - 1))

/-- R249, R160: the byte offset of memory row k, byte j of a raw fetch. -/
def FetchGeo.mem (g : FetchGeo) (off k j : Nat) : Nat :=
  off + k * g.stride + (if g.swz then Nat.xor (j / 16) (k % 8) * 16 + j % 16 else j)

/-- The elements of memory row k of a stored fetch. -/
def FetchGeo.elems (g : FetchGeo) (off k : Nat) : List Nat := span (off + k * g.stride) g.nb

/-! Forms (R245). -/

/-- R245: what a fetch makes of its page. -/
inductive FetchForm where
  | raw
  | split (pf : PageFmt)
  | widen (pf : PageFmt) (goal : Fmt)
  deriving DecidableEq, Repr

/-- R245, R248: the form for the format of BASE's page; none: FMTBAD. -/
def FetchGeo.form (g : FetchGeo) (fmt : Nat) : Option FetchForm :=
  if g.mode = 0 then some .raw
  else match PageFmt.ofCode fmt, g.mode, g.wide with
    | some .raw, 1, _ => some .raw
    | some .raw, _, _ => none
    | some pf, 1, _ => some (.split pf)
    | some pf, _, some f => some (.widen pf f)
    | _, _, _ => none

/-- The element lies at or past ELEN. -/
def pastLen (elen i : Nat) : Bool := elen != 0 && decide (elen ≤ i)

/-- R248: the byte offsets, from BASE, that memory row k needs. A padded element's bytes are not read (R251, R83). -/
def rowBytes (form : FetchForm) (g : FetchGeo) (elen off k : Nat) : List Nat :=
  match form with
  | .raw => (List.range g.nb).map (g.mem off k)
  | .widen pf _ => ((g.elems off k).filter (!pastLen elen ·)).flatMap pf.bytesOf
  | .split pf =>
    let is := (g.elems off k).filter (!pastLen elen ·)
    is.flatMap pf.bytesOf ++
      (if pf = .nq4 then ((is.map (· / 256)).eraseDups).flatMap fun j =>
          ((List.range 4).filter fun b => !pastLen elen (256 * j + 64 * b)).map fun b => 136 * j + 4 + b
        else [])

/-- R219, R248: the unit U of a split row's length, the unit V of its start, and E(F). -/
def splitUnits : PageFmt → Nat × Nat × Nat
  | .block e l _ => (l, l, 2048 / e.width)
  | .nq4 => (64, 256, 512)
  | _ => (64, 64, 1024)

/-- R248: the conditions of a split fetch. -/
def splitOk (pf : PageFmt) (g : FetchGeo) (elen off : Nat) : Bool :=
  let (u, v, e) := splitUnits pf
  !g.column && !g.swz && g.nb ≤ e && g.nb % u == 0 && ((List.range g.rows).all fun k => (off + k * g.stride) % v == 0) &&
  g.srow + (g.rows - 1) ≤ 1023 && (pf != .l8 || elen % 8 == 0)

/-! Checks (R248). -/

/-- What the checks of a fetch find. -/
structure FetchPlan where
  handle : Handle
  fmt : Nat
  leaves : List Leaf
  lines : List Nat
  deriving DecidableEq, Repr

/-- Ascending, without repeats. -/
def sortedNats (as : List Nat) : List Nat := (sortAddr (as.eraseDups.map fun a => (a, ()))).map (·.1)

/-- R248: the raw checks: bounds of the whole span, the space, translation and permission. -/
def checkRawFetch (s : State) (i : Issuer) (slot : Nat) (off : Dword) (g : FetchGeo) (h : Handle) : Check FetchPlan := do
  let rd := s.byteUnder (some i.ctx)
  let ac := s.accessOf i
  checkBound s ac h slot off ((g.rows - 1) * g.stride + g.nb)
  if h.space ≠ .global then failed .rperm (h.va off)
  else
    let offs := (List.range g.rows).flatMap fun k => (List.range g.nb).map (g.mem off.toNat k)
    let (as, ls) ← mapBytes s rd ac.part .read (offs.map (h.base + ·))
    .ok ⟨h, 0, ls, sortedNats ((linesOf as).filter (!inFrames ·))⟩

/-- R248: a fetch's checks, in their order; its walks see the stores of its context still on their way to the home (R403). -/
def checkFetch (s : State) (i : Issuer) (slot : Nat) (off : Dword) (g : FetchGeo) : Check FetchPlan := do
  let ac := s.accessOf i
  let rd := s.byteUnder (some i.ctx)
  let h ← readHandle s rd ac slot ((i.handles[slot]?).getD 0).toNat off
  if g.mode = 0 then checkRawFetch s i slot off g h
  else if h.space ≠ .global then failed .rperm (h.va off)
  else
    let leaf ← mapOne s rd ac.part .none h.base
    let bad : Check FetchPlan := failed .fmtbad (.ofNat 64 leaf.page)
    match g.form leaf.fmt, leaf.readable with
    | some .raw, _ => checkRawFetch s i slot off g h
    | _, false => failed .rperm (.ofNat 64 h.base)
    | none, true => bad
    | some form, true =>
      let offs := ((List.range g.rows).flatMap fun k => rowBytes form g h.elen off.toNat k).eraseDups
      match offs.find? fun o => h.bound < o + 1 with
      | some o => failed .bound (boundValue slot (.ofNat 64 o))
      | none =>
        let (as, ls) ← mapBytes s rd ac.part .read (offs.map (h.base + ·))
        match ls.find? fun l => l.fmt ≠ leaf.fmt with
        | some l => failed .fmtbad (.ofNat 64 l.page)
        | none =>
          let good := match form with
            | .split pf => splitOk pf g h.elen off.toNat
            | _ => h.tstype != 3
          if good then .ok ⟨h, leaf.fmt, leaf :: ls, sortedNats ((linesOf as).filter (!inFrames ·))⟩ else bad

/-! Placement (R249 to R252). -/

/-- Bits of a wide row replaced. -/
def setRowBits {w : Nat} (r : BitVec w) (lo n v : Nat) : BitVec w :=
  (r &&& ~~~(.ofNat w ((2 ^ n - 1) * 2 ^ lo))) ||| .ofNat w (v % 2 ^ n * 2 ^ lo)

/-- A place of the tile file written: row, first bit, bits, value. -/
structure TileBits where
  row : Nat
  lo : Nat
  n : Nat
  v : Nat
  deriving DecidableEq, Repr

/-- R249: what memory row k of a raw fetch writes, its bytes read by offset. -/
def rawPlaces (g : FetchGeo) (off k : Nat) (rd : Nat → Nat) : List TileBits :=
  let byte (j : Nat) : Nat := rd (g.mem off k j)
  if !g.column then (List.range g.nb).map fun j => ⟨g.drow + k, 8 * j, 8, byte j⟩
  else if g.wd = 0 then (List.range (2 * g.nb)).map fun e => ⟨g.drow + e, 4 * k, 4, nibble (byte (e / 2)) e⟩
  else
    let w := g.rawBits / 8
    (List.range (g.nb / w)).map fun e => ⟨g.drow + e, 8 * w * k, 8 * w, leNat ((span (e * w) w).map fun j => .ofNat 8 (byte j))⟩

/-- R250, R251: the code of element i of a split fetch. -/
def splitCode (pf : PageFmt) (elen i : Nat) (rd : Nat → Nat) : Nat :=
  match pf with
  | .nq4 => if pastLen elen i then 7 else nibble (rd (pf.codeOffset i)) i
  | .block e _ _ =>
    if pastLen elen i then 0 else if e.width = 4 then nibble (rd (pf.codeOffset i)) i else rd (pf.codeOffset i)
  | _ => if pastLen elen i then 0 else rd (pf.codeOffset i) + 256 * rd (pf.codeOffset i + 1)

/-- R250, R251: what memory row k of a split fetch writes. -/
def splitPlaces (pf : PageFmt) (g : FetchGeo) (elen off k : Nat) (rd : Nat → Nat) : List TileBits :=
  let i0 := off + k * g.stride
  let starts (u : Nat) : List Nat := (List.range g.nb).filter (· % u == 0)
  let kept (i v : Nat) : Nat := if pastLen elen i then 0 else v
  match pf with
  | .block e l _ =>
    ((List.range g.nb).map fun n => ⟨g.drow + k, n * e.width, e.width, splitCode pf elen (i0 + n) rd⟩) ++
    (starts l).map fun n => ⟨g.srow + k, 8 * (n / l), 8, kept (i0 + n) (rd (scaleOffset e l ((i0 + n) / l)))⟩
  | .nq4 =>
    ((List.range g.nb).map fun n => ⟨g.drow + k, 4 * n, 4, splitCode pf elen (i0 + n) rd⟩) ++
    (starts 256).flatMap fun n =>
      let j := (i0 + n) / 256
      ((List.range 4).map fun b => (⟨g.srow + k, 64 * (n / 256) + 8 * b, 8, kept (256 * j) (rd (136 * j + b))⟩ : TileBits)) ++
      (List.range 4).map fun b => ⟨g.srow + k, 64 * (n / 256) + 32 + 8 * b, 8, kept (256 * j + 64 * b) (rd (136 * j + 4 + b))⟩
  | _ =>
    ((starts 8).map fun n => ⟨g.drow + k, 16 * (n / 8), 16, splitCode pf elen (i0 + n) rd⟩) ++
    (starts 64).map fun n =>
      ⟨g.srow + k, 8 * (n / 64), 8, kept (i0 + n) (rd ((i0 + n) / 1024 * 272 + (i0 + n) / 64 % 16))⟩

/-- R252: what memory row k of a widening fetch writes. -/
def widenPlaces (pf : PageFmt) (goal : Fmt) (T : XVal) (g : FetchGeo) (elen off k : Nat) (rd : Nat → Nat) : List TileBits :=
  (List.range g.nb).map fun n =>
    let i := off + k * g.stride + n
    let x := if pastLen elen i then XVal.zero else pf.decodeElem T rd i
    let v := (goal.encode .rne x).1
    if g.column then ⟨g.drow + n, k * goal.width, goal.width, v⟩ else ⟨g.drow + k, n * goal.width, goal.width, v⟩

/-- The form of an accepted fetch. -/
def Fetch.form (f : Fetch) : FetchForm := ((FetchGeo.parse f.g).form f.fmt).getD .raw

/-- What memory row k of a fetch writes. -/
def Fetch.places (f : Fetch) (k : Nat) (rd : Nat → Nat) : List TileBits :=
  let g := FetchGeo.parse f.g
  match f.form with
  | .raw => rawPlaces g f.off k rd
  | .split pf => splitPlaces pf g f.elen f.off k rd
  | .widen pf goal => widenPlaces pf goal (tensorScale f.tstype f.tscale) g f.elen f.off k rd

/-- The physical address of a byte offset of a fetch, by the pages its checks found. -/
def Fetch.phys (f : Fetch) (o : Nat) : Nat :=
  let va := f.base + o
  match f.pages.find? fun p => p.1 ≤ va ∧ va < p.1 + p.2.1 with
  | some p => p.2.2 + (va - p.1)
  | none => va

/-! Words (R246, R253, R256). -/

/-- The fetches of a context that hold pins. -/
def State.pinning (s : State) (ctx : Nat) : Nat :=
  (s.eng.fetches.filter fun f => f.iss.ctx = ctx && !f.warm && f.stage != .waiting).length

/-- R253: a pin taken on a line: every word of it registered to a core goes home. -/
def State.pinLine (s : State) (line : Nat) : State :=
  let ws := span (line / 4) 32
  let s := ws.foldl State.surrender s
  { s with fab := { s.fab with owners := s.fab.owners.filter fun o => !ws.contains o.1 } }

/-- The virtual address of a physical line of a fetch. -/
def Fetch.virtual (f : Fetch) (line : Nat) : Nat :=
  ((f.pages.find? fun p => p.2.2 ≤ line && line < p.2.2 + p.2.1).map fun p => p.1 + (line - p.2.2)).getD 0

/-- R244, R275: the lines a fetch reads brought into their slices; as their policy and pool have it. -/
def State.bringFetched (s : State) (f : Fetch) : State :=
  f.lines.foldl (fun s l => s.bringIn (s.placing f.iss.part f.iss.launch f.policy (s.inPool f.iss.part (f.virtual l))) l) s

/-- R255: a fetch gives up its pins, and its operands-consumed arrival is added. -/
def State.releaseFetch (s : State) (f : Fetch) : State :=
  let s := { s with eng := { s.eng with fetches := s.eng.fetches.erase f } }.drainWaiting
  match f.ev with
  | some a => s.engineArrive f.iss 1 (some a) 0 false
  | none => s

/-- R243, R260: the tile rows of a fetch. -/
def FetchGeo.rowsWritten (g : FetchGeo) (form : FetchForm) : List Nat :=
  let n := match form with
    | .raw => if g.column then g.nb * 8 / g.rawBits else g.rows
    | .split _ => g.rows
    | .widen _ _ => if g.column then g.nb else g.rows
  span g.drow n ++ (match form with | .split _ => span g.srow g.rows | _ => [])

/-- R248, R253: an accepted fetch. -/
def FetchPlan.fetch (p : FetchPlan) (iss : Issuer) (num : Nat) (g off : Dword) (rel : Option Word) (ev : Option Nat)
    (warm : Bool) (stage : FetchStage) : Fetch :=
  ⟨iss, num, g, off.toNat, p.handle.base, p.handle.elen, p.fmt, p.handle.tstype, p.handle.tscale, p.handle.policy,
    p.leaves.map fun l => (l.page, l.size, l.frame), rel, ev, warm, stage, false, p.lines⟩

/-- R258: memory rows read before the first that needs a marked line, and that line's fault. -/
def Fetch.firstBad (f : Fetch) (s : State) : Nat × Option (Cause × Dword) :=
  let g := FetchGeo.parse f.g
  (List.range g.rows).foldl (fun r k =>
    match r.2 with
    | some _ => r
    | none =>
      match (rowBytes f.form g f.elen f.off k).findSome? fun o => (s.meets (f.phys o)).map (·, o) with
      | some (c, o) => (k, some (c, .ofNat 64 (lineOf (f.base + o))))
      | none => (k + 1, none)) (0, none)

/-- R257, R258: an `fwarm` completes. -/
def State.endWarm (s : State) (f : Fetch) : State :=
  let s' := s.completeOp 1 f.iss.ctx f.num
  let s' := { s' with eng := { s'.eng with fetches := s'.eng.fetches.erase f } }
  match (f.firstBad s).2 with
  | some (c, v) => s'.engineFault f.iss 1 c v
  | none => s'

/-- R247, R248, R253: `fget` and `fwarm`. A fetch that a check of R248 ends completes at once and gives its arrival (log 35);
it takes its pins now, unless sixteen fetches of its context hold theirs; an `fwarm` under no-LLC completes at once (R257). -/
def fetchWord (warm rel ev : Bool) (slot : Nat) (s : State) (k : Cmd) (vs st : List Dword) : WordRes :=
  let off := vs.headD 0
  let gv := (vs.drop 1).headD 0
  let g := FetchGeo.parse gv
  let relv : Option Word := if rel then some (.ofNat 32 ((vs.drop 2).headD 0).toNat) else none
  let bar := (vs.drop (if rel then 3 else 2)).headD 0
  let evv : Option Nat := if ev then some bar.toNat else none
  if !g.ok (!warm) || (ev && (bits bar 4 0 ≠ 0 || bits bar 63 26 ≠ 0)) then eopx k
  else match checkFetch s k.iss slot off g with
    | .error (.none, _) => .wait
    | .error (c, v) =>
      let s := (s.instantOp 1 k.iss.ctx).engineFault k.iss 1 c v
      .ok (match evv with
        | some a => s.engineArrive k.iss 1 (some a) 0 false
        | none => s) st
    | .ok p =>
      if warm ∧ p.handle.policy = .noLlc ∧ s.awaitsScrub p.lines then .wait else
      let num := s.nextNum 1 k.iss.ctx
      let full := 16 ≤ s.pinning k.iss.ctx
      let f := p.fetch k.iss num gv off relv evv warm (if warm || full then .waiting else .pinned)
      let s := (s.setEngCtx (s.engCtx 1 k.iss.ctx).launchOp).holdLeaves k.iss.part p.leaves
      let s := if warm || full then s else p.lines.foldl State.pinLine s
      let s := { s with eng := { s.eng with fetches := s.eng.fetches ++ [f] } }
      .ok (if warm then (if f.policy = .noLlc then (s.bringFetched f).endWarm f else s) else s.openWindows k.iss 1 true true (g.rowsWritten f.form)) st

/-- R246 `fget`. -/
def execFget (e r : BitVec 1) (h : BitVec 4) (s : State) : Answer :=
  runWord false (popping (2 + r.toNat + e.toNat) (fetchWord false (r == 1) (e == 1) h.toNat)) s

/-- R246 `fwarm`. -/
def execFwarm (h : BitVec 4) (s : State) : Answer := runWord false (popping 2 (fetchWord true false false h.toNat)) s

/-- R256: a fetch named by `frel` or `fdrop`: released where it has completed, else as soon as it does. -/
def State.dropFetch (s : State) (f : Fetch) : State :=
  if f.warm then s
  else if f.stage = .written then s.releaseFetch f
  else { s with eng := { s.eng with fetches := s.eng.fetches.map fun o => if o = f then { o with dropped := true } else o } }

/-- R256: `frel`. -/
def relWord (s : State) (k : Cmd) (vs st : List Dword) : WordRes :=
  let n : Word := .ofNat 32 (vs.headD 0).toNat
  .ok (match s.eng.fetches.find? fun f => f.iss.ctx = k.iss.ctx && .ofNat 32 (f.num + 1) == n with
    | some f => s.dropFetch f
    | none => s) st

/-- R246 `frel`. -/
def execFrel (s : State) : Answer := runWord false (popping 1 relWord) s

/-- R256: `fdrop`. -/
def dropWord (s : State) (k : Cmd) (_ st : List Dword) : WordRes :=
  .ok ((s.eng.fetches.filter (·.iss.ctx == k.iss.ctx)).foldl State.dropFetch s) st

/-- R246 `fdrop`. -/
def execFdrop (s : State) : Answer := runWord false (popping 0 dropWord) s

/-! Events. -/

/-- The first fetch of a context at a stage. -/
def State.fetchAt (s : State) (ctx : Nat) (warm : Bool) (stage : FetchStage) : Option Fetch :=
  s.eng.fetches.find? fun f => f.iss.ctx = ctx && f.warm == warm && f.stage == stage

/-- A fetch replaced in its place. -/
def State.putFetch (s : State) (f f' : Fetch) : State :=
  { s with eng := { s.eng with fetches := s.eng.fetches.map fun o => if o = f then f' else o } }

/-- R253: a fetch waits for pins and may have them. -/
def pinsReady (ctx : Nat) (s : State) : Bool := (s.fetchAt ctx false .waiting).isSome && decide (s.pinning ctx < 16)

/-- R253: it takes them. -/
def takePins (ctx : Nat) (s : State) : State :=
  match s.fetchAt ctx false .waiting with
  | none => s
  | some f => (f.lines.foldl State.pinLine s).putFetch f { f with stage := .pinned }

/-- R253 FETCH_PINS_TAKEN. -/
def execFetchPinsTaken (ctx : Nat) (s : State) : Answer := .next (if pinsReady ctx s then takePins ctx s else s)

/-- R249 to R253: the tile file after the first n memory rows of a fetch are written: a byte is the home's, under the issuing context's
own stores. -/
def Fetch.fill (f : Fetch) (s : State) (n : Nat) : Cells 2048 :=
  let rd (o : Nat) : Nat := (s.byteUnder (some f.iss.ctx) (f.phys o)).toNat
  ((List.range n).flatMap fun k => f.places k rd).foldl (fun t p => cellSet p.row (setRowBits (cellGet t p.row) p.lo p.n p.v) t)
    s.core.tile

/-- R257, R258, R255: the oldest pinned fetch of a context writes its rows and completes; it releases now when it ends by
fault, has no REL, or has been named. -/
def finishFetch (ctx : Nat) (s : State) : State :=
  match s.fetchAt ctx false .pinned with
  | none => s
  | some f =>
    let (n, bad) := f.firstBad s
    let s := { s with core := { s.core with tile := f.fill s n } }
    let s := (s.bringFetched f).completeOp 1 ctx f.num
    let f' := { f with stage := .written }
    let s := s.putFetch f f'
    match bad with
    | some (c, v) => (s.engineFault f.iss 1 c v).releaseFetch f'
    | none => if f.rel.isNone ∨ f.dropped then s.releaseFetch f' else s

/-- R255, R414: a pinned fetch may complete: no line of its reads awaits a scrub. -/
def fetchCompleteReady (ctx : Nat) (s : State) : Bool := (s.fetchAt ctx false .pinned).any fun f => !s.awaitsScrub f.lines

/-- R257 FETCH_COMPLETE. -/
def execFetchComplete (ctx : Nat) (s : State) : Answer :=
  .next (if fetchCompleteReady ctx s then finishFetch ctx s else s)

/-- R255: the fetch has written its last row, and its context's `mx` number covers C. -/
def Fetch.mayRelease (f : Fetch) (s : State) : Bool :=
  f.stage == .written && (f.dropped || (match f.rel with
    | some c => upTo c (s.engCtx 0 f.iss.ctx).seq
    | none => true))

/-- The completed fetch of a context and number. -/
def State.fetchNum (s : State) (ctx num : Nat) : Option Fetch :=
  s.eng.fetches.find? fun f => f.iss.ctx = ctx && f.num == num && !f.warm && f.mayRelease s

/-- R255 FETCH_RELEASE. -/
def execFetchRelease (ctx num : Nat) (s : State) : Answer :=
  .next (match s.fetchNum ctx num with
    | some f => s.releaseFetch f
    | none => s)

/-- R257: the oldest `fwarm` of a context brings its lines in, and completes once every one is present. -/
def finishWarm (ctx : Nat) (s : State) : State :=
  match s.fetchAt ctx true .waiting with
  | none => s
  | some f =>
    let s := s.bringFetched f
    if f.lines.all fun l => s.fab.llc.any (·.line == l) then s.endWarm f else s

/-- R257, R414: there is one, and no line of its reads awaits a scrub. -/
def fwarmReady (ctx : Nat) (s : State) : Bool := (s.fetchAt ctx true .waiting).any fun f => !s.awaitsScrub f.lines

/-- R257 FWARM_COMPLETE. -/
def execFwarmComplete (ctx : Nat) (s : State) : Answer :=
  .next (if fwarmReady ctx s then finishWarm ctx s else s)

end Sys2Proof.Machine
end

