-- ==== Sys2Proof/Machine/Adapter.lean ====
section
/-! DEFINITION. The adapter translation unit (R269 to R287): tables, actions and records. The Lamplighter performs the same
actions (R288). -/

namespace Sys2Proof.Machine

/-! Spots: bytes that an operation's checks have found. -/

/-- The bytes a check found, kept for the operation. -/
def Spot.of (sp : Space) (base : Nat) (ls : List Leaf) : Spot := ⟨sp, base, ls.map fun l => (l.page, l.size, l.frame)⟩

/-- The address of byte o of a spot in its space. -/
def Spot.addr (p : Spot) (o : Nat) : Nat :=
  let va := p.base + o
  match p.space with
  | .global | .code => match p.pages.find? fun q => q.1 ≤ va ∧ va < q.1 + q.2.1 with
    | some q => q.2.2 + (va - q.1)
    | none => va
  | _ => va

/-- Writes of bytes from byte o of a spot. -/
def Spot.writes (p : Spot) (o : Nat) (bs : List Byte) : List (Nat × Byte) := ((span o bs.length).map p.addr).zip bs

/-- R254, R398, R51: a write to some of n bytes from byte o would wait; in host memory, for a line the device holds exclusive. -/
def State.spotWaits (s : State) (p : Spot) (o n : Nat) : Bool :=
  p.space.memory == .global && (span o n).any fun i => s.countedWaits (p.addr i)

/-! Tables (R269 to R273). -/

/-- R269. -/
structure AdDesc where
  table : Nat
  count : Nat
  state : Nat
  tenants : Nat
  tenantWords : Nat
  /-- Raw and NQ4 pools: address, pages, and the free bitmap. -/
  rawBase : Nat
  rawPages : Nat
  rawFree : Nat
  nqBase : Nat
  nqPages : Nat
  nqFree : Nat
  lists : Nat
  deriving DecidableEq, Repr

/-- R269, R278: the partition's descriptor, read as a device structure; the partition has one. -/
def State.adapterDesc (s : State) (part : Nat) : Check AdDesc := do
  let at' := (s.part part).adesc.toNat
  let dw (o : Nat) : Check Dword := deviceDword s part (at' + o)
  let att ← dw 0
  let st ← dw 8
  let ten ← dw 16
  let pool ← dw 24
  let poolq ← dw 32
  let free ← dw 40
  let freeq ← dw 48
  let plb ← dw 56
  .ok ⟨bits att 63 16 * 65536, bits att 15 0 + 1, bits st 25 0, bits ten 43 32 + 1, bits ten 25 0,
    bits pool 63 16 * 65536, bits pool 15 0 + 1, bits free 25 0, bits poolq 63 16 * 65536, bits poolq 15 0 + 1, bits freeq 25 0,
    plb.toNat⟩

/-- R270: an adapter's entry. -/
structure AdEntry where
  key : Nat
  tenant : Nat
  ff : Nat
  rank : Nat
  alpha : Word
  deriving DecidableEq, Repr

/-- R270: the entry of two dwords; none: absent. -/
def AdEntry.parse (d : AdDesc) (e0 e1 : Dword) : Option AdEntry :=
  if !bit e0 31 ∨ bits e0 28 23 ≠ 0 ∨ bits e0 15 0 ≠ 0 ∨ bits e1 63 32 ≠ 0 ∨ bits e0 30 29 = 3 ∨ bits e0 22 16 = 0 ∨
      64 < bits e0 22 16 ∨ d.tenants ≤ bits e0 47 32 then none
  else some ⟨bits e0 63 48, bits e0 47 32, bits e0 30 29, bits e0 22 16, .ofNat 32 (bits e1 31 0)⟩

/-- R269, R274, R320: a dword of the tables in sync space; one outside the window or spoiled is an error of the action. -/
def State.adWord (s : State) (part a : Nat) : Check Dword :=
  if Config.syncBytes ≤ a ∨ !s.inWindow part a ∨ !s.inWindow part (a + 7) ∨ s.spoiledAt a then failed .syncerr (.ofNat 64 a)
  else .ok (s.syncDword a)

/-- R272: a slot of an adapter. -/
structure AdSlot where
  ver : Nat
  st : Nat
  npg : Nat
  pins : Nat
  deriving DecidableEq, Repr

/-- R272: the adapter state. -/
structure AdState where
  ver : Nat
  build : Bool
  live : Bool
  cur : Nat
  s0 : AdSlot
  s1 : AdSlot
  deriving DecidableEq, Repr

def AdState.slot (a : AdState) (k : Nat) : AdSlot := if k = 0 then a.s0 else a.s1
def AdState.setSlot (a : AdState) (k : Nat) (v : AdSlot) : AdState := if k = 0 then { a with s0 := v } else { a with s1 := v }
/-- R272: the spare slot. -/
def AdState.spare (a : AdState) : Nat := if a.live then 1 - a.cur else 0

/-- R272: a slot that a sequence of actions produces: its pages, and pins only while live or draining. -/
def AdSlot.sound (v : AdSlot) : Bool :=
  if v.st = 0 then v.ver == 0 && v.npg == 0 && v.pins == 0
  else v.ver != 0 && 1 ≤ v.npg && v.npg ≤ 256 && (v.st != 1 || v.pins == 0) && (v.st != 3 || v.pins != 0)

/-- R274: a state that a sequence of actions produces. -/
def AdState.sound (a : AdState) : Bool :=
  let other := 1 - a.cur
  a.s0.sound && a.s1.sound &&
  (if a.live then
    (a.slot a.cur).st == 2 && (a.slot a.cur).ver == a.ver && (a.slot other).st != 2 &&
      a.build == ((a.slot other).st == 1) && a.s0.ver != a.s1.ver
  else a.s0.st ≤ 1 && a.s1.st == 0 && a.build == (a.s0.st == 1) && a.cur == 0 && a.ver == 0)

/-- R272, R274: the state of the four dwords; none: a reserved value, or a state no sequence of actions produces. -/
def AdState.parse (selw pinw w0 w1 : Dword) : Option AdState :=
  let slot (w : Dword) (pins : Nat) : AdSlot := ⟨bits w 63 32, bits w 31 30, bits w 8 0, pins⟩
  let a : AdState := ⟨bits selw 63 32, bit selw 2, bit selw 1, bits selw 0 0, slot w0 (bits pinw 31 0), slot w1 (bits pinw 63 32)⟩
  if bits selw 31 3 ≠ 0 ∨ bits w0 29 9 ≠ 0 ∨ bits w1 29 9 ≠ 0 ∨ !a.sound then none else some a

/-- R272: the dwords of a state. -/
def AdState.selw (a : AdState) : Dword := .ofNat 64 (a.ver * 2 ^ 32 + 4 * a.build.toNat + 2 * a.live.toNat + a.cur)
def AdSlot.word (v : AdSlot) : Dword := .ofNat 64 (v.ver * 2 ^ 32 + v.st * 2 ^ 30 + v.npg)
def AdState.words (a : AdState) : List Dword :=
  [a.selw, .ofNat 64 (a.s1.pins * 2 ^ 32 + a.s0.pins), a.s0.word, a.s1.word]

/-! Actions (R280 to R285). -/

/-- R280: the outcome of an action; the status of a refusal, or the slot reported with its page indices. -/
inductive AdOut where
  /-- `shown`: the record holds SELW. -/
  | refused (status : Nat) (selw : Dword)
  | ok (slot : Nat) (v : AdSlot) (retired : Bool) (pages : List Nat) (entry : AdEntry) (selw : Dword)
  deriving DecidableEq, Repr

/-- What an action works on: its tables, and the state as it has left it. -/
structure AdCtx where
  s : State
  part : Nat
  a : Nat
  d : AdDesc
  e : AdEntry
  st : AdState
  /-- R410: a write of its that has been dropped at the home. -/
  lost : Option (Cause × Dword)
  deriving DecidableEq

/-- R283: the pages and the free bitmap of the adapter's pool. -/
def AdCtx.pool (x : AdCtx) : Nat × Nat := if x.e.ff = 2 then (x.d.nqPages, x.d.nqFree) else (x.d.rawPages, x.d.rawFree)

/-- R273: the page list of a slot: its address, and the first n indices in it. -/
def AdCtx.listAt (x : AdCtx) (slot : Nat) : Nat := x.d.lists + 1024 * x.a + 512 * slot
def AdCtx.pages (x : AdCtx) (slot n : Nat) : Check (List Nat) := do
  let bs ← deviceRead x.s x.s.coherentByte x.part (x.listAt slot) (2 * n)
  .ok ((List.range n).map fun j => leNat ((bs.drop (2 * j)).take 2))

/-- R273: the lowest free pages of a bitmap, n of them where there are so many; the fuel counts its dwords. -/
def scanFree (s : State) (part free count : Nat) : Nat → Nat → Nat → Check (List Nat)
  | 0, _, _ => .ok []
  | f + 1, d, n =>
    if n = 0 then .ok []
    else do
      let w ← s.adWord part (free + 8 * d)
      let ps := ((span (64 * d) 64).filter fun p => decide (p < count) && bit w (p % 64)).take n
      let more ← scanFree s part free count f (d + 1) (n - ps.length)
      .ok (ps ++ more)

/-- R273: a page's bit in a free bitmap. -/
def State.setFree (s : State) (free p : Nat) (v : Bool) : State :=
  let at' := free + p / 64 * 8
  let w := s.syncDword at'
  let m : Dword := .ofNat 64 (2 ^ (p % 64))
  s.setSync at' [if v then w ||| m else w &&& ~~~m]

/-- R282: retire(s): pages return to the pool, the tenant's USED falls, the slot is free. -/
def AdCtx.retire (x : AdCtx) (slot : Nat) : Check (AdCtx × List Nat) := do
  let v := x.st.slot slot
  let ps ← x.pages slot v.npg
  let (count, free) := x.pool
  let tw := x.d.tenantWords + 8 * x.e.tenant
  let t ← x.s.adWord x.part tw
  if bits t 63 32 < v.npg then failed .syncerr (.ofNat 64 tw)
  else
    let s ← ps.foldlM (init := x.s) fun s p => do
      let w ← s.adWord x.part (free + p / 64 * 8)
      if count ≤ p ∨ bit w (p % 64) then failed .syncerr (.ofNat 64 (free + p / 64 * 8)) else .ok (s.setFree free p true)
    .ok ({ x with
      s := s.setSync tw [.ofNat 64 ((bits t 63 32 - v.npg) * 2 ^ 32 + bits t 31 0)]
      st := x.st.setSlot slot ⟨0, 0, 0, 0⟩ }, ps)

/-- The slot with STATE live or draining that holds a version. -/
def AdState.holding (a : AdState) (v : Nat) : Option Nat :=
  [0, 1].find? fun k => 2 ≤ (a.slot k).st && (a.slot k).ver == v

/-- A slot reported, its page indices read where the record holds some. -/
def AdCtx.report (x : AdCtx) (slot m : Nat) (retired : Bool) : Check (AdCtx × AdOut) := do
  let v := x.st.slot slot
  let ps ← x.pages slot (min m v.npg)
  .ok (x, .ok slot v retired ps x.e x.st.selw)

/-- A refusal that shows SELW. -/
def AdCtx.refuse (x : AdCtx) (status : Nat) : Check (AdCtx × AdOut) := .ok (x, .refused status x.st.selw)

/-- R281 `aget`. -/
def AdCtx.get (x : AdCtx) (v m : Nat) : Check (AdCtx × AdOut) :=
  if v = 0 then (if x.st.live then x.report x.st.cur m false else .ok (x, .refused 5 0))
  else match x.st.holding v with
    | some k => x.report k m false
    | none => x.refuse 4

/-- R281 `apin`. -/
def AdCtx.pin (x : AdCtx) (m : Nat) : Check (AdCtx × AdOut) :=
  let v := x.st.slot x.st.cur
  if !x.st.live then .ok (x, .refused 5 0)
  else if v.pins = 2 ^ 32 - 1 then x.refuse 6
  else AdCtx.report { x with st := x.st.setSlot x.st.cur { v with pins := v.pins + 1 } } x.st.cur m false

/-- R282 `aunpin`. -/
def AdCtx.unpin (x : AdCtx) (ver : Nat) : Check (AdCtx × AdOut) :=
  match x.st.holding ver with
  | none => x.refuse 4
  | some k =>
    let v := x.st.slot k
    if v.pins = 0 then x.refuse 4
    else
      let v' := { v with pins := v.pins - 1 }
      if v.st = 3 ∧ v'.pins = 0 then do
        let (x, _) ← x.retire k
        .ok (x, .ok k v' true [] x.e x.st.selw)
      else AdCtx.report { x with st := x.st.setSlot k v' } k 0 false

/-- R283 `aalloc`. The translation and write permission of the page-list bytes, for the slot that the state names spare, are checked
first (R278). -/
def AdCtx.alloc (x : AdCtx) (n vn ve : Nat) : Check (AdCtx × AdOut) := do
  let e := x.st
  let _ ← mapBytes x.s x.s.coherentByte x.part .write (span (x.listAt e.spare) (2 * n))
  if e.build ∨ (if e.live then e.ver ≠ ve else ve ≠ 0) ∨ [0, 1].any (fun k => (e.slot k).st != 0 && (e.slot k).ver == vn) then x.refuse 3
  else if (e.slot e.spare).st ≠ 0 then x.refuse 6
  else do
    let tw := x.d.tenantWords + 8 * x.e.tenant
    let t ← x.s.adWord x.part tw
    if bits t 31 0 < bits t 63 32 + n then x.refuse 2
    else do
      let (count, free) := x.pool
      let ps ← scanFree x.s x.part free count ((count + 63) / 64) 0 n
      if ps.length < n then x.refuse 7
      else do
        let (s, lost) := x.s.writeOwn x.part (x.listAt e.spare) (ps.flatMap (leBytes 2))
        let s := ps.foldl (fun s p => s.setFree free p false) s
        let s := s.setSync tw [.ofNat 64 ((bits t 63 32 + n) * 2 ^ 32 + bits t 31 0)]
        let v : AdSlot := ⟨vn, 1, n, 0⟩
        let st := { e.setSlot e.spare v with build := true }
        .ok ({ x with s := s, st := st, lost := lost }, .ok e.spare v false ps x.e st.selw)

/-- R284, R285: the spare slot is not building the version named. -/
def AdState.notBuilding (a : AdState) (vn : Nat) : Bool :=
  !a.build || (a.slot a.spare).st != 1 || (a.slot a.spare).ver != vn

/-- R284 `apub`. -/
def AdCtx.publish (x : AdCtx) (vn : Nat) : Check (AdCtx × AdOut) :=
  if x.st.notBuilding vn then x.refuse 3
  else do
    let k := x.st.spare
    let o := x.st.cur
    let old := x.st.slot o
    let (x, retired) ← (if !x.st.live then .ok (x, false)
      else if old.pins = 0 then do
        let (x, _) ← x.retire o
        .ok (x, true)
      else .ok ({ x with st := x.st.setSlot o { old with st := 3 } }, false) : Check (AdCtx × Bool))
    let v := { x.st.slot k with st := 2 }
    let st := { x.st.setSlot k v with ver := vn, build := false, live := true, cur := k }
    .ok ({ x with st := st }, .ok k v retired [] x.e st.selw)

/-- R285 `aabort`. -/
def AdCtx.abort (x : AdCtx) (vn : Nat) : Check (AdCtx × AdOut) :=
  if x.st.notBuilding vn then x.refuse 3
  else do
    let k := x.st.spare
    let v := x.st.slot k
    let (x, _) ← x.retire k
    let st := { x.st with build := false }
    .ok ({ x with st := st }, .ok k v true [] x.e st.selw)

/-- R281: lines brought in in order; `warm` are those the warming has used. It stops where a fill would displace one of these while the
adapter ways hold no other line. -/
def warmFrom (f : Placing) (warm : List Nat) : List Nat → State → State
  | [], s => s
  | l :: r, s =>
    let s' := s.bringIn f l
    let ways := s.adapterWays f.part
    if (s.fab.llc.any fun x => warm.contains x.line && !(s'.fab.llc.any (·.line == x.line))) &&
        (s.fab.llc.all fun x => !ways.contains x.way || warm.contains x.line) then s
    else warmFrom f (l :: warm) r s'

/-- R281: the lines of a slot's pages start to fill the adapter ways, page by page; what cannot be read or translated is passed over. -/
def AdCtx.warm (x : AdCtx) (slot n : Nat) : AdCtx :=
  let s := x.s
  let base := if x.e.ff = 2 then x.d.nqBase else x.d.rawBase
  let lines := (((x.pages slot n).toOption).getD []).flatMap fun p => match translate s s.coherentByte x.part (base + 65536 * p) with
    | .ok l => (List.range 512).map fun k => l.phys (base + 65536 * p) + 128 * k
    | .error _ => []
  if s.adapterWays x.part = [] then x
  else { x with s := warmFrom ⟨x.part, 0, .normal, true, false⟩ [] lines s }

/-- R281: W: an OK action warms the slot it reports. -/
def AdCtx.warmed (w : Bool) (r : Check (AdCtx × AdOut)) : Check (AdCtx × AdOut) := do
  let (x, out) ← r
  match w, out with
  | true, .ok slot v _ _ _ _ => .ok (x.warm slot v.npg, out)
  | _, _ => .ok (x, out)

/-- The action of a word. -/
def AdCtx.act (x : AdCtx) : AtKind → Check (AdCtx × AdOut)
  | .get v m w => AdCtx.warmed w (x.get v m)
  | .pin m w => AdCtx.warmed w (x.pin m)
  | .unpin v => x.unpin v
  | .alloc n vn ve => x.alloc n vn ve
  | .pub vn => x.publish vn
  | .abort vn => x.abort vn

/-- R276, R278, R280: an action on an adapter, under a key: all of it, or its fault and nothing; with a write dropped at the home (R410).
The entry, then the key. -/
def State.adapterAct (s : State) (part a key : Nat) (kind : AtKind) : Check (State × AdOut × Option (Cause × Dword)) := do
  let d ← s.adapterDesc part
  let e0 ← deviceDword s part (d.table + 64 * a)
  let e1 ← deviceDword s part (d.table + 64 * a + 8)
  match (if d.count ≤ a then none else AdEntry.parse d e0 e1) with
  | none => .ok (s, .refused 5 0, none)
  | some e =>
    if e.key ≠ key then .ok (s, .refused 1 0, none)
    else do
      let at' := d.state + 32 * a
      let w0 ← s.adWord part at'
      let w1 ← s.adWord part (at' + 8)
      let w2 ← s.adWord part (at' + 16)
      let w3 ← s.adWord part (at' + 24)
      match AdState.parse w0 w1 w2 w3 with
      | none => failed .syncerr (.ofNat 64 at')
      | some st =>
        let (x, out) ← AdCtx.act ⟨s, part, a, d, e, st, none⟩ kind
        .ok (x.s.setSync at' x.st.words, out, x.lost)

/-! Records (R279). -/

/-- R279: page-index entries of a word's record. -/
def AtKind.entries : AtKind → Nat
  | .get _ m _ => m
  | .pin m _ => m
  | .alloc n _ _ => n
  | _ => 0

/-- R279: the record and its m page-index entries. -/
def AdOut.bytes (o : AdOut) (m : Nat) : List Byte :=
  match o with
  | .refused status selw =>
    leBytes 2 status ++ leBytes 1 0xFF ++ leBytes 21 0 ++ leBytes 8 selw.toNat ++ (List.range m).flatMap fun _ => leBytes 2 0xFFFF
  | .ok slot v retired pages e selw =>
    leBytes 2 0 ++ leBytes 1 slot ++ leBytes 1 retired.toNat ++ leBytes 4 v.ver ++ leBytes 1 e.rank ++ leBytes 1 e.ff ++
    leBytes 2 e.tenant ++ leBytes 4 e.alpha.toNat ++ leBytes 4 v.pins ++ leBytes 4 v.npg ++ leBytes 8 selw.toNat ++
    (List.range m).flatMap fun j => leBytes 2 (pages[j]?.getD 0xFFFF)

/-! Words (R277, R278). -/

/-- R278: the checks of a word, and its launch. Operands: offset, adapter, barrier, and whether its other values are in range. A
descriptor that cannot be read ends the operation, not the word. -/
def adapterWord (kind : AtKind) (ranges : Bool) (slot : Nat) (off a bar : Dword) (s : State) (k : Cmd) (st : List Dword) : WordRes :=
  let part := k.iss.part
  if (s.part part).adesc = 0 then eopx k
  else match barOperand bar with
    | none => eopx k
    | some b =>
      if !ranges || (match s.adapterDesc part with | .ok d => decide (d.count ≤ a.toNat) | .error _ => false) then eopx k
      else if (s.adapterDesc part).awaits then .wait
      else (checkRecord s k.iss slot off (32 + 2 * kind.entries)).orFault fun m =>
        let op : AtOp := ⟨k.iss, s.nextNum 2 k.iss.ctx, kind, a.toNat, m.handle.key, b,
          .of m.handle.space (m.handle.base + off.toNat) m.leaves⟩
        let s := (s.setEngCtx (s.engCtx 2 k.iss.ctx).launchOp).holdLeaves part m.leaves
        .ok { s with eng := { s.eng with adapt := s.eng.adapt ++ [op] } } st

/-- A value of at most 32 bits. -/
def fits32 (v : Dword) : Bool := v.toNat < 2 ^ 32

/-- R277 `aget`: offset, a, v, m, bar. -/
def execAget (w : BitVec 1) (h : BitVec 4) (s : State) : Answer :=
  runWord false (popping 5 fun s k vs st => match vs with
    | [off, a, v, m, bar] => adapterWord (.get v.toNat m.toNat (w == 1)) (fits32 v && m.toNat ≤ 256) h.toNat off a bar s k st
    | _ => estk k) s

/-- R277 `apin`: offset, a, m, bar. -/
def execApin (w : BitVec 1) (h : BitVec 4) (s : State) : Answer :=
  runWord false (popping 4 fun s k vs st => match vs with
    | [off, a, m, bar] => adapterWord (.pin m.toNat (w == 1)) (m.toNat ≤ 256) h.toNat off a bar s k st
    | _ => estk k) s

/-- R277 `aunpin`: offset, a, v, bar. -/
def execAunpin (h : BitVec 4) (s : State) : Answer :=
  runWord false (popping 4 fun s k vs st => match vs with
    | [off, a, v, bar] => adapterWord (.unpin v.toNat) (fits32 v) h.toNat off a bar s k st
    | _ => estk k) s

/-- R277 `aalloc`: offset, a, n, vn, ve, bar. -/
def execAalloc (h : BitVec 4) (s : State) : Answer :=
  runWord false (popping 6 fun s k vs st => match vs with
    | [off, a, n, vn, ve, bar] =>
      adapterWord (.alloc n.toNat vn.toNat ve.toNat) (1 ≤ n.toNat && n.toNat ≤ 256 && vn != 0 && fits32 vn && fits32 ve)
        h.toNat off a bar s k st
    | _ => estk k) s

/-- R277 `apub`: offset, a, vn, bar. -/
def execApub (h : BitVec 4) (s : State) : Answer :=
  runWord false (popping 4 fun s k vs st => match vs with
    | [off, a, vn, bar] => adapterWord (.pub vn.toNat) (vn != 0 && fits32 vn) h.toNat off a bar s k st
    | _ => estk k) s

/-- R277 `aabort`: offset, a, vn, bar. -/
def execAabort (h : BitVec 4) (s : State) : Answer :=
  runWord false (popping 4 fun s k vs st => match vs with
    | [off, a, vn, bar] => adapterWord (.abort vn.toNat) (vn != 0 && fits32 vn) h.toNat off a bar s k st
    | _ => estk k) s

/-! The action's event. -/

/-- The oldest adapter operation of a context. -/
def State.adapterOp (s : State) (ctx : Nat) : Option AtOp := s.eng.adapt.find? (·.iss.ctx == ctx)

/-- R276, R286, R254: it may take its place: for `apub`, every store of its thread is performed; its writes do not wait. -/
def adapterReady (ctx : Nat) (s : State) : Bool :=
  match s.adapterOp ctx with
  | none => false
  | some op =>
    (match op.kind with | .pub _ => s.storesAt op.iss.ctx .s | _ => true) && !s.spotWaits op.spot 0 (32 + 2 * op.kind.entries) &&
    (match s.adapterAct op.iss.part op.a op.key op.kind with
      | .ok (s', _, _) => s'.fab.waiting == s.fab.waiting
      | .error (c, _) => c != .none)

/-- R276, R278, R279: the action, its record, its arrival and its completion. -/
def adapterEffect (ctx : Nat) (s : State) : State :=
  match s.adapterOp ctx with
  | none => s
  | some op =>
    let n := 32 + 2 * op.kind.entries
    let s := { s with eng := { s.eng with adapt := s.eng.adapt.erase op } }
    let (s, poison) := match s.adapterAct op.iss.part op.a op.key op.kind with
      | .ok (s', out, lost) =>
        let s' := match lost with | some (c, v) => s'.engineFault op.iss 2 c v | none => s'
        let ws := op.spot.writes 0 (out.bytes op.kind.entries)
        (s'.writeFor op.iss 2 op.spot.space false ws, lost.isSome || s'.writeBad op.spot.space false ws)
      | .error (c, v) => (s.engineFault op.iss 2 c v, true)
    (s.engineArrive op.iss 2 op.bar n poison).completeOp 2 ctx op.num

/-- R276 ADAPTER_ACTION. -/
def execAdapterAction (ctx : Nat) (s : State) : Answer := .next (if adapterReady ctx s then adapterEffect ctx s else s)

end Sys2Proof.Machine
end

