-- ==== Sys2Proof/Machine/SyncInstr.lean ====
section
/-! DEFINITION. Major 0x2E: atomics, barrier and ring instructions (R330 to R340), and the events of synchronisation space. -/

namespace Sys2Proof.Machine

/-- R331 steps 2 to 4 for an atomic of w bytes. -/
def checkAtomic (s : State) (rd : Nat → Byte) (ac : Access) (slot index : Nat) (off : Dword) (w : Nat) : Check Mapped := do
  let h ← readHandle s rd ac slot index off
  checkBound s ac h slot off w
  let va := h.va off
  if h.space = .scratch ∨ off.toNat % w ≠ 0 then failed .align va
  else match h.space with
    | .code => refuseCode s rd ac.part .write (span va.toNat w) va
    | .global =>
      let _ ← mapBytes s rd ac.part .none (span va.toNat w)
      let _ ← mapBytes s rd ac.part .read (span va.toNat w)
      let (as, ls) ← mapBytes s rd ac.part .write (span va.toNat w)
      .ok ⟨h, as, ls⟩
    | _ => .ok ⟨h, span va.toNat w, []⟩

/-- R331 steps 2 and 3 for an object instruction: the sync address of the object, in the block that BASE + offset lies in (log 30). -/
def checkObject (s : State) (c : Context) (slot : Nat) (off : Dword) : Check Nat := do
  let ac := s.access c.launch
  let h ← readHandle s (s.threadByte s.core.active) ac slot (c.slotIndex slot) off
  checkBound s ac h slot off 32
  let va := h.va off
  if h.space ≠ .sync ∨ off.toNat % 32 ≠ 0 then failed .align va else .ok (blockOf va.toNat)

/-- R331: an instruction that takes an entry in each queue may issue. -/
def State.bothReady (s : State) (c : Context) : Bool :=
  s.loadReady s.core.active c .sync [] && s.storeReady s.core.active c .sync []

/-- R332 to R334: an atomic is sent; it is performed, and d written, when it returns. -/
def sendAtomic (op : Atom) (wide : BitVec 1) (n b d e : Code) (s : State) (c : Context) : Res :=
  let w := if wide = 1#1 then 8 else 4
  let low (r : Code) : Dword := .ofNat 64 ((c.read r).toNat % 2 ^ (8 * w))
  (checkAtomic s (s.threadByte s.core.active) (s.access c.launch) n.toNat (c.slotIndex n.toNat) (c.read b) w).orTrap fun m =>
    if !s.bothReady c then .wait c
    else
      let c := s.spendMark s.core.active c
      let v := if op = .cas then low (d + 1#6) else low d
      let q : LoadEntry :=
        ⟨c.serial, m.handle.space, m.handle.policy, m.addrs, m.handle.va (c.read b), .atomic op v (low e), d, false⟩
      .done (s.holdLeaves (s.partOf c.launch) m.leaves) (c.pushLoad q)

/-- R332 `aswp`. -/
def execAswp (st : BitVec 2) (d n b : Code) (w : BitVec 1) (s : State) : Answer :=
  issue (.aswp st d n b w) anyLevel (sendAtomic .swp w n b d d) s
/-- R332 `aadd`. -/
def execAadd (st : BitVec 2) (d n b : Code) (w : BitVec 1) (s : State) : Answer :=
  issue (.aadd st d n b w) anyLevel (sendAtomic .add w n b d d) s
/-- R332 `aand`. -/
def execAand (st : BitVec 2) (d n b : Code) (w : BitVec 1) (s : State) : Answer :=
  issue (.aand st d n b w) anyLevel (sendAtomic .and w n b d d) s
/-- R332 `aor`. -/
def execAor (st : BitVec 2) (d n b : Code) (w : BitVec 1) (s : State) : Answer :=
  issue (.aor st d n b w) anyLevel (sendAtomic .or w n b d d) s
/-- R332 `axor`. -/
def execAxor (st : BitVec 2) (d n b : Code) (w : BitVec 1) (s : State) : Answer :=
  issue (.axor st d n b w) anyLevel (sendAtomic .xor w n b d d) s
/-- R332 `amin`. -/
def execAmin (st : BitVec 2) (d n b : Code) (w : BitVec 1) (s : State) : Answer :=
  issue (.amin st d n b w) anyLevel (sendAtomic .min w n b d d) s
/-- R332 `amax`. -/
def execAmax (st : BitVec 2) (d n b : Code) (w : BitVec 1) (s : State) : Answer :=
  issue (.amax st d n b w) anyLevel (sendAtomic .max w n b d d) s
/-- R332 `aminn`. -/
def execAminn (st : BitVec 2) (d n b : Code) (w : BitVec 1) (s : State) : Answer :=
  issue (.aminn st d n b w) anyLevel (sendAtomic .minn w n b d d) s
/-- R332 `amaxn`. -/
def execAmaxn (st : BitVec 2) (d n b : Code) (w : BitVec 1) (s : State) : Answer :=
  issue (.amaxn st d n b w) anyLevel (sendAtomic .maxn w n b d d) s
/-- R333 `acas`: the expected value in xd, the new value in x(d+1). -/
def execAcas (st : BitVec 2) (d n b : Code) (w : BitVec 1) (s : State) : Answer :=
  issue (.acas st d n b w) anyLevel (sendAtomic .cas w n b d d) s
/-- R334 `afadd`. -/
def execAfadd (st : BitVec 2) (d n b : Code) (w : BitVec 1) (s : State) : Answer :=
  issue (.afadd st d n b w) anyLevel (sendAtomic .fadd w n b d d) s

/-- R335: `barrive`: a release whose store is the arrival: older stores are performed at `.p`, in host memory at `.s`. -/
def sendArrival (n b d : Code) (s : State) (c : Context) : Res :=
  let v := c.read d
  if bits v 62 32 ≠ 0 then .trap .illopd v
  else (checkObject s c n.toNat (c.read b)).orTrap fun a =>
    if !s.storeMayGo s.core.active (c.addMark .s) then .wait c
    else
      let src : ArrSrc := .instr s.core.active c.launch c.ctxid.toNat
      .done { s with inflight := s.inflight ++ [.arrive a (bits v 31 0) (bit v 63) src] }
        { c with mark := none, serial := c.serial + 1 }

/-- R335 `barrive`. -/
def execBarrive (st : BitVec 2) (d n b : Code) (s : State) : Answer :=
  issue (.barrive st d n b) anyLevel (sendArrival n b d) s

/-- R331, R338, R144 item 1: a load of the sync engine may issue: older loads of the object's block have returned, and older stores to it
have left their queue, an arrival's too. -/
def State.readReady (s : State) (c : Context) (a : Nat) : Bool :=
  !((s.sq s.core.active).any fun e => e.ctx = c.ctxid.toNat && e.space = .sync && e.bytes.any fun p => blockOf p.1 == a) &&
  s.loadReady s.core.active c .sync [] && !s.loadWaits c .sync (span a 32) && !s.spansPending c

/-- R336, R339: the reading of a sync object, as the load of `ld.acq.p`: the context after it, with an object error's entry. -/
def readObject (s : State) (c : Context) (a : Nat) (err : Bool) : Res :=
  .bound s.acquire (((s.spendMark s.core.active c).pushLoad (.held c.serial)).addMark .p)
    (if err then [(.syncerr, .ofNat 64 a)] else [])

/-- R340, R329: a waiting instruction whose condition is unmet: it takes a pending entry when it is first found so, and is an object
error where there is none. At a boundary with a cause due it takes none (R133). -/
def waitAt (s : State) (c : Context) (part a : Nat) (w : WaitKind) (err : Res) : Res :=
  if c.due ∨ c.waiting.isSome ∨ s.tableRoom a then .wait { c with waiting := some w }
  else match s.takeEntry part a with
    | none => err
    | some s' => .entered ((s'.setCurrent (s'.current.map ({ · with waiting := some w }))).tick 1)

/-- R336: the result of `bwait` and `btest`; a spoiled block reads as 0 (R320). -/
def phaseResult (s : State) (a : Nat) (err met : Bool) : Dword :=
  let d := if s.spoiledAt a then 0 else s.syncDword a
  .ofNat 64 (err.toNat * 2 ^ 34 + met.toNat * 2 ^ 33 + (bit d 61).toNat * 2 ^ 32 + bits d 31 0)

/-- R336: `bwait` (waits) and `btest`. -/
def testPhase (waits : Bool) (n b d : Code) (s : State) (c : Context) : Res :=
  (checkObject s c n.toNat (c.read b)).orTrap fun a =>
    if !s.readReady c a then .wait c
    else
      let part := s.partOf c.launch
      let t : Word := (c.read d).truncate 32
      let done (err met : Bool) : Res := readObject s (c.write d (phaseResult s a err met)) a err
      match s.barrierFor part a with
      | none => done true true
      | some o =>
        if upTo t (.ofNat 32 o.phase) then done false true
        else if !waits then done false false
        else waitAt s c part a (.phase a t) (done true true)

/-- R336 `bwait`. -/
def execBwait (st : BitVec 2) (d n b : Code) (s : State) : Answer :=
  issue (.bwait st d n b) anyLevel (testPhase true n b d) s
/-- R336 `btest`. -/
def execBtest (st : BitVec 2) (d n b : Code) (s : State) : Answer :=
  issue (.btest st d n b) anyLevel (testPhase false n b d) s

/-- R337: `rres` and `rtake` are sent; the indices are given when it returns. -/
def sendReserve (take : Bool) (n b d : Code) (s : State) (c : Context) : Res :=
  let v := c.read d
  if bits v 63 16 ≠ 0 ∨ v = 0 then .trap .illopd v
  else (checkObject s c n.toNat (c.read b)).orTrap fun a =>
    if !s.bothReady c then .wait c
    else
      let c := s.spendMark s.core.active c
      .done s (c.pushLoad ⟨c.serial, .sync, .normal, span a 32, .ofNat 64 a, .reserve take v.toNat, d, false⟩)

/-- R337 `rres`. -/
def execRres (st : BitVec 2) (d n b : Code) (s : State) : Answer :=
  issue (.rres st d n b) anyLevel (sendReserve false n b d) s
/-- R337 `rtake`. -/
def execRtake (st : BitVec 2) (d n b : Code) (s : State) : Answer :=
  issue (.rtake st d n b) anyLevel (sendReserve true n b d) s

/-- R337: the span of a ring instruction: first index and count; none: ILLOPD. -/
def spanOf (v : Dword) : Option (Word × Nat) :=
  if bits v 63 48 ≠ 0 ∨ bits v 47 32 = 0 then none else some (v.truncate 32, bits v 47 32)

/-- R338: `rpost` and `rfree`: a release whose store is the update, applied in its turn; for `rpost` older stores in host memory are
performed at `.s`. -/
def sendSpan (free : Bool) (n b d : Code) (s : State) (c : Context) : Res :=
  match spanOf (c.read d) with
  | none => .trap .illopd (c.read d)
  | some (first, k) =>
    (checkObject s c n.toNat (c.read b)).orTrap fun a =>
      if !s.storeMayGo s.core.active (c.addMark (if free then .p else .s)) then .wait c
      else
        let part := s.partOf c.launch
        let p : PendingSpan := ⟨a, free, first, k, s.core.active, s.issuer c, c.serial⟩
        let c := { c with mark := none, serial := c.serial + 1 }
        match if s.spanBehind part a free first then none else if s.spanTurn p then some s else s.takeEntry part a with
        | none => .bound s c [(.syncerr, .ofNat 64 a)]
        | some s => .done { s with sync := { s.sync with pend := s.sync.pend ++ [p] } } c

/-- R338 `rpost`. -/
def execRpost (st : BitVec 2) (d n b : Code) (s : State) : Answer :=
  issue (.rpost st d n b) anyLevel (sendSpan false n b d) s
/-- R338 `rfree`. -/
def execRfree (st : BitVec 2) (d n b : Code) (s : State) : Answer :=
  issue (.rfree st d n b) anyLevel (sendSpan true n b d) s

/-- R339: the wait and test forms. -/
def testSpan (waits free : Bool) (n b d : Code) (s : State) (c : Context) : Res :=
  match spanOf (c.read d) with
  | none => .trap .illopd (c.read d)
  | some (first, k) =>
    (checkObject s c n.toNat (c.read b)).orTrap fun a =>
      if !s.readReady c a then .wait c
      else
        let part := s.partOf c.launch
        let goal := first + .ofNat 32 k
        let done (v : Dword) (err : Bool) : Res := readObject s (if waits then c else c.write d v) a err
        match s.ring part a with
        | none => done 2 true
        | some r =>
          if (if free then r.freed goal else r.filled goal) then done 1 false
          else if !waits then done 0 false
          else waitAt s c part a (if free then .freed a goal else .filled a goal) (done 2 true)

/-- R339 `rwfill`. -/
def execRwfill (st : BitVec 2) (d n b : Code) (s : State) : Answer :=
  issue (.rwfill st d n b) anyLevel (testSpan true false n b d) s
/-- R339 `rtfill`. -/
def execRtfill (st : BitVec 2) (d n b : Code) (s : State) : Answer :=
  issue (.rtfill st d n b) anyLevel (testSpan false false n b d) s
/-- R339 `rwfree`. -/
def execRwfree (st : BitVec 2) (d n b : Code) (s : State) : Answer :=
  issue (.rwfree st d n b) anyLevel (testSpan true true n b d) s
/-- R339 `rtfree`. -/
def execRtfree (st : BitVec 2) (d n b : Code) (s : State) : Answer :=
  issue (.rtfree st d n b) anyLevel (testSpan false true n b d) s

/-! Events. -/

/-- R323: the arrival is on its way, or another core's agent makes it. -/
def arrivalReady (addr bytes : Nat) (poison : Bool) (src : ArrSrc) (s : State) : Bool :=
  s.inflight.contains (.arrive addr bytes poison src) || (match src with | .other _ _ _ | .engine _ _ _ _ => true | _ => false)

/-- R323 ARRIVAL. -/
def execArrival (addr bytes : Nat) (poison : Bool) (src : ArrSrc) (s : State) : Answer :=
  .next (if arrivalReady addr bytes poison src s then
    { s with inflight := s.inflight.erase (.arrive addr bytes poison src) }.arrive addr bytes poison src else s)

/-- R324 CHILD_FLIP. -/
def execChildFlip (child phase : Nat) (poison : Bool) (s : State) : Answer :=
  let flips : Msg → Bool
    | .flip _ c p b => c == child && p == phase && b == poison
    | _ => false
  .next (match s.inflight.find? flips with
    | some m => { s with inflight := s.inflight.erase m }.flipChild child poison
    | none => s)

/-- R338, R329: the span's turn has come, and no span that arose before it on the ring has its turn. -/
def spanReady (idx : Nat) (s : State) : Bool :=
  match s.sync.pend[idx]? with
  | none => false
  | some p => s.spanTurn p && !(s.sync.pend.take idx).any fun q => q.ring = p.ring && q.free == p.free && s.spanTurn q

/-- R338: it is applied, or is an object error of its thread. -/
def applyPending (idx : Nat) (s : State) : State :=
  match s.sync.pend[idx]? with
  | none => s
  | some p =>
    let s := { s with sync := { s.sync with pend := s.sync.pend.eraseIdx idx } }
    match s.applySpan p with
    | some s' => s'
    | none => s.threadEvent p.iss.part p.iss.launch p.iss.ctx p.slot .syncerr (.ofNat 64 p.ring)

/-- R338 RING_SPAN_APPLIED. -/
def execRingSpanApplied (idx : Nat) (s : State) : Answer := .next (if spanReady idx s then applyPending idx s else s)

/-- R340: the condition of the instruction a context waits at holds; an object error ends the wait too. -/
def State.waitMet (s : State) (c : Context) : Bool :=
  let part := s.partOf c.launch
  match c.waiting with
  | none => false
  | some (.phase a t) => match s.barrierFor part a with
    | none => true
    | some o => upTo t (.ofNat 32 o.phase)
  | some (.filled a goal) => match s.ring part a with | none => true | some r => r.filled goal
  | some (.freed a goal) => match s.ring part a with | none => true | some r => r.freed goal

/-- R340: the slot is active and its context's wait is met. -/
def waitReady (slot : Bool) (s : State) : Bool :=
  s.core.active == slot && (match s.ctx slot with | some c => s.waitMet c | none => false)

/-- R340: the waiting instruction at the context's pc issues. -/
def issueWaiting (slot : Bool) (s : State) : Answer :=
  match s.ctx slot with
  | none => .next s
  | some c =>
    match fetchNext s c slot with
    | .error (.none, _) => .next s
    | .error (cause, v) => .next (s.precise c cause v)
    | .ok (s', c', w, w2) =>
      let s' := s'.setCtx slot (some c')
      match decodeSeq w.toNat w2.toNat with
      | .ok (.bwait st d n b) => execBwait st d n b s'
      | .ok (.rwfill st d n b) => execRwfill st d n b s'
      | .ok (.rwfree st d n b) => execRwfree st d n b s'
      | _ => .next s

/-- R340 WAIT_SATISFIED. -/
def execWaitSatisfied (slot : Bool) (s : State) : Answer := if waitReady slot s then issueWaiting slot s else .next s

/-- R320 SYNC_SRAM_ERROR: the block of the address is spoiled. -/
def execSyncSramError (addr : Nat) (s : State) : Answer :=
  .next (if addr < Config.syncBytes then
    let b := blockOf addr
    { s with sync := { s.sync with spoiled := (s.sync.spoiled ++ [b, b + 8, b + 16, b + 24]).eraseDups } } else s)

end Sys2Proof.Machine
end

