-- ==== Sys2Proof/Machine/SyncWords.lean ====
section
/-! DEFINITION. The engine words of the synchronisation engine (R341 to R344), updates of one word or dword at its home, and the
range scoreboard of the scratchpad (R152, R351). -/

namespace Sys2Proof.Machine

/-! Ranges (R152). -/

/-- R152: an operation's ranges are taken; none where the core's sixteen cannot all be. -/
def State.takeRanges (s : State) (rs : List Range) : Option State :=
  if rs ≠ [] ∧ Config.scoreRanges < s.eng.ranges.length + rs.length then none
  else some { s with eng := { s.eng with ranges := s.eng.ranges ++ rs } }

/-- R152: an operation's ranges are removed. -/
def State.dropRanges (s : State) (eng ctx num : Nat) : State :=
  { s with eng := { s.eng with ranges := s.eng.ranges.filter fun r => ¬ (r.eng = eng ∧ r.ctx = ctx ∧ r.num = num) } }

/-! Updates at a home (R332). -/

/-- R332: the bytes at some addresses, as an update at their home finds them. -/
def State.homeValue (s : State) (sp : Space) (as : List Nat) : Nat := leNat (as.map (s.engineByte sp))

/-- R320, R408: what an update of some bytes meets. -/
def State.updateMeets (s : State) (sp : Space) (as : List Nat) : Option Cause :=
  match sp with
  | .sync => if as.any s.spoiledAt then some .poison else none
  | .scratch => none
  | _ => as.findSome? s.meets

/-- R254, R398, R51: an update would wait; in host memory, for a line the device holds exclusive; and for a scrub (R414). -/
def State.updateWaits (s : State) (sp : Space) (as : List Nat) : Bool :=
  sp.memory == .global && (as.any s.countedWaits || s.awaitsScrub as)

/-- A value's low bytes, at some addresses. -/
def bytesAt (as : List Nat) (v : Nat) : List (Nat × Byte) := as.zip (leBytes as.length v)

/-- R332, R323: the value an update leaves, written at the home: a sync object settles. -/
def State.putUpdate (s : State) (sp : Space) (as : List Nat) (v : Nat) : State :=
  match sp with
  | .sync => s.syncWrite (bytesAt as v)
  | _ => s.engineWrite sp false (bytesAt as v)

/-- The same for an atomic of the core's thread, of whose bytes no older copy stays (R144). -/
def State.putOwn (s : State) (sp : Space) (as : List Nat) (v : Nat) : State :=
  match sp.memory with
  | .global => s.ownWrite false (bytesAt as v)
  | _ => s.putUpdate sp as v

/-! Reductions (R343). -/

/-- R343: the bytes of an element; none: a reserved op. -/
def redWidth : Nat → Option Nat
  | 0 => some 4 | 1 => some 2 | 2 => some 8 | 3 => some 4 | 4 => some 8 | 5 => some 4 | 6 => some 4
  | _ => none

/-- R343: op(old, v). -/
def redValue (op old v : Nat) : Nat :=
  let fl (f : Fmt) (g : XVal → XVal → XVal) : Nat := (f.encode .rne (g (f.decode old) (f.decode v))).1
  match op with
  | 0 => fl f32 .add
  | 1 => fl bf16 .add
  | 2 => fl f64 .add
  | 3 => (old + v) % 2 ^ 32
  | 4 => (old + v) % 2 ^ 64
  | 5 => fl f32 maxX
  | _ => fl f32 minX

/-- R343: the checks of the operands, from item 2. -/
def checkReduce (s : State) (i : Issuer) (hd : Nat) (dst : Dword) (hs : Nat) (src : Dword) (n w : Nat) :
    Check (Spot × Spot × List Leaf × CachePolicy × CachePolicy) := do
  let ac := s.accessOf i
  let d ← handleOf s i hd dst
  if d.space ≠ .global then failed .wperm (d.va dst)
  else
    let r ← handleOf s i hs src
    if r.space ≠ .global ∧ r.space ≠ .scratch then failed .rperm (r.va src)
    else
      checkBound s ac d hd dst (n * w)
      checkBound s ac r hs src (n * w)
      if (d.va dst).toNat % w ≠ 0 then failed .align (d.va dst)
      else if (r.va src).toNat % w ≠ 0 then failed .align (r.va src)
      else
        let ds := span (d.va dst).toNat (n * w)
        let rs := span (r.va src).toNat (n * w)
        let rd := s.coherentByte
        let (_, ls) ← (if r.space = .global then mapBytes s rd ac.part .none rs else .ok ([], []))
        let (_, ld) ← mapBytes s rd ac.part .none ds
        let _ ← (if r.space = .global then mapBytes s rd ac.part .read rs else .ok ([], []))
        let _ ← mapBytes s rd ac.part .read ds
        let _ ← mapBytes s rd ac.part .write ds
        .ok (.of .global (d.va dst).toNat ld, .of r.space (r.va src).toNat ls, ld ++ ls, d.policy, r.policy)

/-- R152, R343: the source range of a scratchpad source. -/
def redRange (k : Cmd) (num : Nat) (src : Spot) (n : Nat) : List Range :=
  if src.space = .scratch then [⟨src.base, src.base + n, false, k.eng, k.iss.ctx, num⟩] else []

/-- An operation of the synchronisation engine is launched. -/
def State.launchSync (s : State) (k : Cmd) (kind : SyKind) (bar : Bar) : State :=
  let op : SyOp := ⟨k.iss, s.nextNum 4 k.iss.ctx, kind, bar, 0, 0⟩
  let s := s.setEngCtx (s.engCtx 4 k.iss.ctx).launchOp
  { s with eng := { s.eng with sy := s.eng.sy ++ [op] } }

/-- R342 `yarv`. -/
def arriveWord (poison : Bool) (s : State) (k : Cmd) (vs st : List Dword) : WordRes :=
  match vs with
  | [bar, bytes] =>
    (match barOperand bar with
      | some (some a) => if fits32 bytes then .ok (s.launchSync k (.arv bytes.toNat poison) (some a)) st else eopx k
      | _ => eopx k)
  | _ => estk k

/-- R341, R342 `yarv`: bar, bytes. -/
def execYarv (p : BitVec 1) (s : State) : Answer := runWord false (popping 2 (arriveWord (p == 1))) s

/-- R343 `yred`. -/
def reduceWord (op hd : Nat) (s : State) (k : Cmd) (vs st : List Dword) : WordRes :=
  match vs, redWidth op with
  | [dst, slot, src, n, bar], some w =>
    (match barOperand bar with
      | none => eopx k
      | some b =>
        if n.toNat = 0 ∨ 2 ^ 20 < n.toNat ∨ 15 < slot.toNat then eopx k
        else (checkReduce s k.iss hd dst slot.toNat src n.toNat w).orFault fun (d, r, ls, pd, ps) =>
          match s.takeRanges (redRange k (s.nextNum 4 k.iss.ctx) r (n.toNat * w)) with
          | none => .wait
          | some s => .ok ((s.holdLeaves k.iss.part ls).launchSync k (.red op d r n.toNat pd ps) b) st)
  | _, _ => estk k

/-- R341, R343 `yred`: dst offset, src slot, src offset, n, bar. -/
def execYred (o : BitVec 3) (h : BitVec 4) (s : State) : Answer :=
  runWord (o == 7) (popping 5 (reduceWord o.toNat h.toNat)) s

/-- R344 `yadd`. -/
def addWord (wide : Bool) (slot : Nat) (s : State) (k : Cmd) (vs st : List Dword) : WordRes :=
  match vs with
  | [off, v] =>
    (checkAtomic s s.coherentByte (s.accessOf k.iss) slot ((k.iss.handles[slot]?).getD 0).toNat off (if wide then 8 else 4)).orFault
      fun m => .ok ((s.holdLeaves k.iss.part m.leaves).launchSync k (.add m.handle.space m.addrs v (m.handle.va off) m.handle.policy) none) st
  | _ => estk k

/-- R341, R344 `yadd`: offset, value. -/
def execYadd (w : BitVec 1) (h : BitVec 4) (s : State) : Answer := runWord false (popping 2 (addWord (w == 1) h.toNat)) s

/-! The operations. -/

/-- The oldest operation of a context. -/
def State.syncOp (s : State) (ctx : Nat) : Option SyOp := s.eng.sy.find? (·.iss.ctx == ctx)

/-- How far an operation got. -/
inductive OpRes where
  /-- It has no more to do. -/
  | done
  /-- It waits for a pin or a host. -/
  | stuck
  | ended (c : Cause) (v : Dword)
  /-- It may go on. -/
  | more
  deriving DecidableEq, Repr

/-- R42, R275: the line of an element at an offset of a spot, brought in as the operation's issuer and the handle's policy place it. -/
def State.touchSpot (s : State) (iss : Issuer) (sp : Spot) (pol : CachePolicy) (off : Nat) : State :=
  if sp.space.memory = .global then
    s.touchFor iss.part iss.launch pol (fun _ => s.inPool iss.part (sp.base + off)) [lineOf (sp.addr off)]
  else s

/-- R343: element i of a reduction of an issuer, under the policies of its destination and source. -/
def reduceElement (iss : Issuer) (pd ps : CachePolicy) (op : Nat) (dst src : Spot) (i : Nat) (s : State) : State × OpRes :=
  let w := (redWidth op).getD 4
  let a := dst.addr (w * i)
  let b := src.addr (w * i)
  match (if src.space = .global then s.meets b else none) with
  | some .none => (s, .stuck)
  | some c => (s, .ended c (.ofNat 64 (src.base + w * i)))
  | none =>
    match s.meets a with
    | some .none => (s, .stuck)
    | some c => (s, .ended c (.ofNat 64 (dst.base + w * i)))
    | none =>
      if s.updateWaits .global (span a w) then (s, .stuck)
      else
        let s' := s.putUpdate .global (span a w) (redValue op (s.homeValue .global (span a w)) (s.homeValue src.space (span b w)))
        ((s'.touchSpot iss src ps (w * i)).touchSpot iss dst pd (w * i), .more)

/-- R343: at most n more elements from element i: the state, where the operation now stands, and how it got there. -/
def reduceFrom (iss : Issuer) (pd ps : CachePolicy) (op : Nat) (dst src : Spot) (total : Nat) : Nat → Nat → State → State × Nat × OpRes
  | 0, i, s => (s, i, if total ≤ i then .done else .more)
  | n + 1, i, s =>
    if total ≤ i then (s, i, .done)
    else match reduceElement iss pd ps op dst src i s with
      | (s, .more) => reduceFrom iss pd ps op dst src total n (i + 1) s
      | (s, r) => (s, i, r)

/-- The oldest operation of a context goes on by at most n elements. -/
def SyOp.run (op : SyOp) (n : Nat) (s : State) : State × Nat × OpRes :=
  match op.kind with
  | .arv _ _ => (s, 0, if s.storesAt op.iss.ctx .s then .done else .stuck)
  | .red o d r total pd ps => reduceFrom op.iss pd ps o d r total n op.pos s
  | .add sp as v va pol =>
    if s.updateWaits sp as then (s, 0, .stuck)
    else match s.updateMeets sp as with
      | some c => (s, 0, .ended c va)
      | none =>
        let s' := s.putUpdate sp as ((s.homeValue sp as + v.toNat) % 2 ^ (8 * as.length))
        (if sp.memory = .global then
          s'.touchFor op.iss.part op.iss.launch pol (fun _ => s.inPool op.iss.part va.toNat) (linesOf as) else s', 0, .done)

/-- Elements of an operation. -/
def SyOp.size (op : SyOp) : Nat := match op.kind with | .red _ _ _ n _ _ => n | _ => 1

/-- R342 to R344: it can be brought to its end now. -/
def syncOpReady (ctx : Nat) (s : State) : Bool :=
  match s.syncOp ctx with
  | none => false
  | some op => match (op.run op.size s).2.2 with | .stuck => false | _ => true

/-- R51: bytes an operation counts at its barrier. -/
def SyOp.bytes (op : SyOp) : Nat :=
  match op.kind with
  | .arv n _ => n
  | .red o _ _ n _ _ => n * (redWidth o).getD 0
  | .add _ _ _ _ _ => 0

/-- R51, R352: the bytes that its barrier counts once its elements below i are performed; its last byte is left for its arrival. -/
def SyOp.due (op : SyOp) (i : Nat) : Nat :=
  match op.kind with
  | .red o _ _ _ _ _ => min (i * (redWidth o).getD 0) (op.bytes - 1) - op.counted
  | _ => 0

/-- Bytes counted at an operation's barrier before its arrival. -/
def SyOp.count (op : SyOp) (i : Nat) (s : State) : State × SyOp :=
  match op.bar.bind fun a => s.countBytes op.iss.part a (op.due i) false with
  | some s => (s, { op with counted := op.counted + op.due i, pos := i })
  | none => (s, { op with pos := i })

/-- R342 to R344, R51: the rest of the operation, its arrival with the bytes still to count, its completion. -/
def finishSync (ctx : Nat) (s : State) : State :=
  match s.syncOp ctx with
  | none => s
  | some op =>
    let (s, i, r) := op.run op.size s
    let (s, op') := op.count i s
    let s := ({ s with eng := { s.eng with sy := s.eng.sy.erase op } }).dropRanges 4 ctx op.num
    let bad := match r with | .ended _ _ => true | _ => false
    let poison := bad || (match op.kind with | .arv _ p => p | _ => false)
    let s := s.engineArrive op.iss 4 op.bar (op.bytes - op'.counted) poison
    let s := match r with | .ended c v => s.engineFault op.iss 4 c v | _ => s
    s.completeOp 4 ctx op.num

/-- R341 SY_OPERATION_COMPLETE. -/
def execSyOperationComplete (ctx : Nat) (s : State) : Answer := .next (if syncOpReady ctx s then finishSync ctx s else s)

/-- R343, R51: elements of a reduction performed before it completes, and their bytes counted. -/
def syncAdvance (n ctx : Nat) (s : State) : State :=
  match s.syncOp ctx with
  | none => s
  | some op =>
    match op.kind with
    | .red _ _ _ _ _ _ =>
      let (s, i, _) := op.run n s
      let (s, op') := op.count i s
      { s with eng := { s.eng with sy := s.eng.sy.map fun o => if o = op then op' else o } }
    | _ => s

end Sys2Proof.Machine
end

