-- ==== Sys2Proof/Machine/Copy.lean ====
section
/-! DEFINITION. The copy engines (R345 to R368). -/

namespace Sys2Proof.Machine

/-! What an operation may touch (R348, R351). -/

/-- A side of an operation: its slot and direction, the spans it names before it reads data, as offset and length, and the extent
of the range it takes; none: the handle's whole extent. -/
structure Side where
  slot : Nat
  dest : Bool
  off : Dword
  spans : List (Nat × Nat)
  extent : Option (Nat × Nat)
  deriving DecidableEq, Repr

/-- A side that is one span. -/
def Side.one (slot : Nat) (dest : Bool) (off : Dword) (n : Nat) : Side := ⟨slot, dest, off, [(off.toNat, n)], some (off.toNat, n)⟩
/-- A side whose extent depends on data. -/
def Side.data (slot : Nat) (dest : Bool) (off : Dword) : Side := ⟨slot, dest, off, [], none⟩
/-- A side that is one span whose used extent depends on data. -/
def Side.stream (slot : Nat) (dest : Bool) (off : Dword) (n : Nat) : Side := ⟨slot, dest, off, [(off.toNat, n)], none⟩
/-- A side of rows. -/
def Side.rows (slot : Nat) (dest : Bool) (off : Dword) (rows bytes stride : Nat) : Side :=
  ⟨slot, dest, off, (List.range rows).map fun k => (off.toNat + k * stride, bytes), some (off.toNat, (rows - 1) * stride + bytes)⟩

/-- The source, destination and index list of an operation. -/
structure Sides where
  src : Option Side
  dst : Option Side
  list : Option Side
  deriving DecidableEq, Repr

/-- R343, R367: the bytes of an element of a remote reduction. -/
def redBytes (op : Nat) : Nat := (redWidth op).getD 4

def CpKind.sides : CpKind → Sides
  | .copy hs hd src dst n => ⟨some (.one hs false src n), some (.one hd true dst n), none⟩
  | .rows hs hd src dst r b ss ds => ⟨some (.rows hs false src r b ss), some (.rows hd true dst r b ds), none⟩
  | .fill hd dst n _ => ⟨none, some (.one hd true dst n), none⟩
  | .gather hs hd src dst hl l n e => ⟨some (.data hs false src), some (.one hd true dst (n * 2 ^ e)), some (.one hl false l (4 * n))⟩
  | .scatter hs hd src dst hl l n e => ⟨some (.one hs false src (n * 2 ^ e)), some (.data hd true dst), some (.one hl false l (4 * n))⟩
  | .zip hs hd src dst n w cap => ⟨some (.one hs false src (n * w)), some (.stream hd true dst cap), none⟩
  | .unzip hs hd src dst n w m _ => ⟨some (.stream hs false src m), some (.one hd true dst (n * w)), none⟩
  | .put hs src _ n _ => ⟨some (.one hs false src n), none, none⟩
  | .get hd dst _ n => ⟨none, some (.one hd true dst n), none⟩
  | .reduce hs src _ op n _ => ⟨some (.one hs false src (n * redBytes op)), none, none⟩

/-- R352: the byte count B of an operation. -/
def CpKind.bytes : CpKind → Nat
  | .copy _ _ _ _ n | .fill _ _ n _ | .get _ _ _ n | .put _ _ _ n _ => n
  | .rows _ _ _ _ r b _ _ => r * b
  | .gather _ _ _ _ _ _ n e | .scatter _ _ _ _ _ _ n e => n * 2 ^ e
  | .zip _ _ _ _ _ _ cap => cap
  | .unzip _ _ _ _ n w _ _ => n * w
  | .reduce _ _ _ op n _ => n * redBytes op

/-- R363: the remote address of an operation. -/
def CpKind.remote : CpKind → Option Dword
  | .put _ _ r _ _ | .get _ _ r _ | .reduce _ _ r _ _ _ => some r
  | _ => none

/-- R364: its remote barrier. -/
def CpKind.rbar : CpKind → Bar
  | .put _ _ _ _ b | .reduce _ _ _ _ _ b => b
  | _ => none

/-- R363: the module of a remote address. -/
def remoteMod (r : Dword) : Nat := bits r 63 55

/-! Checks (R345, R348). -/

/-- R42 for a span whose offset need not fit a dword. -/
def checkSpan (s : State) (i : Issuer) (h : Handle) (slot off n : Nat) : Check Unit :=
  if 2 ^ 64 ≤ off then failed .bound (boundValue slot (.ofNat 64 off)) else checkBound s (s.accessOf i) h slot (.ofNat 64 off) n

/-- R42 on every span a side names. -/
def checkSide (s : State) (i : Issuer) (d : Option Side) : Check (Option Handle) :=
  match d with
  | none => .ok none
  | some d => do
    let h ← handleOf s i d.slot d.off
    d.spans.forM fun p => checkSpan s i h d.slot p.1 p.2
    .ok (some h)

/-- R345, R362 item 4: the space of a side. -/
def checkSpace (kind : CpKind) (d : Option Side) (h : Option Handle) : Check Unit :=
  match d, h with
  | some d, some h =>
    let fence := match kind with | .unzip _ _ _ _ _ _ _ f => f | _ => false
    if h.space = .global ∨ (h.space = .scratch ∧ !fence) then .ok () else failed (if d.dest then .wperm else .rperm) (h.va d.off)
  | _, _ => .ok ()

/-- R359, R360, R367: the alignments. -/
def checkAligned (kind : CpKind) (src dst : Option Handle) : Check Unit :=
  let at' (h : Option Handle) (off : Dword) (n : Nat) : Check Unit :=
    match h with
    | some h => if (h.base + off.toNat) % n ≠ 0 then failed .align (h.va off) else .ok ()
    | none => .ok ()
  match kind with
  | .zip _ _ _ off _ _ _ => at' dst off 32
  | .unzip _ _ off _ _ _ _ _ => at' src off 32
  | .reduce _ off r op _ _ => do
    at' src off (redBytes op)
    if bits r 47 0 % redBytes op ≠ 0 then failed .align r else .ok ()
  | _ => .ok ()

/-- R348 items 1 to 3: the handles found. -/
def checkCopy (s : State) (i : Issuer) (kind : CpKind) : Check (Option Handle × Option Handle × Option Handle) := do
  let d := kind.sides
  let src ← checkSide s i d.src
  let dst ← checkSide s i d.dst
  let list ← checkSide s i d.list
  checkSpace kind d.src src
  checkSpace kind d.dst dst
  checkSpace kind d.list list
  checkAligned kind src dst
  .ok (src, dst, list)

/-- R351: the ranges of the issuing core's scoreboard that an operation takes as it launches. -/
def rangesOf (s : State) (k : Cmd) (num : Nat) (kind : CpKind) : List Range :=
  let d := kind.sides
  [d.src, d.dst, d.list].filterMap fun x => x.bind fun x =>
    match handleOf s k.iss x.slot x.off with
    | .error _ => none
    | .ok h =>
      if h.space ≠ .scratch then none
      else match x.extent with
        | some (o, n) => some ⟨h.base + o, h.base + o + n, x.dest, k.eng, k.iss.ctx, num⟩
        | none => some ⟨h.base, h.base + h.bound, x.dest, k.eng, k.iss.ctx, num⟩

/-! Launch words (R347, R353). -/

/-- R347, R351: an operation is launched, its ranges taken. -/
def launchCopy (kind : CpKind) (bar : Bar) (s : State) (k : Cmd) (st : List Dword) : WordRes :=
  let num := s.nextNum k.eng k.iss.ctx
  match s.takeRanges (rangesOf s k num kind) with
  | none => .wait
  | some s =>
    let op : CpOp := ⟨k.eng, k.iss, num, kind, bar, false, none, none, none, 0, 0,
      (kind.remote.bind fun r => s.peerOf k.iss.part (remoteMod r)).getD 0, false, 0, false, none, [], 0, false, none⟩
    let s := s.setEngCtx (s.engCtx k.eng k.iss.ctx).launchOp
    .ok { s with eng := { s.eng with cp := s.eng.cp ++ [op] } } st

/-- R347: the barrier operand and the limits of a launch word. -/
def copyWord (bar : Dword) (fine : Bool) (kind : CpKind) (s : State) (k : Cmd) (st : List Dword) : WordRes :=
  match barOperand bar with
  | none => eopx k
  | some b => if fine then launchCopy kind b s k st else eopx k

/-- A value from lo to hi. -/
def inRange (v : Dword) (lo hi : Nat) : Bool := decide (lo ≤ v.toNat) && decide (v.toNat ≤ hi)

/-- R354 `ccopy`: dst offset, src offset, n, bar. -/
def execCcopy (s d : BitVec 4) (st : State) : Answer :=
  runWord false (popping 4 fun x k vs r => match vs with
    | [dst, src, n, bar] => copyWord bar (inRange n 1 (2 ^ 30)) (.copy s.toNat d.toNat src dst n.toNat) x k r
    | _ => estk k) st

/-- R355 `c2d`: dst offset, src offset, shape, strides, bar. -/
def execC2d (s d : BitVec 4) (st : State) : Answer :=
  runWord false (popping 5 fun x k vs r => match vs with
    | [dst, src, shape, strides, bar] =>
      let rows := bits shape 47 32 + 1
      let n := bits shape 31 0
      copyWord bar (bits shape 63 48 == 0 && decide (1 ≤ n) && decide (n ≤ 2 ^ 20) && decide (rows * n ≤ 2 ^ 30))
        (.rows s.toNat d.toNat src dst rows n (bits strides 31 0) (bits strides 63 32)) x k r
    | _ => estk k) st

/-- R356 `cfill`: offset, n, pattern, bar. -/
def execCfill (d : BitVec 4) (st : State) : Answer :=
  runWord false (popping 4 fun x k vs r => match vs with
    | [dst, n, pat, bar] => copyWord bar (inRange n 1 (2 ^ 30)) (.fill d.toNat dst n.toNat pat) x k r
    | _ => estk k) st

/-- R357: the list and spec operands: list slot and offset, n and e; none: a value out of range. -/
def listSpec (list spec : Dword) : Option (Nat × Dword × Nat × Nat) :=
  let e := bits spec 35 32
  let n := bits spec 31 0
  if bits spec 63 36 ≠ 0 ∨ 9 < e ∨ n = 0 ∨ 2 ^ 20 < n ∨ 2 ^ 30 < n * 2 ^ e then none
  else some (bits list 63 60, .ofNat 64 (bits list 59 0), n, e)

/-- R357 `cgath`: dst offset, src offset, list, spec, bar. -/
def execCgath (s d : BitVec 4) (st : State) : Answer :=
  runWord false (popping 5 fun x k vs r => match vs with
    | [dst, src, list, spec, bar] =>
      (match listSpec list spec with
        | some (hl, l, n, e) => copyWord bar true (.gather s.toNat d.toNat src dst hl l n e) x k r
        | none => eopx k)
    | _ => estk k) st

/-- R357 `cscat`: dst offset, src offset, list, spec, bar. -/
def execCscat (s d : BitVec 4) (st : State) : Answer :=
  runWord false (popping 5 fun x k vs r => match vs with
    | [dst, src, list, spec, bar] =>
      (match listSpec list spec with
        | some (hl, l, n, e) => copyWord bar true (.scatter s.toNat d.toNat src dst hl l n e) x k r
        | none => eopx k)
    | _ => estk k) st

/-- R358: a zspec operand: n and w; none: out of range. -/
def zspecOf (v : Dword) : Option (Nat × Nat) :=
  let n := bits v 22 0
  if bits v 63 26 ≠ 0 ∨ bit v 23 ∨ n = 0 ∨ 2 ^ 22 < n ∨ bits v 25 24 = 3 then none
  else some (n, 2 ^ bits v 25 24)

/-- R359 `czip`: dst offset, src offset, zspec, cap, bar. -/
def execCzip (s d : BitVec 4) (st : State) : Answer :=
  runWord false (popping 5 fun x k vs r => match vs with
    | [dst, src, z, cap, bar] =>
      (match zspecOf z with
        | some (n, w) => copyWord bar (inRange cap 32 (2 ^ 30)) (.zip s.toNat d.toNat src dst n w cap.toNat) x k r
        | none => eopx k)
    | _ => estk k) st

/-- R360, R362: the operands of `cunz` and `cdf`. -/
def unzipWord (fence : Bool) (hs hd : Nat) (x : State) (k : Cmd) (vs r : List Dword) : WordRes :=
  match vs with
  | [dst, src, z, m, bar] =>
    (match zspecOf z with
      | some (n, w) => copyWord bar (inRange m 96 (2 ^ 30)) (.unzip hs hd src dst n w m.toNat fence) x k r
      | none => eopx k)
  | _ => estk k

/-- R360 `cunz`: dst offset, src offset, zspec, srcmax, bar. -/
def execCunz (s d : BitVec 4) (st : State) : Answer := runWord false (popping 5 (unzipWord false s.toNat d.toNat)) st

/-- R362 `cdf`: the operands of `cunz`. -/
def execCdf (s d : BitVec 4) (st : State) : Answer := runWord false (popping 5 (unzipWord true s.toNat d.toNat)) st

/-- R363, R433: a remote address a partition may name. -/
def remoteOk (s : State) (part : Nat) (r : Dword) : Bool :=
  bits r 54 48 == 0 && remoteMod r != s.mgmt.modid.toNat && (s.peerOf part (remoteMod r)).isSome

/-- R365 `crput`: remote dst, src offset, n, lbar, rbar. -/
def execCrput (s : BitVec 4) (st : State) : Answer :=
  runWord false (popping 5 fun x k vs r => match vs with
    | [dst, src, n, lbar, rbar] =>
      (match barOperand rbar with
        | some rb => copyWord lbar (inRange n 1 (2 ^ 30) && remoteOk x k.iss.part dst) (.put s.toNat src dst n.toNat rb) x k r
        | none => eopx k)
    | _ => estk k) st

/-- R366 `crget`: dst offset, remote src, n, bar. -/
def execCrget (d : BitVec 4) (st : State) : Answer :=
  runWord false (popping 4 fun x k vs r => match vs with
    | [dst, src, n, bar] => copyWord bar (inRange n 1 (2 ^ 30) && remoteOk x k.iss.part src) (.get d.toNat dst src n.toNat) x k r
    | _ => estk k) st

/-- R367 `crred`: remote dst, src offset, rspec, lbar, rbar. -/
def execCrred (s : BitVec 4) (st : State) : Answer :=
  runWord false (popping 5 fun x k vs r => match vs with
    | [dst, src, spec, lbar, rbar] =>
      (match barOperand rbar with
        | some rb =>
          let op := bits spec 26 24
          copyWord lbar (bits spec 63 27 == 0 && bits spec 23 20 == 0 && decide (op ≤ 4) && remoteOk x k.iss.part dst)
            (.reduce s.toNat src dst op (bits spec 19 0 + 1) rb) x k r
        | none => eopx k)
    | _ => estk k) st

/-! Reading and writing (R345, R349, R350). -/

/-- Bytes of a side, read as they are reached: the leaves used. The first marked byte ends it (R348). -/
def readSide (s : State) (i : Issuer) (h : Handle) (off n : Nat) : Check (List Byte × List Leaf) :=
  let vas := span (h.base + off) n
  if h.space = .scratch then .ok (vas.map (cellGet s.core.scratch), [])
  else do
    let (as, ls) ← mapReading s s.coherentByte i.part vas
    .ok (as.map s.coherentByte, ls)

/-- R42, R275, R404: the lines of a side that has been read brought into their slices, its leaves held. -/
def touchSide (i : Issuer) (h : Handle) (off n : Nat) (s : State) : State :=
  if h.space = .scratch then s
  else match mapBytes s s.coherentByte i.part .read ((span (h.base + off) n).filter fun va => va % 128 = 0 || va = h.base + off) with
    | .ok (as, ls) => (s.holdLeaves i.part ls).touchFor i.part i.launch h.policy (s.poolLine i.part ls) (linesOf as)
    | .error _ => s

/-- R348, R414: how a piece whose bytes fail ends: it waits for a scrub, or ends the operation. -/
def OpRes.stop (c : Cause) (v : Dword) : OpRes := if c = .none then .stuck else .ended c v

/-- R51, R352: bytes of an operation counted at its barrier, but for its last, which its arrival counts. -/
def CpOp.count (op : CpOp) (n : Nat) (poison : Bool) (s : State) : State × CpOp :=
  let n := min n (op.kind.bytes - op.counted - 1)
  match op.bar with
  | none => (s, op)
  | some a => match s.countBytes op.iss.part a n poison with
    | some s => (s, { op with counted := op.counted + n })
    | none => (s, op)

/-- Bytes written to a side at once, as a part of its transfer (R53, R349). A byte in host memory is performed at `.s` (R345), and
`cdf` discards the copies of what it has written (R362 item 3). -/
def writeSide (op : CpOp) (h : Handle) (off : Nat) (bs : List Byte) (s : State) : State × OpRes :=
  let vas := span (h.base + off) bs.length
  if h.space = .scratch then (s.engineWrite .scratch false (vas.zip bs), .more)
  else match mapBytes s s.coherentByte op.iss.part .write vas with
    | .error (c, v) => (s, .stop c v)
    | .ok (as, ls) =>
      if as.any s.countedWaits ∨ s.transferWaits as then (s, .stuck)
      else
        let fence := match op.kind with | .unzip _ _ _ _ _ _ _ f => f | _ => false
        let lines := linesOf as
        let s := if fence then lines.foldl State.letGoLine s else s
        let s := ((s.holdLeaves op.iss.part ls).writeFor op.iss op.eng .global true (as.zip bs))
        let lo := h.base + off
        let s := (s.noteTransfer (op.eng, op.iss.ctx, op.num, op.idx) lo (lo + bs.length) lines).touchFor op.iss.part op.iss.launch h.policy
          (s.poolLine op.iss.part ls) lines
        (if fence then s.dropWords fun w => lines.contains (lineOf (4 * w)) else s, .more)

/-- R349, R409: the bytes that go together at a place of a transfer with `left` bytes to go: a whole line, else what is left of a
sector. -/
def chunkAt (va left : Nat) : Nat := if va % 128 = 0 ∧ 128 ≤ left then 128 else min left (32 - va % 32)

/-- Bytes of one transfer written in ascending sectors; the fuel bounds the chunks. -/
def writeAll (op : CpOp) (h : Handle) : Nat → Nat → List Byte → State → State × OpRes
  | 0, _, bs, s => (s, if bs.isEmpty then .done else .more)
  | f + 1, off, bs, s =>
    if bs.isEmpty then (s, .done)
    else
      let n := chunkAt (h.base + off) bs.length
      match writeSide op h off (bs.take n) s with
      | (s, .more) => writeAll op h f (off + n) (bs.drop n) s
      | r => r

/-- R348, R349: the next bytes of a transfer of n bytes from byte `pos`: how many went. A source fault in a whole line leaves its
earlier sectors to go. -/
def copyChunk (op : CpOp) (hs hd : Handle) (so do' n pos : Nat) (s : State) : State × Nat × OpRes :=
  let k := chunkAt (hd.base + do' + pos) (n - pos)
  let go (k : Nat) (s : State) (bs : List Byte) : State × Nat × OpRes :=
    match writeSide op hd (do' + pos) bs (touchSide op.iss hs (so + pos) k s) with
    | (s, .more) => (s, k, .more)
    | (s, r) => (s, 0, r)
  match readSide s op.iss hs (so + pos) k with
  | .ok (bs, _) => go k s bs
  | .error (c, v) =>
    if k ≤ 32 then (s, 0, .stop c v)
    else match readSide s op.iss hs (so + pos) 32 with
      | .ok (bs, _) => go 32 s bs
      | .error (c, v) => (s, 0, .stop c v)

/-- R356: the next bytes of a fill. -/
def fillChunk (op : CpOp) (hd : Handle) (do' n pos : Nat) (pat : Dword) (s : State) : State × Nat × OpRes :=
  let k := chunkAt (hd.base + do' + pos) (n - pos)
  let bs := (span pos k).map fun j => (.ofNat 8 (bits pat (8 * (j % 8) + 7) (8 * (j % 8))) : Byte)
  match writeSide op hd (do' + pos) bs s with
  | (s, .more) => (s, k, .more)
  | (s, r) => (s, 0, r)

/-- R357: the offset that list word k gives an element of a gather or scatter, read once and checked. -/
def elementPlace (s : State) (op : CpOp) (hx hl : Handle) (slot : Nat) (off l : Dword) (e k : Nat) : Check Nat :=
  match op.elem with
  | some o => .ok o
  | none => do
    let (bs, _) ← readSide s op.iss hl (l.toNat + 4 * k) 4
    let o := off.toNat + leNat bs * 2 ^ e
    checkSpan s op.iss hx slot o (2 ^ e)
    .ok o

/-! The Z-form (R358 to R361). -/

/-- Elements of w bytes. -/
def elements (w : Nat) : Nat → List Byte → List (List Byte)
  | 0, _ => []
  | n + 1, bs => bs.take w :: elements w n (bs.drop w)

/-- R358: LEN of a block with nz non-zero elements. -/
def zLen (nz w : Nat) : Nat := 96 + 32 * ((nz * w + 31) / 32)

/-- R358: a block of dense elements. -/
def zBlock (w : Nat) (es : List (List Byte)) : List Byte :=
  let kept := es.filter fun e => e.any (· != 0)
  let len := zLen kept.length w
  let mask := (es.zipIdx.map fun p => if p.1.any (· != 0) then 2 ^ p.2 else 0).sum
  let body := leBytes 4 len ++ leBytes 2 kept.length ++ leBytes 1 (w / 2) ++ leBytes 25 0 ++ leBytes 64 mask ++ kept.flatten
  body ++ List.replicate (len - body.length) 0

/-- R358: elements of block q of n. -/
def zCount (n q : Nat) : Nat := min 512 (n - 512 * q)

/-- R361: ZOVR's cause value for a stream that does not fit. -/
def zShort (q total : Nat) : Dword := .ofNat 64 (q * 2 ^ 32 + total)

/-- R359, R361: the blocks of a source from block q, with the stream so far: the stream that fits, and how it ended. -/
def zipBlocks (s : State) (op : CpOp) (hs : Handle) (so n w cap : Nat) : Nat → Nat → List Byte → List Byte × OpRes
  | 0, _, out => (out, .done)
  | f + 1, q, out =>
    match readSide s op.iss hs (so + 512 * q * w) (zCount n q * w) with
    | .error (c, v) => (out, .stop c v)
    | .ok (bs, _) =>
      let b := zBlock w (elements w (zCount n q) bs)
      let block (j : Nat) : Check (List Byte × List Leaf) := readSide s op.iss hs (so + 512 * j * w) (zCount n j * w)
      if out.length + b.length ≤ cap then zipBlocks s op hs so n w cap f (q + 1) (out ++ b)
      else if (span (q + 1) f).any fun j => (block j).awaits then (out, .stuck)
      else
        let rest := (span (q + 1) f).foldl (fun (t : Option Nat) j => t.bind fun t =>
          match block j with
          | .error _ => none
          | .ok (bs, _) => some (t + (zBlock w (elements w (zCount n j) bs)).length)) (some (out.length + b.length))
        (out, .ended .zovr (zShort q (rest.getD 0xFFFFFFFF)))

/-- R361: the reason a block's header fails its tests, 0 for none. -/
def zReason (hdr : List Byte) (n q w pos m : Nat) : Nat :=
  let num (o k : Nat) : Nat := leNat ((hdr.drop o).take k)
  let len := num 0 4
  let nz := num 4 2
  let mask := num 32 64
  let ones := ((List.range 512).filter mask.testBit).length
  if len ≠ zLen nz w then 1
  else if ones ≠ nz then 2
  else if num 6 1 ≠ w / 2 ∨ num 7 25 ≠ 0 then 3
  else if 2 ^ zCount n q ≤ mask ∨ zCount n q < nz then 4
  else if m < pos + len then 5
  else 0

/-- R361: the cause value of a decode error. -/
def zBad (reason : Nat) (h : Handle) (off : Nat) : Dword := .ofNat 64 (2 ^ 63 + reason * 2 ^ 56 + (h.base + off) % 2 ^ 48)

/-- R360: a block's dense elements, by its mask. -/
def zDense (w mask : Nat) : Nat → Nat → List Byte → List Byte
  | 0, _, _ => []
  | f + 1, i, vs =>
    if mask.testBit i then vs.take w ++ zDense w mask f (i + 1) (vs.drop w)
    else List.replicate w 0 ++ zDense w mask f (i + 1) vs

/-- R360: the dense bytes of a stream from block q at stream position pos, and how it ended. -/
def unzipBlocks (s : State) (op : CpOp) (hs : Handle) (so n w m : Nat) : Nat → Nat → Nat → List Byte → List Byte × OpRes
  | 0, _, _, out => (out, .done)
  | f + 1, q, pos, out =>
    if m < pos + 96 then (out, .ended .zovr (zBad 5 hs (so + pos)))
    else match readSide s op.iss hs (so + pos) 96 with
      | .error (c, v) => (out, .stop c v)
      | .ok (hdr, _) =>
        match zReason hdr n q w pos m with
        | 0 =>
          let nz := leNat ((hdr.drop 4).take 2)
          (match readSide s op.iss hs (so + pos + 96) (nz * w) with
            | .error (c, v) => (out, .stop c v)
            | .ok (vs, _) =>
              unzipBlocks s op hs so n w m f (q + 1) (pos + zLen nz w)
                (out ++ zDense w (leNat ((hdr.drop 32).take 64)) (zCount n q) 0 vs))
        | r => (out, .ended .zovr (zBad r hs (so + pos)))

/-- Bytes written as one transfer, and how the operation stands after them. -/
def writeThen (op : CpOp) (hd : Handle) (do' : Nat) (out : List Byte) (r : OpRes) (s : State) : State × OpRes :=
  match writeAll op hd (out.length + 1) do' out s with
  | (s, .done) => (s, r)
  | x => x

/-! Progress. -/

/-- k more bytes of the span, row or element in hand, of n bytes, have gone. -/
def CpOp.advance (op : CpOp) (n k : Nat) : CpOp :=
  if op.pos + k < n then { op with pos := op.pos + k } else { op with pos := 0, idx := op.idx + 1, elem := none }

/-- The bytes of a local operation that have gone. -/
def CpOp.moved (op : CpOp) : Nat :=
  match op.kind with
  | .rows _ _ _ _ _ b _ _ => op.idx * b + op.pos
  | .gather _ _ _ _ _ _ _ e | .scatter _ _ _ _ _ _ _ e => op.idx * 2 ^ e + op.pos
  | .copy _ _ _ _ n | .fill _ _ n _ => if op.idx = 0 then op.pos else n
  | .zip .. | .unzip .. | .put .. | .get .. | .reduce .. => 0

/-- One piece of a local operation. -/
def copyPiece (op : CpOp) (s : State) : State × CpOp × OpRes :=
  let moved (n : Nat) (r : State × Nat × OpRes) : State × CpOp × OpRes := (r.1, op.advance n r.2.1, r.2.2)
  let element (hl : Handle) (at' n : Nat) (o : Check Nat) (go : CpOp → Nat → State → State × Nat × OpRes) :
      State × CpOp × OpRes :=
    match o with
    | .error (c, v) => (s, op, .stop c v)
    | .ok o =>
      let s := if op.elem.isNone then touchSide op.iss hl at' 4 s else s
      let op := { op with elem := some o }
      let r := go op o s
      (r.1, op.advance n r.2.1, r.2.2)
  let whole (r : State × OpRes) : State × CpOp × OpRes := (r.1, op, r.2)
  match op.kind, op.src, op.dst, op.list with
  | .copy _ _ src dst n, some hs, some hd, _ =>
    if op.idx ≠ 0 then (s, op, .done) else moved n (copyChunk op hs hd src.toNat dst.toNat n op.pos s)
  | .rows _ _ src dst r b ss ds, some hs, some hd, _ =>
    if r ≤ op.idx then (s, op, .done)
    else moved b (copyChunk op hs hd (src.toNat + op.idx * ss) (dst.toNat + op.idx * ds) b op.pos s)
  | .fill _ dst n pat, _, some hd, _ =>
    if op.idx ≠ 0 then (s, op, .done) else moved n (fillChunk op hd dst.toNat n op.pos pat s)
  | .gather hn _ src dst _ l n e, some hs, some hd, some hl =>
    if n ≤ op.idx then (s, op, .done)
    else element hl (l.toNat + 4 * op.idx) (2 ^ e) (elementPlace s op hs hl hn src l e op.idx) fun op o s =>
      copyChunk op hs hd o (dst.toNat + op.idx * 2 ^ e) (2 ^ e) op.pos s
  | .scatter _ hn src dst _ l n e, some hs, some hd, some hl =>
    if n ≤ op.idx then (s, op, .done)
    else element hl (l.toNat + 4 * op.idx) (2 ^ e) (elementPlace s op hd hl hn dst l e op.idx) fun op o s =>
      copyChunk op hs hd (src.toNat + op.idx * 2 ^ e) o (2 ^ e) op.pos s
  | .zip _ _ src dst n w cap, some hs, some hd, _ =>
    let (out, r) := zipBlocks s op hs src.toNat n w cap ((n + 511) / 512) 0 []
    whole (writeThen op hd dst.toNat out r (touchSide op.iss hs src.toNat (n * w) s))
  | .unzip _ _ src dst n w m _, some hs, some hd, _ =>
    let (out, r) := unzipBlocks s op hs src.toNat n w m ((n + 511) / 512) 0 0 []
    whole (writeThen op hd dst.toNat out r (touchSide op.iss hs src.toNat m s))
  | _, _, _, _ => (s, op, .done)

/-- R410: between two states a partial write has met an uncorrectable error. -/
def State.metError (s s' : State) : Bool :=
  s.fab.latent.any fun l => !s'.fab.latent.contains l && s'.fab.poison.contains l

/-- At most n pieces. -/
def copyRun : Nat → CpOp → State → State × CpOp × OpRes
  | 0, op, s => (s, op, .more)
  | n + 1, op, s =>
    match copyPiece op s with
    | (s', op, .more) => copyRun n { op with bad := op.bad || s.metError s' } s'
    | (s', op, r) => (s', { op with bad := op.bad || s.metError s' }, r)

/-- The oldest operation of a context on an engine. -/
def State.copyOp (s : State) (eng ctx : Nat) : Option CpOp := s.eng.cp.find? fun o => o.eng = eng && o.iss.ctx == ctx

/-- An operation replaced in its place. -/
def State.putCopy (s : State) (o n : CpOp) : State :=
  { s with eng := { s.eng with cp := s.eng.cp.map fun x => if x.eng = o.eng ∧ x.iss.ctx = o.iss.ctx ∧ x.num = o.num then n else x } }

/-! Remote operations (R363 to R368). -/

/-- R363: a remote address moved on by n bytes. -/
def remoteAt (r : Dword) (n : Nat) : Dword := .ofNat 64 (r.toNat / 2 ^ 48 * 2 ^ 48 + (bits r 47 0 + n) % 2 ^ 48)

/-- R365, R409: bytes of a remote operation that go in one flit: a whole line of a put, else what is left of a sector at the far end;
one element of a reduction. -/
def CpKind.flitBytes (k : CpKind) (pos : Nat) : Nat :=
  match k with
  | .put _ _ r n _ => chunkAt (bits r 47 0 + pos) (n - pos)
  | .get _ _ r n => min (n - pos) (32 - (bits r 47 0 + pos) % 32)
  | .reduce _ _ _ op _ _ => redBytes op
  | _ => 0

/-- R367: a reduction's flit names its op in bits[54:48] of its tag, which R363 leaves 0: op + 1 (log 41). -/
def redTag (r : Dword) (op : Nat) : Dword := .ofNat 64 (r.toNat + (op + 1) * 2 ^ 48)

/-- R368: the fault of a remote operation whose module is fenced or has no link left. -/
def State.lostRemote (s : State) (op : CpOp) : Option (Cause × Dword) :=
  match op.kind.remote with
  | some r => if s.mgmt.linkst = 0 ∨ s.moduleFenced (remoteMod r) then some (.hostlost, remoteAt r op.pos) else none
  | none => none

/-- R347, R348, R364: a remote operation has met a fault other than R368's: its remote barrier gets its one arrival, poisoned, before
it ends. -/
def State.failRemote (s : State) (op : CpOp) (c : Cause) (v : Dword) : State :=
  let op' := { op with fault := some (c, v), sent := false, last := false }
  match op.kind.rbar, op.kind.remote with
  | some a, some r =>
    if (s.lostRemote op).isSome then s.putCopy op op'
    else
      let m := remoteMod r
      (s.sendFlit ⟨4, true, s.mgmt.modid.toNat, m, op.iss.part, op.peer, .ofNat 64 a,
        leBytes 4 op.kind.bytes⟩).putCopy op { op' with sent := true, last := true }
  | _, _ => s.putCopy op op'

/-- R434: what a remote operation sends next: its bytes or its request, then the arrival on its remote barrier. How the payload
names a request's length and an arrival's bytes is log 41. A source fault in a whole line leaves its earlier sectors to go. -/
def State.sendRemote (s : State) (op : CpOp) (r : Dword) : State :=
  let m := remoteMod r
  let n := op.kind.flitBytes op.pos
  let send (kind : Nat) (tag : Dword) (pay : List Byte) (n : Nat) (op : CpOp) (s : State) : State :=
    (s.sendFlit ⟨kind, false, s.mgmt.modid.toNat, m, op.iss.part, op.peer, tag, pay⟩).putCopy op { op with sent := true, out := n }
  let stop (c : Cause) (v : Dword) : State := s.failRemote op c v
  if op.kind.bytes ≤ op.pos then
    match op.kind.rbar with
    | some a => send 4 (.ofNat 64 a) (leBytes 4 op.kind.bytes) 0 { op with last := true } s
    | none => s
  else match op.kind, op.src with
    | .put _ src _ _ _, some hs =>
      let go (n : Nat) (or : Cause → Dword → State) : State := match readSide s op.iss hs (src.toNat + op.pos) n with
        | .ok (bs, _) => send 1 (remoteAt r op.pos) bs n op (touchSide op.iss hs (src.toNat + op.pos) n s)
        | .error (c, v) => or c v
      go n fun c v => if n ≤ 32 then stop c v else go 32 stop
    | .reduce _ src _ o _ _, some hs =>
      (match readSide s op.iss hs (src.toNat + op.pos) n with
        | .ok (bs, _) => send 1 (redTag (remoteAt r op.pos) o) bs n op (touchSide op.iss hs (src.toNat + op.pos) n s)
        | .error (c, v) => stop c v)
    | .get _ _ _ _, _ => send 2 (remoteAt r op.pos) (leBytes 1 n) n op s
    | _, _ => s

/-- R414: the source bytes that a remote operation sends next cannot be read until a line's scrub. -/
def CpOp.sourceWaits (op : CpOp) (s : State) : Bool :=
  let n := min 32 (op.kind.flitBytes op.pos)
  decide (op.pos < op.kind.bytes) && (match op.kind, op.src with
  | .put _ src _ _ _, some h => (readSide s op.iss h (src.toNat + op.pos) n).awaits
  | .reduce _ src _ _ _ _, some h => (readSide s op.iss h (src.toNat + op.pos) n).awaits
  | _, _ => false)

/-- R433: a flit comes from the module of a remote operation, from its peer there and for its partition. -/
def CpOp.isPeer (op : CpOp) (f : Flit) : Bool :=
  op.kind.remote.any (remoteMod · == f.srcMod) && op.peer == f.srcPart && op.iss.part == f.dstPart

/-- The remote operation that awaits an answer under a flit's tag, from its sender. -/
def State.awaiting (s : State) (f : Flit) : Option CpOp :=
  s.eng.cp.find? fun op => op.sent && (op.last || op.fault.isNone) && op.isPeer f && (match op.kind.remote with
    | some r => f.tag == (if op.last then .ofNat 64 (op.kind.rbar.getD 0) else remoteAt r op.pos)
    | none => false)

/-- R364, R414: a started remote operation that has waited for a scrub, with bytes to send. -/
def State.stalled (s : State) (op : CpOp) : Bool :=
  op.started && op.kind.remote.isSome && !op.sent && op.fault.isNone && decide (op.pos < op.kind.bytes) && (s.lostRemote op).isNone

/-- What a remote operation sends next goes, unless its source bytes wait for a scrub. -/
def State.sendNext (s : State) (op : CpOp) (r : Dword) : State := if op.sourceWaits s then s else s.sendRemote op r

/-- R365, R366: the answer for its bytes has come, and n of them are performed: these are counted, and the next go, or the operation
has no more to do. -/
def State.remoteMoved (s : State) (op : CpOp) (n : Nat) : State :=
  match op.kind.remote with
  | none => s
  | some r =>
    let (s, op') := { op with pos := op.pos + op.out, sent := false }.count n op.bad s
    (s.putCopy op op').sendNext op' r

/-- R349, R366: bytes received by a get, from its offset on, written as far as whole chunks of its transfer have come; the fuel bounds
the chunks. -/
def landChunks (op : CpOp) (h : Handle) (chunk : Nat → Nat → Nat) : Nat → Nat → Nat → List Byte → State → State × List Byte × OpRes
  | 0, _, _, got, s => (s, got, .more)
  | f + 1, off, left, got, s =>
    let k := chunk (h.base + off) left
    if left = 0 ∨ got.length < k then (s, got, .more)
    else match writeSide op h off (got.take k) s with
      | (s, .more) => landChunks op h chunk f (off + k) (left - k) (got.drop k) s
      | (s, r) => (s, got, r)

/-- R349: what is left of a sector. -/
def sectorAt (va left : Nat) : Nat := min left (32 - va % 32)

/-- The bytes a get holds, written as far as the chunks given allow. -/
def CpOp.land (op : CpOp) (chunk : Nat → Nat → Nat) (s : State) : State × CpOp × OpRes :=
  match op.kind, op.dst with
  | .get _ dst _ n, some h =>
    let at' := op.pos - op.got.length
    let (s', got, r) := landChunks op h chunk (op.got.length + 1) (dst.toNat + at') (n - at') op.got s
    (s', { op with got := got, bad := op.bad || s.metError s' }, r)
  | _, _ => (s, op, .more)

/-- R348, R368: as a get ends by a fault its whole sectors are performed; a byte not performed counts as not acknowledged. -/
def CpOp.landRest (op : CpOp) (s : State) : State × CpOp × OpRes :=
  let (s, op, r) := op.land sectorAt s
  (s, { op with pos := op.pos - op.got.length, got := [] }, r)

/-! Events. -/

/-- R362 item 2: earlier operations that write local memory have ended. -/
def State.fencedFor (s : State) (op : CpOp) : Bool :=
  match op.kind with
  | .unzip _ _ _ _ _ _ _ true => (s.eng.cp.takeWhile (· != op)).all fun o => o.kind.sides.dst.isNone
  | _ => true

/-- R346: the context's oldest operation has not started, or has waited for a scrub that is over (R414). -/
def copyStartReady (eng ctx : Nat) (s : State) : Bool :=
  match s.copyOp eng ctx with
  | some op =>
    if op.started then s.stalled op && !op.sourceWaits s
    else s.fencedFor op && !(checkCopy s op.iss op.kind).awaits
  | none => false

/-- R346, R348: it starts: its checks; a remote operation sends its first flit. One that waited goes on. -/
def startCopy (eng ctx : Nat) (s : State) : State :=
  match s.copyOp eng ctx with
  | none => s
  | some op =>
    if op.started then (match op.kind.remote with
      | some r => s.sendNext op r
      | none => s)
    else match checkCopy s op.iss op.kind with
    | .error (c, v) => s.failRemote { op with started := true } c v
    | .ok (hs, hd, hl) =>
      let op' := { op with started := true, src := hs, dst := hd, list := hl }
      let s := s.putCopy op op'
      match op.kind.remote with
      | some r => if (s.lostRemote op').isSome then s else s.sendNext op' r
      | none => s

/-- R346 COPY_OPERATION_START. -/
def execCopyOperationStart (eng ctx : Nat) (s : State) : Answer :=
  .next (if copyStartReady eng ctx s then startCopy eng ctx s else s)

/-- Pieces an operation can have at most. -/
def CpKind.pieces (k : CpKind) : Nat :=
  match k with
  | .rows _ _ _ _ r b _ _ => r * (b + 1) + 1
  | .gather _ _ _ _ _ _ n e | .scatter _ _ _ _ _ _ n e => n * (2 ^ e + 1) + 1
  | k => k.bytes + 2

/-- How a started operation ends from here: the state its rest leaves, its fault, and whether it counts the rest of its bytes with the
poison flag; none: it cannot end yet. -/
def copyEnd (op : CpOp) (s : State) : Option (State × Option (Cause × Dword) × Bool) :=
  let remote := op.kind.remote.isSome
  if remote && op.fault.isNone && decide (op.kind.bytes ≤ op.pos) && !op.sent then some (s, none, op.bad)
  else if op.fault.isSome || (s.lostRemote op).isSome then
    if op.sent && (s.lostRemote op).isNone then none
    else match op.landRest s with
      | (_, _, .stuck) => none
      | (s', op', _) => some (s', op'.fault <|> s.lostRemote op', true)
  else if remote then none
  else match copyRun op.kind.pieces op s with
    | (s, op, .done) => some (s, none, op.bad)
    | (s, _, .ended c v) => some (s, some (c, v), true)
    | _ => none

/-- R348, R352: it can end now. -/
def copyEndReady (eng ctx : Nat) (s : State) : Bool :=
  match s.copyOp eng ctx with
  | some op => op.started && (copyEnd op s).isSome
  | none => false

/-- R348, R351, R352: the rest of it, its arrival, its record, its ranges and its completion. -/
def finishCopy (eng ctx : Nat) (s : State) : State :=
  match s.copyOp eng ctx with
  | none => s
  | some op =>
    match copyEnd op s with
    | none => s
    | some (s, f, poison) =>
      let s : State := { s with eng := { s.eng with cp := s.eng.cp.filter fun o => ¬ (o.eng = eng ∧ o.iss.ctx = ctx ∧ o.num = op.num) } }
      let s := (s.dropRanges eng ctx op.num).engineArrive op.iss eng op.bar (op.kind.bytes - op.counted) poison
      let s := match f with | some (c, v) => s.engineFault op.iss eng c v | none => s
      s.completeOp eng ctx op.num

/-- R346 COPY_OPERATION_COMPLETE. -/
def execCopyOperationComplete (eng ctx : Nat) (s : State) : Answer :=
  .next (if copyEndReady eng ctx s then finishCopy eng ctx s else s)

/-- R349, R51: pieces of a started local operation performed before it ends, and their bytes counted. -/
def copyAdvance (n eng ctx : Nat) (s : State) : State :=
  match s.copyOp eng ctx with
  | none => s
  | some op =>
    let splits := match op.kind with | .zip .. | .unzip .. => false | k => k.remote.isNone
    if op.started && op.fault.isNone && splits then
      let (s, op', _) := copyRun n op s
      let (s, op') := op'.count (op'.moved - op.moved) op'.bad s
      s.putCopy op op'
    else s

end Sys2Proof.Machine
end

