-- ==== Sys2Proof/Machine/EngineWords.lean ====
section
/-! DEFINITION. The engine words every engine shares: R44, R45. -/

namespace Sys2Proof.Machine

/-- R44: a push places its 15 bits on the stack. -/
def execEngPush (v : BitVec 15) (s : State) : Answer := runWord false (stackWord 0 fun _ => [zext64 v]) s

/-- R45 `nop`. -/
def execEngNop (s : State) : Answer := runWord false (stackWord 0 fun _ => []) s

/-- R45 `dup`. -/
def execEngDup (s : State) : Answer := runWord false (stackWord 1 fun t => t ++ t) s

/-- R45 `drop`. -/
def execEngDrop (s : State) : Answer := runWord false (stackWord 1 fun _ => []) s

/-- R45 `swap`. -/
def execEngSwap (s : State) : Answer := runWord false (stackWord 2 List.reverse) s

/-- R45 `over`: a b → a b a. -/
def execEngOver (s : State) : Answer := runWord false (stackWord 2 fun t => t.drop 1 ++ t) s

/-- R45: a word that pops b, then a, and pushes one result. -/
def twoToOne (f : Dword → Dword → Dword) : List Dword → List Dword
  | [b, a] => [f a b]
  | _ => []

/-- R45 `cat`: pops lo, then hi. -/
def execEngCat (s : State) : Answer := runWord false (stackWord 2 (twoToOne fun hi lo => hi * 32768 + lo)) s

/-- R45 `lit8`. -/
def execEngLit8 (n : BitVec 8) (s : State) : Answer := runWord false (stackWord 0 fun _ => [sext64 n]) s

/-- R45 `add`. -/
def execEngAdd (s : State) : Answer := runWord false (stackWord 2 (twoToOne fun a b => a + b)) s

/-- R45 `sub`. -/
def execEngSub (s : State) : Answer := runWord false (stackWord 2 (twoToOne fun a b => a - b)) s

/-- R45 `mul`. -/
def execEngMul (s : State) : Answer := runWord false (stackWord 2 (twoToOne fun a b => a * b)) s

/-- R45 `shl`. -/
def execEngShl (n : BitVec 8) (s : State) : Answer :=
  runWord (Instr.engShl n).badArgument (stackWord 1 fun t => t.map fun (a : Dword) => a <<< n.toNat) s

/-- R45 `and`. -/
def execEngAnd (s : State) : Answer := runWord false (stackWord 2 (twoToOne fun a b => a &&& b)) s

/-- R45 `or`. -/
def execEngOr (s : State) : Answer := runWord false (stackWord 2 (twoToOne fun a b => a ||| b)) s

/-- R45 `pick`: entry n below the top is copied to the top. -/
def execEngPick (n : BitVec 8) (s : State) : Answer :=
  runWord (Instr.engPick n).badArgument (stackWord (n.toNat + 1) fun t => (t.drop n.toNat).take 1 ++ t) s

/-- R44: an opcode the engine does not assign ends its command with EOPX. -/
def execUnassignedEngineOpcode (_w : BitVec 16) (s : State) : Answer := runWord true (stackWord 0 fun _ => []) s

end Sys2Proof.Machine
end

