-- ==== Sys2Proof/Machine/Lamp.lean ====
section
/-! DEFINITION. The Lamplighter (R369 to R389). -/

namespace Sys2Proof.Machine

/-! Partition contexts and their structures (R369, R370, R375). -/

/-- A partition's context, if it has one. -/
def State.lamp (s : State) (part : Nat) : Option LlPart := s.eng.ll.find? (·.part == part)

/-- The same replaced. -/
def State.putLamp (s : State) (l : LlPart) : State :=
  { s with eng := { s.eng with ll := l :: s.eng.ll.filter (·.part != l.part) } }

/-- R370: the serving descriptor. -/
structure LlDesc where
  chain : Nat
  cring : Nat
  bring : Nat
  bslot : Nat
  seqt : Nat
  nseq : Nat
  stopt : Nat
  spl : Nat
  maxg : Nat
  admax : Nat
  deriving DecidableEq, Repr

/-- R370: the descriptor in 64 bytes; none: a reserved bit or a bad value. -/
def LlDesc.parse (bs : List Byte) : Option LlDesc :=
  let dw (k : Nat) : Dword := .ofNat 64 (leNat ((bs.drop (8 * k)).take 8))
  let n (k : Nat) : Nat := (dw k).toNat
  let g := bits (dw 7) 4 0
  if n 0 % 64 ≠ 0 ∨ n 1 % 64 ≠ 0 ∨ bits (dw 2) 63 26 ≠ 0 ∨ n 2 % 32 ≠ 0 ∨ n 3 % 4096 ≠ 0 ∨ n 5 % 64 ≠ 0 ∨ n 6 % 4096 ≠ 0 ∨
      bits (dw 7) 7 5 ≠ 0 ∨ bits (dw 7) 63 16 ≠ 0 ∨ g = 0 ∨ 16 < g then none
  else some ⟨n 0, n 1, n 2, n 3, bits (dw 4) 63 12 * 4096, bits (dw 4) 11 0 + 1, n 5, n 6, g, bits (dw 7) 15 8⟩

/-- R370, R385: the descriptor of a partition; a value it may not hold is EOPX. -/
def State.lampDesc (s : State) (part : Nat) : Check LlDesc := do
  let at' := (s.part part).sdesc.toNat
  let bs ← deviceRead s s.coherentByte part at' 64
  match (if at' % 64 = 0 then LlDesc.parse bs else none) with
  | some d => .ok d
  | none => failed .eopx 0

/-- R384: PROD, HCONS and LOGN of the completion ring head; a malformed one is EOPX. -/
def lampHead (s : State) (part : Nat) (d : LlDesc) : Check (Word × Word × Nat) := do
  let bs ← deviceRead s s.coherentByte part d.cring 64
  let num (o k : Nat) : Nat := leNat ((bs.drop o).take k)
  let logn := num 16 1 % 32
  if num 4 4 ≠ 0 ∨ num 12 4 ≠ 0 ∨ num 17 47 ≠ 0 ∨ logn < 2 ∨ 16 < logn then failed .eopx 0
  else .ok (.ofNat 32 (num 0 4), .ofNat 32 (num 8 4), logn)

/-- R375: a sequence entry. -/
def Seq.bytes (q : Seq) (state : Nat) : List Byte :=
  leBytes 8 (q.ver.toNat * 2 ^ 32 + q.adp * 2 ^ 16 + 4 * q.base.toNat + state) ++ leBytes 8 q.reqid.toNat ++
  leBytes 8 (q.maxpos * 2 ^ 32 + q.pos) ++ leBytes 8 (q.nstep.toNat * 2 ^ 32 + q.bstep.toNat) ++
  leBytes 8 (q.tok.toNat * 2 ^ 32 + q.cause * 2 ^ 8 + q.vslot % 256) ++ leBytes 24 0

/-- R375: STATE of a slot that is not free. -/
def Seq.state (q : Seq) : Nat := if q.live then 1 else 2

/-- The sequence in a slot, if it is not free. -/
def LlPart.seq (l : LlPart) (q : Nat) : Option Seq := l.seqs.find? (·.q == q)

/-- A sequence replaced or added. -/
def LlPart.putSeq (l : LlPart) (v : Seq) : LlPart := { l with seqs := v :: l.seqs.filter (·.q != v.q) }

/-! Marks (R386, R387). -/

/-- R386, R387: a live slot becomes pending; a free or pending one, or one at or past NSEQ, stays. The table entry follows where it
can be written (log 42). -/
def State.markSeq (s : State) (part q cause : Nat) (tok : Word) : State :=
  match s.lamp part with
  | none => s
  | some l =>
    match l.seq q with
    | none => s
    | some v =>
      if !v.live then s
      else
        let v := { v with live := false, cause := cause, tok := tok }
        let marked := s.putLamp { l.putSeq v with pending := l.pending ++ [q] }
        match s.lampDesc part with
        | .ok d => if d.nseq ≤ q then s else marked.tryStore part (d.seqt + 64 * q) (v.bytes 2)
        | .error _ => marked

/-- R414: a mark must wait, since the descriptor or the translation of the table entry lies in a line to be scrubbed. -/
def State.markAwaits (s : State) (part q : Nat) : Bool :=
  match s.lampDesc part with
  | .ok d => (mapBytes s s.coherentByte part .write (span (d.seqt + 64 * q) 64)).awaits
  | r => r.awaits

/-- R376, R378: what an action writes is performed with it, at `.p`, or at `.s` in host memory: none of it waits at its home. -/
def State.wroteAll (s s' : State) : Bool := s'.fab.waiting == s.fab.waiting && s'.fab.unsent.isEmpty

/-! A step (R378). -/

/-- A step under way: the descriptor, the completion ring as the step read it, and its counts. -/
structure Serve where
  s : State
  part : Nat
  d : LlDesc
  prod : Word
  hcons : Word
  logn : Nat
  admitted : Nat
  retired : Nat
  refused : Nat
  deriving DecidableEq

/-- R385: what a step has come to: it goes on, or has ended at a fault with what it has done; the cause `.none` is no fault but a wait for
a scrub (R414), and the step has not run. -/
abbrev Serving := Except (State × Cause × Dword) Serve

/-- The context of the step's partition. -/
def Serve.lamp (x : Serve) : LlPart := (x.s.lamp x.part).getD ⟨x.part, 0, false, [], [], none, false, 0, none⟩

/-- The same replaced. -/
def Serve.put (x : Serve) (l : LlPart) : Serve := { x with s := x.s.putLamp l }

/-- A write of the step. -/
def Serve.store (x : Serve) (va : Nat) (bs : List Byte) : Serving :=
  match x.s.writeOwn x.part va bs with
  | (s, none) => .ok { x with s := s }
  | (s, some (c, v)) => .error (s, c, v)

/-- R375: a sequence entry written. -/
def Serve.storeSeq (x : Serve) (v : Seq) (state : Nat) : Serving := x.store (x.d.seqt + 64 * v.q) (v.bytes state)

/-- R384: a completion record is free. -/
def Serve.room (x : Serve) : Bool := decide ((x.prod - x.hcons).toNat < 2 ^ x.logn)

/-- R384: a completion record. -/
def Serve.complete (x : Serve) (reqid : Dword) (status cause : Nat) (tok nstep : Word) (pos : Nat) (ver : Word) (q : Nat) : Serving := do
  let x ← x.store (x.d.cring + 64 + 32 * (x.prod.toNat % 2 ^ x.logn))
    (leBytes 8 reqid.toNat ++ leBytes 2 status ++ leBytes 2 cause ++ leBytes 4 tok.toNat ++ leBytes 4 nstep.toNat ++
      leBytes 4 pos ++ leBytes 4 ver.toNat ++ leBytes 4 q)
  let x : Serve := { x with prod := x.prod + 1 }
  x.store x.d.cring (leBytes 4 x.prod.toNat)

/-- R384: the record of a refused request. -/
def Serve.refuse (x : Serve) (reqid : Dword) (status : Nat) : Serving := do
  let x ← x.complete reqid status 0 0 0 0 0 0xFFFFFFFF
  .ok { x with refused := x.refused + 1 }

/-- R288, R385: an adapter action of a step; 17 for one that ended with a fault, whose record goes to the partition. -/
def Serve.adapter (x : Serve) (a key : Nat) (kind : AtKind) : Except (State × Cause × Dword) (Serve × (Nat ⊕ AdOut)) :=
  if (x.s.part x.part).adesc = 0 then .ok (x, .inl 5)
  else match x.s.adapterAct x.part a key kind with
    | .ok (s, .refused st _, _) => .ok ({ x with s := s }, .inl st)
    | .ok (s, out, _) => .ok ({ x with s := s }, .inr out)
    | .error (.none, v) => .error (x.s, .none, v)
    | .error (c, v) => .ok ({ x with s := x.s.partRecord x.part c 3 v }, .inl 17)

/-- R380: a pending sequence is retired, where a record is free. -/
def Serve.retire (x : Serve) (v : Seq) : Serving :=
  if !x.room then .ok x
  else do
    let (x, status) ← (if v.base then .ok (x, 0) else (x.adapter v.adp v.key (.unpin v.ver.toNat)).map fun r => match r with
      | (x, .inl st) => (x, st)
      | (x, .inr _) => (x, 0) : Except (State × Cause × Dword) (Serve × Nat))
    let x ← x.complete v.reqid status v.cause (if v.cause = 1 then v.tok else 0) v.nstep v.pos (if v.base then 0 else v.ver) v.q
    let l := x.lamp
    let x := x.put { l with seqs := l.seqs.filter (·.q != v.q), pending := l.pending.filter (· != v.q) }
    let x ← x.storeSeq v 0
    .ok { x with retired := x.retired + 1 }

/-- R378: the pending list, in arrival order. -/
def Serve.retireAll (x : Serve) : Serving :=
  x.lamp.pending.foldlM (fun x q => match x.lamp.seq q with
    | some v => x.retire v
    | none => .ok x) x

/-! Admission (R372 to R374, R379). -/

/-- R372: the TAIL in force after one is read. -/
def tailInForce (old : Option Word) (cons tail : Word) : Word :=
  let tail := if 2 ^ 31 < (tail - cons).toNat then cons else tail
  match old with
  | some o => if (o - cons).toNat ≤ 2 ^ 31 ∧ (tail - cons).toNat < (o - cons).toNat then o else tail
  | none => tail

/-- R373: a chain entry. -/
structure ChainEntry where
  bs : List Byte
  deriving DecidableEq, Repr

def ChainEntry.num (e : ChainEntry) (o k : Nat) : Nat := leNat ((e.bs.drop o).take k)
def ChainEntry.reqid (e : ChainEntry) : Dword := .ofNat 64 (e.num 8 8)
def ChainEntry.base (e : ChainEntry) : Bool := (e.num 0x14 1) % 2 == 1
def ChainEntry.bad (e : ChainEntry) : Bool :=
  e.num 0x14 4 / 2 != 0 || e.num 0x20 32 != 0 || decide (e.num 0x1C 4 ≤ e.num 0x18 4)

/-- R379: the lowest free sequence slot. -/
def Serve.freeSeq (x : Serve) : Option Nat := (List.range x.d.nseq).find? fun q => (x.lamp.seq q).isNone

/-- R379: a request seated in slot q, with what its `apin` reported. -/
def Serve.seat (x : Serve) (e : ChainEntry) (q : Nat) (r : Option AdOut) : Serving := do
  let (slot, ver, pages, rank, ff, npg, alpha) : Nat × Nat × List Nat × Nat × Nat × Nat × Word := match r with
    | some (.ok slot v _ pages en _) => (slot, v.ver, pages, en.rank, en.ff, v.npg, en.alpha)
    | _ => (0, 0, [], 0, 0, 0, 0)
  let v : Seq := {
    q := q, live := true, base := e.base, adp := e.num 0x10 2, key := e.num 0x12 2, ver := .ofNat 32 ver, vslot := slot
    reqid := e.reqid, pos := e.num 0x18 4, maxpos := e.num 0x1C 4, bstep := 0, nstep := 0, tok := 0, cause := 0
    rank := rank, ff := ff, npg := npg, alpha := alpha }
  let x ← (x.put (x.lamp.putSeq v)).storeSeq v 1
  let x ← x.store (x.d.stopt + 64 * q) ((e.bs.drop 0x40).take 64)
  let x ← x.store (x.d.spl + 512 * q) ((List.range 256).flatMap fun j => leBytes 2 (pages[j]?.getD 0xFFFF))
  .ok { x with admitted := x.admitted + 1 }

/-- R379: one entry: none when admission stops and it stays in the chain. -/
def Serve.admitOne (x : Serve) (e : ChainEntry) : Except (State × Cause × Dword) (Option Serve) :=
  if e.bad then (x.refuse e.reqid 16).map some
  else match x.freeSeq with
    | none => .ok none
    | some q =>
      if e.base then (x.seat e q none).map some
      else do
        match ← x.adapter (e.num 0x10 2) (e.num 0x12 2) (.pin 256 true) with
        | (x, .inl st) => (x.refuse e.reqid st).map some
        | (x, .inr out) => (x.seat e q (some out)).map some

/-- R372, R373: the next entry of the chain: its address and bytes. Entry 0 lies at FIRST; a count that has come round to 0, as `begun` or an
entry consumed in this step shows, is another entry's. -/
def Serve.nextEntry (x : Serve) (begun : Bool) (first last : Nat) (cons : Word) : Check (Nat × ChainEntry) := do
  let rd := x.s.coherentByte
  let at' ← (if cons = 0 ∧ !begun then .ok first else do
    let bs ← deviceRead x.s rd x.part last 8
    .ok (leNat bs) : Check Nat)
  if at' % 128 ≠ 0 then failed .align (.ofNat 64 at')
  else do
    let bs ← deviceRead x.s rd x.part at' 128
    .ok (at', ⟨bs⟩)

/-- R379, R385: entries consumed, at most the fuel: the step, CONS, LAST, and a fault that stopped admission. -/
def Serve.admitFrom (first : Nat) (tail : Word) : Nat → Serve → Bool → Word → Nat →
    Except (State × Cause × Dword) (Serve × Word × Nat × Option (Cause × Dword))
  | 0, x, _, cons, last => .ok (x, cons, last, none)
  | f + 1, x, begun, cons, last =>
    if x.lamp.hold ∨ cons = tail ∨ !x.room then .ok (x, cons, last, none)
    else match x.nextEntry begun first last cons with
      | .error (.none, v) => .error (x.s, .none, v)
      | .error (c, v) => .ok (x, cons, last, some (c, v))
      | .ok (at', e) => do
        match ← x.admitOne e with
        | none => .ok (x, cons, last, none)
        | some x => Serve.admitFrom first tail f x true (cons + 1) at'

/-- R372, R378: admission, then CONS and LAST, after which the chain has begun; the fault that stopped it. -/
def Serve.admitAll (x : Serve) : Except (State × Cause × Dword) (Serve × Option (Cause × Dword)) :=
  match deviceRead x.s x.s.coherentByte x.part x.d.chain 32 with
  | .error (.none, v) => .error (x.s, .none, v)
  | .error (c, v) => .ok (x, some (c, v))
  | .ok bs => do
    let num (o k : Nat) : Nat := leNat ((bs.drop o).take k)
    let cons : Word := .ofNat 32 (num 8 4)
    let l := x.lamp
    let tail := tailInForce l.tail cons (.ofNat 32 (num 0 4))
    let (x, cons', last, bad) ← Serve.admitFrom (num 0x10 8) tail x.d.admax (x.put { l with tail := some tail }) l.begun cons (num 0x18 8)
    let x ← x.store (x.d.chain + 8) (leBytes 4 cons'.toNat)
    let x ← x.store (x.d.chain + 0x18) (leBytes 8 last)
    .ok (x.put { x.lamp with begun := l.begun || cons' != cons }, bad)

/-! The batch entry (R381, R382). -/

/-- R381: live sequences at their length end. -/
def Serve.endLong (x : Serve) : Serving :=
  ((x.lamp.seqs.filter fun v => v.live && decide (v.maxpos ≤ v.pos)).map fun v => (v.q, v)) |> sortAddr |>.foldlM (fun x p => do
    let v := { p.2 with live := false, cause := 2, tok := 0 }
    let l := x.lamp
    let x ← (x.put { l.putSeq v with pending := l.pending ++ [v.q] }).storeSeq v 2
    x.retire v) x

/-- R381: an open group: its rows in order. -/
abbrev BatchGroup := List Seq

/-- R381: sequences of one group. -/
def sameGroup (a b : Seq) : Bool := if a.base || b.base then a.base && b.base else a.adp == b.adp && a.vslot == b.vslot

/-- R381: a sequence placed in the first group of its key with room, or in a new one; else it waits. -/
def placeSeq (maxg : Nat) (gs : List BatchGroup) (v : Seq) : List BatchGroup :=
  match gs.findIdx? fun g => decide (g.length < 8) && g.all (sameGroup v) with
  | some k => gs.modify k (· ++ [v])
  | none => if gs.length < maxg then gs ++ [[v]] else gs

/-- R381: the groups of a step. -/
def Serve.groups (x : Serve) : List BatchGroup :=
  let c := sortAddr ((x.lamp.seqs.filter (·.live)).map fun v => (v.bstep.toNat * 4096 + v.q, v))
  (c.map (·.2)).foldl (placeSeq x.d.maxg) []

/-- R382: group g. -/
def groupBytes (spl : Nat) (gs : List BatchGroup) (g : Nat) : List Byte :=
  match gs[g]?, (gs[g]?).bind (·.head?) with
  | some rows, some v =>
    if v.base then leBytes 3 0 ++ leBytes 1 0x40 ++ leBytes 5 0 ++ leBytes 1 rows.length ++ leBytes 6 0 ++ leBytes 8 (spl + 512 * v.q) ++ leBytes 8 0
    else leBytes 2 v.adp ++ leBytes 1 v.vslot ++ leBytes 1 v.ff ++ leBytes 4 v.ver.toNat ++ leBytes 1 v.rank ++
      leBytes 1 rows.length ++ leBytes 2 v.npg ++ leBytes 4 v.alpha.toNat ++ leBytes 8 (spl + 512 * v.q) ++ leBytes 8 0
  | _, _ => leBytes 3 0 ++ leBytes 1 0x80 ++ leBytes 28 0

/-- R382: row r. -/
def rowBytesAt (gs : List BatchGroup) (r : Nat) : List Byte :=
  match (gs[r / 8]?).bind fun (g : BatchGroup) => g[r % 8]? with
  | some v => leBytes 2 v.q ++ leBytes 1 (1 + 2 * (decide (v.nstep = 0)).toNat) ++ leBytes 1 0 ++ leBytes 4 v.pos ++ leBytes 8 v.reqid.toNat
  | none => leBytes 2 0xFFFF ++ leBytes 14 0

/-- R382: the batch entry. -/
def Serve.entry (x : Serve) (gs : List BatchGroup) : List Byte :=
  let l := x.lamp
  leBytes 4 l.step.toNat ++ leBytes 2 (gs.map List.length).sum ++ leBytes 1 gs.length ++ leBytes 1 l.hold.toNat ++
  leBytes 2 x.admitted ++ leBytes 2 x.retired ++ leBytes 2 x.refused ++ leBytes 50 0 ++
  ((List.range 16).flatMap (groupBytes x.d.spl gs)) ++ ((List.range 128).flatMap (rowBytesAt gs)) ++ leBytes 1472 0

/-- R381: the placed sequences move on. -/
def Serve.moveOn (x : Serve) (gs : List BatchGroup) : Serving :=
  gs.flatten.foldlM (fun x v => do
    let v := { v with pos := (v.pos + 1) % 2 ^ 32, bstep := x.lamp.step, nstep := v.nstep + 1 }
    (x.put (x.lamp.putSeq v)).storeSeq v 1) x

/-- R381, R383: a batch ring index is free, and its turn has come or is past; an object error ends the wait. -/
def stepMay (s : State) (part : Nat) (w : StepWait) : Bool :=
  match s.ring part w.ring with
  | none => true
  | some r => r.freed (w.index + 1) && (r.tail == w.index || s.spanBehind part w.ring false w.index)

/-- R385: an operation of the Lamplighter that ends: its record, where it has a fault, its arrival and its completion. -/
def endLamp (iss : Issuer) (num : Nat) (bar : Bar) (bytes : Nat) (poison : Bool) (f : Option (Cause × Dword)) (s : State) : State :=
  let s := match f with | some (c, v) => s.engineFault iss 7 c v | none => s
  (s.engineArrive iss 7 bar bytes (poison || f.isSome)).completeOp 7 iss.ctx num

/-- R383: the entry is written to its ring slot and posted; a TAIL past its index is an object error (R338). -/
def postEntry (part : Nat) (w : StepWait) (s : State) : State :=
  match s.ring part w.ring with
  | none => endLamp w.iss w.num w.bar 0 w.poison (some (.syncerr, .ofNat 64 w.ring)) s
  | some r =>
    match s.writeOwn part (w.bslot + 4096 * (w.index.toNat % r.size)) w.bytes with
    | (s, some f) => endLamp w.iss w.num w.bar 0 w.poison (some f) s
    | (s, none) =>
      match (if s.spanBehind part w.ring false w.index then none else s.applySpan ⟨w.ring, false, w.index, 1, false, w.iss, 0⟩) with
      | none => endLamp w.iss w.num w.bar 0 w.poison (some (.syncerr, .ofNat 64 w.ring)) s
      | some s =>
        let s := match s.lamp part with
          | some l => s.putLamp { l with posted := l.posted + 1 }
          | none => s
        endLamp w.iss w.num w.bar 0 w.poison none s

/-- R378, R385: a step from its reading to its batch entry, and what waits to be posted. -/
def serveStep (s : State) (part : Nat) (d : LlDesc) (head : Word × Word × Nat) (iss : Issuer) (num : Nat) (bar : Bar) :
    Except (State × Cause × Dword) (State × StepWait) := do
  let x : Serve := ⟨s, part, d, head.1, head.2.1, head.2.2, 0, 0, 0⟩
  let l := x.lamp
  let x ← (x.put { l with step := l.step + 1 }).retireAll
  let (x, bad) ← x.admitAll
  let x : Serve := match bad with | some (c, v) => { x with s := x.s.engineFault iss 7 c v } | none => x
  let x ← x.endLong
  let gs := x.groups
  let bytes := x.entry gs
  let x ← x.moveOn gs
  match x.s.reserve part d.bring false 1 with
  | none => .error (x.s, .syncerr, .ofNat 64 d.bring)
  | some (s, i) => .ok (s, ⟨iss, num, bar, i, bytes, d.bslot, d.bring, bad.isSome⟩)

/-- R414: the write of the batch slot must wait for a scrub. -/
def postAwaits (part : Nat) (w : StepWait) (s : State) : Bool :=
  match s.ring part w.ring with
  | none => false
  | some r => waitsScrub (s.writeOwn part (w.bslot + 4096 * (w.index.toNat % r.size)) w.bytes).2

/-- R378, R381, R385: the operation of `lstep`; the index is that of its word. A post that waits holds a pending entry of its ring's
engine (R338, R329). None: what it reads or writes waits for a scrub (R414), and the step has not run. -/
def stepLamp (part : Nat) (iss : Issuer) (num index : Nat) (bar : Bar) (s : State) : Option State :=
  let stop (s : State) (c : Cause) (v : Dword) : Option State :=
    if c = .none then none
    else some (endLamp iss num bar 0 false (some (c, if c = .eopx then .ofNat 64 index else v)) s)
  match s.lampDesc part with
  | .error (c, v) => stop s c v
  | .ok d =>
    match lampHead s part d with
    | .error (c, v) => stop s c v
    | .ok head =>
      match serveStep s part d head iss num bar with
      | .error (s, c, v) => stop s c v
      | .ok (s, w) =>
        if stepMay s part w then (if postAwaits part w s then none else some (postEntry part w s))
        else match s.takeEntry part w.ring with
          | none => some (endLamp iss num bar 0 w.poison (some (.syncerr, .ofNat 64 w.ring)) s)
          | some s => match s.lamp part with
            | some l => some (s.putLamp { l with waiting := some w })
            | none => some s

/-! Engine words (R377). -/

/-- R369, R377: a word of a partition with a context. -/
def lampWord (body : State → Cmd → LlPart → List Dword → List Dword → WordRes) (s : State) (k : Cmd) (vs st : List Dword) : WordRes :=
  match s.lamp k.iss.part with
  | none => eopx k
  | some l => body s k l vs st

/-- R369: the same, tested before the operands are popped. -/
def servingOnly (n : Nat) (body : State → Cmd → LlPart → List Dword → List Dword → WordRes) (s : State) (k : Cmd) (st : List Dword) : WordRes :=
  if (s.lamp k.iss.part).isNone then eopx k else popping n (lampWord body) s k st

/-- An operation of the Lamplighter is launched. -/
def State.launchLamp (s : State) (k : Cmd) : State := s.setEngCtx (s.engCtx 7 k.iss.ctx).launchOp

/-- R378 `lstep`: it runs where none of its writes would wait. -/
def stepWord (s : State) (k : Cmd) (_ : LlPart) (vs st : List Dword) : WordRes :=
  match barOperand (vs.headD 0) with
  | none => eopx k
  | some b =>
    match stepLamp k.iss.part k.iss (s.nextNum 7 k.iss.ctx) k.index b (s.launchLamp k) with
    | some s' => if s.wroteAll s' then .ok s' st else .wait
    | none => .wait

/-- R377, R378 `lstep`: bar. -/
def execLstep (s : State) : Answer := runWord false (servingOnly 1 stepWord) s

/-- R376, R387 `lret`: it runs where its table write would not wait. -/
def retWord (cause : Nat) (s : State) (k : Cmd) (_ : LlPart) (vs st : List Dword) : WordRes :=
  let q := (vs.headD 0).toNat
  let s' := s.markSeq k.iss.part q cause 0
  if 4096 ≤ q then eopx k
  else if s.wroteAll s' && !s.markAwaits k.iss.part q then .ok (s'.instantOp 7 k.iss.ctx) st
  else .wait

/-- R377, R387 `lret`: q. -/
def execLret (c : BitVec 3) (s : State) : Answer := runWord (c != 3 && c != 4) (servingOnly 1 (retWord c.toNat)) s

/-- R388 `lhold`. -/
def execLhold (h : BitVec 1) (s : State) : Answer :=
  runWord false (servingOnly 0 fun s _ l _ st => .ok (s.putLamp { l with hold := h == 1 }) st) s

/-- R389: a record of n bytes at an offset through a slot; the operation ends with a memory cause met in forming it (log 42). -/
def lampRecord (slot n : Nat) (off bar : Dword) (s : State) (k : Cmd) (st : List Dword) (f : State → Check (List Byte)) : WordRes :=
  match barOperand bar with
  | none => eopx k
  | some b =>
    (checkRecord s k.iss slot off n).orFault fun m =>
      let spot := Spot.of m.handle.space (m.handle.base + off.toNat) m.leaves
      if s.spotWaits spot 0 n then .wait
      else
        let num := s.nextNum 7 k.iss.ctx
        let s := (s.launchLamp k).holdLeaves k.iss.part m.leaves
        match f s with
        | .ok bs =>
          let ws := spot.writes 0 bs
          .ok (endLamp k.iss num b n (s.writeBad spot.space false ws) none (s.writeFor k.iss 7 spot.space false ws)) st
        | .error (.none, _) => .wait
        | .error (c, v) => .ok (endLamp k.iss num b n false (some (c, if c = .eopx then .ofNat 64 k.index else v)) s) st

/-- R389: the record of `lstat`. -/
def lampStat (l : LlPart) (s : State) : Check (List Byte) := do
  let d ← s.lampDesc l.part
  let cons ← deviceRead s s.coherentByte l.part (d.chain + 8) 4
  let prod ← deviceRead s s.coherentByte l.part d.cring 4
  .ok (leBytes 4 l.step.toNat ++ leBytes 2 (l.seqs.filter (·.live)).length ++ leBytes 2 l.pending.length ++ cons ++ prod ++
    leBytes 4 l.posted.toNat ++ leBytes 1 l.hold.toNat ++ leBytes 11 0)

/-- R377, R389 `lstat`: offset, bar. -/
def execLstat (h : BitVec 4) (s : State) : Answer :=
  runWord false (servingOnly 2 fun s k l vs st => match vs with
    | [off, bar] => lampRecord h.toNat 32 off bar s k st (lampStat l)
    | _ => estk k) s

/-- R389: the record of `lseq`: the entry of the sequence the slot holds, or the one that a free slot's last sequence has left. -/
def lampSeq (l : LlPart) (q : Nat) (s : State) : Check (List Byte) := do
  let d ← s.lampDesc l.part
  if d.nseq ≤ q then .ok (leBytes 64 0)
  else match l.seq q with
    | some v => .ok (v.bytes v.state)
    | none => deviceRead s s.coherentByte l.part (d.seqt + 64 * q) 64

/-- R377, R389 `lseq`: offset, q, bar. -/
def execLseq (h : BitVec 4) (s : State) : Answer :=
  runWord false (servingOnly 3 fun s k l vs st => match vs with
    | [off, q, bar] =>
      if 4096 ≤ q.toNat then eopx k else lampRecord h.toNat 64 off bar s k st (lampSeq l q.toNat)
    | _ => estk k) s

/-! Events. -/

/-- R381: the waiting step of a partition may post, and no write of it would wait. -/
def resumeReady (part : Nat) (s : State) : Bool :=
  match (s.lamp part).bind (·.waiting) with
  | some w => stepMay s part w && !postAwaits part w s && s.wroteAll (postEntry part w s)
  | none => false

/-- R381, R383: it posts. -/
def resumeStep (part : Nat) (s : State) : State :=
  match s.lamp part with
  | none => s
  | some l => match l.waiting with
    | some w => postEntry part w (s.putLamp { l with waiting := none })
    | none => s

/-- R381 LSTEP_RESUME. -/
def execLstepResume (part : Nat) (s : State) : Answer := .next (if resumeReady part s then resumeStep part s else s)

/-- R386: a retire record runs as one operation of its context. -/
def State.retireOne (s : State) (k : Cmd) (r : RetireRec) : State :=
  let s := { s with eng := { s.eng with cmds := s.eng.cmds.erase k } }
  (s.markSeq k.iss.part r.q 1 r.tok).instantOp 7 k.iss.ctx

/-- R376, R386: the oldest retire record that has reached the Lamplighter, with no older command of its context before it there, and
whose table write would not wait. -/
def State.nextRetire (s : State) : Option (Cmd × RetireRec) :=
  let first (k : Cmd) : Bool := match s.eng.cmds.find? fun o => o.eng == 7 && o.iss.ctx == k.iss.ctx with
    | some o => o == k
    | none => false
  s.eng.cmds.findSome? fun k => match k.retire with
    | some r =>
      if first k && s.reached k && !s.heldBack k && !s.markAwaits k.iss.part r.q && s.wroteAll (s.retireOne k r) then some (k, r) else none
    | none => none

/-- R386: it runs. -/
def runRetire (s : State) : State :=
  match s.nextRetire with
  | none => s
  | some (k, r) => s.retireOne k r

/-- R376: there is one. -/
def retireRecordReady (s : State) : Bool := s.nextRetire.isSome

/-- R386 RETIRE_RECORD. -/
def execRetireRecord (s : State) : Answer := .next (if retireRecordReady s then runRetire s else s)

/-- R371, R413: a write to LLCMD is taken. -/
def llcmdReady (part port : Nat) (s : State) : Bool :=
  decide (part < Config.partCount) && (s.lamp part).isSome && (match s.mgmt.hosts[port]? with | some h => !h.fenced | none => false)

/-- R371: the issuer of a host context. -/
def hostIssuer (part port : Nat) : Issuer :=
  ⟨0x4000 + 2 * part + port, false, part, 0, none, 0, .task, Vector.ofFn fun i => .ofNat 12 i.val, 0⟩

/-- R371: its four words become one command. -/
def hostCommand (part port : Nat) (v : Dword) (s : State) : State :=
  let ws := (List.range 4).map fun k => (.ofNat 16 (bits v (16 * k + 15) (16 * k)) : Half)
  { s with eng := { s.eng with
    cmds := s.eng.cmds ++ [⟨7, hostIssuer part port, none, ws, 0, 0, false, none, s.eng.sends, []⟩], sends := s.eng.sends + 1 } }

/-- R371 LLCMD. -/
def execLlcmd (part port : Nat) (words : BitVec 64) (s : State) : Answer :=
  .next (if llcmdReady part port s then hostCommand part port words s else s)

end Sys2Proof.Machine
end

