-- ==== Sys2Proof/Machine/Resolve.lean ====
section
/-! DEFINITION. The region tree: reading a chain of RCBs, malformed leaves, inheritance and clamping (R18 to R27, R441). -/

namespace Sys2Proof.Machine

/-- R18: a node as read: where it lies, and its 32 dwords. -/
structure Node where
  ref : NodeRef
  dw : List Dword
  deriving DecidableEq, Repr

/-- The dword at a byte offset. -/
def Node.at (n : Node) (off : Nat) : Dword := (n.dw[off / 8]?).getD 0

/-- R19: the fields of CTL. -/
def Node.kind (n : Node) : Nat := bits (n.at 0) 2 0
def Node.depth (n : Node) : Nat := bits (n.at 0) 5 3
def Node.prio (n : Node) : Nat := bits (n.at 0) 10 6
def Node.pre (n : Node) : Nat := bits (n.at 0) 12 11
def Node.gang (n : Node) : Bool := bit (n.at 0) 13
def Node.serial (n : Node) : Bool := bit (n.at 0) 14
/-- R18: CMASK. -/
def Node.mask (n : Node) : BitVec 256 :=
  .ofNat 256 ((n.at 0x20).toNat + (n.at 0x28).toNat * 2 ^ 64 + (n.at 0x30).toNat * 2 ^ 128 + (n.at 0x38).toNat * 2 ^ 192)

/-- R19 to R21, R23, R24, R40: a reserved value stands in a field of a node. A LINK, PEND or WSAVE other than 0 in a kind whose field is 0,
and a TRAPV not aligned to 128 bytes, count as none (DESIGN CHOICE, log 106). -/
def Node.reserved (n : Node) (leaf : Bool) : Bool :=
  let f := n.at 0x50
  let q := n.at 0x90
  bits (n.at 8) 63 48 ≠ 0 || bits (n.at 8) 15 4 ≠ 0 || 9 ≤ bits (n.at 8) 3 0 || bits (n.at 0) 63 16 ≠ 0 || n.pre == 2 ||
  (16 ≤ n.prio && n.prio ≤ 30) || (!leaf && n.gang) || bits (n.at 0x40) 63 50 ≠ 0 ||
  bits f 63 19 ≠ 0 || (4 ≤ bits f 18 16 && bits f 18 16 ≤ 6) || bits q 11 4 ≠ 0 || (9 ≤ bits q 3 0 && bits q 3 0 ≤ 14) ||
  bits (n.at 0x80) 62 30 ≠ 0 || bits (n.at 0x88) 63 56 ≠ 0

/-- R18, R445: a node read. -/
def State.readNode (s : State) (part : Nat) (a : NodeRef) : Check Node := do
  let bs ← s.nodeBytes part a 0 256
  .ok ⟨a, (List.range 32).map fun i => .ofNat 64 (leNat ((bs.drop (8 * i)).take 8))⟩

/-- R27: the end of a climb: the partition's own RCB above a chain, whose PARENT must be the root. -/
def State.climbTop (s : State) (part : Nat) (acc : List Node) : Check (List Node × Bool) := do
  let p ← s.readNode part ⟨true, (s.part part).prcb⟩
  if p.at 0x10 = s.mgmt.root then do
    let r ← s.readNode part s.rootNode
    .ok (r :: p :: acc, true)
  else .ok (p :: acc, false)

/-- R18, R27: a chain as climbed from a virtual address, root first, and whether it reaches the partition's own RCB and the root. A node
of KIND root or partition at another address ends it. PARENT is machine-physical in a node of DEPTH 1 or 2, virtual in any other. One
that does not reach so is read the other way for BAD = 2 alone, when the chain then does reach (DEDUCED, log 36): of DEPTH 1 or 2 as a
virtual address, where a read that fails is no fault; of another DEPTH as PRCB, where it equals that. -/
def State.climb (s : State) (part : Nat) : Nat → Dword → List Node → Check (List Node × Bool)
  | 0, _, acc => .ok (acc, false)
  | f + 1, a, acc => do
    let n ← s.readNode part ⟨false, a⟩
    let up := n.at 0x10
    let low := n.depth = 1 ∨ n.depth = 2
    if up = 0 ∨ n.kind ≤ 1 then .ok (n :: acc, false)
    else if low ∧ up = (s.part part).prcb then s.climbTop part (n :: acc)
    else match s.climb part f up (n :: acc) with
      | .ok (ns, true) => .ok (ns, true)
      | r => if low then .ok (n :: acc, false) else if up = (s.part part).prcb then s.climbTop part (n :: acc) else r

/-- R27: the most nodes below the root that a climb reads: one more than DEPTHs 1 to 7 and a fault of DEPTH allow. -/
def climbMost : Nat := 9

/-- R441: the values above the root. -/
def Resolved.widest : Resolved where
  prio := 15; mask := BitVec.allOnes 256; spad := 512; ways := 16; acs := 1024; bww := 254; slice := 0; preempt := false
  policy := .stop; policyNode := ⟨true, 0⟩; domain := 0; fq := none; htab := 0; trapv := 0

/-- R21: a policy code. -/
def Policy.ofCode : Nat → Policy
  | 1 => .contain | 2 => .goOn | 3 => .trap | _ => .stop

/-- R21, R441: an FQ value. -/
def queueOf (v : Dword) : Option (Dword × Nat) :=
  if bits v 3 0 ≤ 8 ∧ bits v 63 12 ≠ 0 then some (.ofNat 64 (bits v 63 12 * 4096), 2 ^ (bits v 3 0 + 4)) else none

/-- R25, R26: a clamped field: the inherit code takes the parent's value, a wider value is the parent's with its CLAMP bit. -/
def narrow (v code parent clampBit : Nat) (widerThan : Nat → Nat → Bool) : Nat × Nat :=
  if v = code then (parent, 0) else if widerThan v parent then (parent, 2 ^ clampBit) else (v, 0)

/-- R25, R26: a node's resolved values from its parent's, with the CLAMP bits of R23. -/
def Node.resolve (n : Node) (r : Resolved) : Resolved × Nat :=
  let b := n.at 0x40
  let wider (v p : Nat) : Bool := p < v
  let (prio, c0) := narrow n.prio 31 r.prio 16 wider
  let (mask, c1) := if bit (n.at 0) 15 then (r.mask, 0) else (n.mask &&& r.mask, if n.mask &&& ~~~r.mask = 0 then 0 else 2 ^ 17)
  let (spad, c2) := narrow (bits b 9 0) 1023 r.spad 18 wider
  let (ways, c3) := narrow (bits b 14 10) 31 r.ways 19 wider
  let (acs, c4) := narrow (bits b 25 15) 2047 r.acs 20 wider
  let (bww, c5) := narrow (bits b 33 26) 255 r.bww 21 wider
  let (slice, c6) := narrow (bits b 49 34) 0xFFFF r.slice 22 fun v p => p != 0 && (v == 0 || p < v)
  let (pre, c7) := narrow n.pre 3 r.preempt.toNat 23 fun v p => p == 1 && v != 1
  let f := n.at 0x50
  ({ r with
    prio := prio, mask := mask, spad := spad, ways := ways, acs := acs, bww := bww, slice := slice, preempt := pre == 1
    policy := if bits f 18 16 = 7 then r.policy else Policy.ofCode (bits f 18 16)
    policyNode := if bits f 18 16 = 7 then r.policyNode else n.ref
    domain := if bits f 15 0 = 0xFFFF then r.domain else bits f 15 0
    fq := if bits (n.at 0x90) 3 0 = 15 then r.fq else queueOf (n.at 0x90)
    htab := if n.at 0x18 = 0 then r.htab else n.at 0x18
    trapv := if n.at 0x48 = 0 ∨ n.kind = 0 then r.trapv else n.at 0x48 },
    c0 + c1 + c2 + c3 + c4 + c5 + c6 + c7)

/-- R25: a chain resolved from the root downward, with the CLAMP bits of each node. -/
def resolveChain (ns : List Node) : Resolved × List (NodeRef × Nat) :=
  ns.foldl (fun r n =>
    let (v, c) := n.resolve r.1
    (v, r.2 ++ [(n.ref, c)])) (Resolved.widest, [])

/-- R25, R428: clusters of the layers in the compute role. -/
def State.computeMask (s : State) : BitVec 256 :=
  .ofNat 256 (((List.range 256).filter fun k => (s.mgmt.roles[k / 16]?).getD .memoryOnly == .compute).map (2 ^ ·)).sum

/-- R422, R427: a partition's mask, as its RCB's CMASK resolves under R25. -/
def State.partMask (s : State) (p : Nat) : BitVec 256 :=
  match s.readNode p s.rootNode, s.readNode p ⟨true, (s.part p).prcb⟩ with
  | .ok r, .ok n => (resolveChain [r, n]).1.mask
  | _, _ => 0

/-- The clusters of a mask, ascending. -/
def clustersOf (m : BitVec 256) : List Nat := (List.range 256).filter m.getLsbD

/-- R32: a dependence entry that makes the leaf malformed. -/
def badDependence (v : Dword) : Bool :=
  match bits v 63 62 with
  | 0 => v != 0
  | 1 => bits v 4 0 ≠ 0 || bits v 29 26 ≠ 0
  | 2 =>
    let limit := match bits v 61 58 with
      | 0 | 1 => Config.coreCount | 2 | 3 | 5 | 6 => Config.clusterCount | 4 => Config.layerCount | 7 => 1 | _ => 0
    limit ≤ bits v 57 46
  | _ => true

/-- R23, R27: the BAD code of a leaf and its chain, root first; 0 well formed (log 36 for the order of the tests). A chain too long
for DEPTHs 0 to 7 fails the test of DEPTH. GANG in a node other than a leaf gives 3, as a reserved value does (DESIGN CHOICE, log 106). -/
def badLeaf (ns : List Node) (reaches : Bool) (leaf : Node) (mask : BitVec 256) : Nat :=
  let g := bits (leaf.at 0x88) 47 32
  let kindAt (i : Nat) : Nat := if i = 0 then 0 else if i = 1 then 1 else if i + 1 = ns.length then 3 else 2
  if leaf.kind ≠ 3 then 1
  else if !reaches then (if climbMost ≤ ns.length then 2 else 6)
  else if (ns.zipIdx).any (fun p => p.1.kind != kindAt p.2) then 6
  else if (ns.zipIdx).any (fun p => p.1.depth != p.2) then 2
  else if ns.any (fun n => [0x60, 0x68, 0x70, 0x78].any fun o => badDependence (n.at o)) then 4
  else if (ns.zipIdx).any (fun p => p.1.reserved (p.2 + 1 == ns.length)) then 3
  else if leaf.gang && (g == 0 || 2 * Config.coresPerCluster * (clustersOf mask).length < g) then 5
  else 0

/-- R34: the resolved values of a region that owns a queue, and its chain; the narrowest where the chain cannot be read (log
37). -/
def State.resolveOwner (s : State) (part : Nat) (a : Dword) : Resolved × List NodeRef :=
  match s.climb part climbMost a [] with
  | .ok (ns, true) => ((resolveChain ns).1, ns.map (·.ref))
  | _ => ({ Resolved.widest with prio := 0, bww := 0 }, [⟨false, a⟩])

end Sys2Proof.Machine
end

