-- ==== Sys2Proof/Machine/Queues.lean ====
section
/-! DEFINITION. The dispatcher: region queues and notifies (R28 to R30), hardware queue slots (R34), activation (R25, R27,
R442), dependences (R32, R33), selection (R35) and retirement (R40). -/

namespace Sys2Proof.Machine

/-! Queues. -/

/-- A region queue the dispatcher knows. -/
def State.queue (s : State) (part q : Nat) : Option RegionQueue := s.disp.queues.find? fun r => r.part = part ∧ r.queue = q

/-- The same replaced, or added. -/
def State.putQueue (s : State) (r : RegionQueue) : State :=
  { s with disp := { s.disp with queues := r :: s.disp.queues.filter fun o => ¬ (o.part = r.part ∧ o.queue = r.queue) } }

/-- The hardware slot that holds a queue. -/
def State.slotHolding (s : State) (part q : Nat) : Option QSlot := s.disp.slots.find? fun h => h.part = part ∧ h.queue = q

/-- A hardware slot's contents replaced. -/
def State.putSlot (s : State) (h : QSlot) : State :=
  { s with disp := { s.disp with slots := h :: s.disp.slots.filter (·.slot != h.slot) } }


/-- R18, R34: a queue's bit in its partition's PEND. -/
def State.setPend (s : State) (r : RegionQueue) (on : Bool) : State :=
  let off := 0xA0 + r.queue / 8
  let m : Byte := .ofNat 8 (2 ^ (r.queue % 8))
  let b := s.coherentByte ((s.part r.part).prcb.toNat + off)
  (s.writePrcb r.part off [if on then b ||| m else b &&& ~~~m]).putQueue { r with pend := on }

/-- R34: a queue takes a hardware slot, and is pending no longer. -/
def State.mapQueue (s : State) (slot : Nat) (r : RegionQueue) : State :=
  (if r.pend then s.setPend r false else s).putSlot ⟨slot, r.part, r.queue, 0⟩

/-- Entries present. -/
def RegionQueue.present (r : RegionQueue) : Nat := (r.tail - r.head).toNat

/-- The unretired launches of a queue. -/
def State.queueLaunches (s : State) (part q : Nat) : List Launch :=
  s.disp.launches.filter fun l => l.part = part ∧ l.queue = q ∧ !l.retired

/-- Bytes written to a launch's leaf, with R442's record where they cannot be. -/
def State.leafStore (s : State) (l : Launch) (off : Nat) (bs : List Byte) : State := s.dispatchWrite l l.leafNode off bs

/-- R23: bits of a leaf's STATUS set, and its STATE. No rule says when STATE is 1 (queued): the model never writes it (DESIGN CHOICE,
log 99). -/
def State.setStatus (s : State) (l : Launch) (add state : Nat) : State :=
  s.mapStatus l l.leafNode fun old => .ofNat 64 ((old ||| .ofNat 64 add).toNat / 16 * 16 + state)

/-- R28: HEAD and DONE written; R442 for a failure, recorded for the launch taken or retired. -/
def State.writeCounts (s : State) (r : RegionQueue) (l : Option Launch) : State :=
  match s.writeOwn r.part (r.table + 16) (leBytes 4 r.head.toNat ++ leBytes 4 r.done.toNat) with
  | (s', none) => s'
  | (s', some f) => match l with
    | some l => s'.launchFault l (afterScrub f).1 (.ofNat 64 (r.table + 16))
    | none => s'.partRecord r.part (afterScrub f).1 0xFF (.ofNat 64 (r.table + 16))

/-! Partition events (R133). -/

/-- R133: an event of a partition: to the running context of the modelled core that may take it, of the lower slot, else kept
for a task start. -/
def State.partEvent (s : State) (part : Nat) (c : Cause) (v : Dword) : State :=
  let fits (slot : Bool) : Bool := match s.ctx slot with
    | some k => s.partOf k.launch == part && k.prv.cur == .task && !k.prv.emask && !k.stopped
    | none => false
  let h : Held := ⟨c, 0xFF, v, .task⟩
  if fits false then s.hold false h
  else if fits true then s.hold true h
  else { s with disp := { s.disp with events := s.disp.events ++ [(part, h)] } }

/-! Notifies (R29, R34). -/

/-- R34: the pre-emptible mapped queue of lowest effective priority, the one notified least recently among equals. A queue's priority
is its owner's resolved PRIO as of its last notify (DESIGN CHOICE, log 37). -/
def State.victim (s : State) : Option (QSlot × RegionQueue) :=
  (s.disp.slots.filterMap fun h => (s.queue h.part h.queue).map fun r => (h, r)).foldl (fun best p =>
    if !p.2.preempt then best
    else match best with
      | none => some p
      | some b => if p.2.prio < b.2.prio ∨ (p.2.prio = b.2.prio ∧ p.2.stamp < b.2.stamp) then some p else best) none

/-- The lowest free hardware slot. -/
def State.freeQSlot (s : State) : Option Nat := (List.range Config.queueSlots).find? fun k => s.disp.slots.all (·.slot != k)

/-- R34: an unmapped queue that has been notified. -/
def State.placeQueue (s : State) (r : RegionQueue) : State :=
  match s.freeQSlot with
  | some k => s.mapQueue k r
  | none =>
    match s.victim with
    | some (h, v) => (s.setPend v true).mapQueue h.slot r
    | none =>
      if r.pend then s
      else
        let v : Dword := .ofNat 64 (r.queue + r.part * 65536)
        ((s.setPend r true).partRecord r.part .qstarve 0xFF v).partEvent r.part .qstarve v

/-- R22: holds of CONTAIN end where the node's STATUS reads 0. -/
def State.liftHolds (s : State) (part : Nat) : State :=
  { s with disp := { s.disp with held := s.disp.held.filter fun h =>
      ¬ (h.1 = part ∧ (s.nodeDword part h.2 8).toOption = some 0) } }

/-- R28: the ring and LOGN of a queue-table entry's first dword; none: no queue. An entry whose LOGN is not 3 to 16 is no queue, as one
with VALID = 0 (DESIGN CHOICE, log 99). -/
def ringOf (d : Dword) : Option (Nat × Nat) :=
  if bit d 5 ∧ 3 ≤ bits d 4 0 ∧ bits d 4 0 ≤ 16 then some (bits d 63 6 * 64, bits d 4 0) else none

/-- R29, R34, R419: a queue-notify. -/
def State.notifyQueue (s : State) (part q : Nat) (tail : Word) : State :=
  if !(s.part part).en then s
  else
    match s.nodeDword part ⟨true, (s.part part).prcb⟩ 0x58 with
    | .error (c, v) => s.partRecord part c 0xFF v
    | .ok link =>
    let table := link.toNat + 32 * q
    match deviceRead s s.coherentByte part table 32 with
    | .error (c, _) => s.partRecord part c 0xFF (.ofNat 64 table)
    | .ok bs =>
      let dw (k : Nat) : Dword := .ofNat 64 (leNat ((bs.drop (8 * k)).take 8))
      let old := s.queue part q
      let head := (old.map (·.head)).getD (.ofNat 32 (bits (dw 2) 31 0))
      match ringOf (dw 0) with
      | none => s.partRecord part .bound 0xFF (.ofNat 64 (q * 2 ^ 32 + tail.toNat))
      | some (ring, logn) =>
        if 2 ^ logn < (tail - head).toNat then s.partRecord part .bound 0xFF (.ofNat 64 (q * 2 ^ 32 + tail.toNat))
        else
          let t := match old with
            | some r => if (tail - head).toNat < (r.tail - head).toNat then r.tail else tail
            | none => tail
          let (res, owners) := s.resolveOwner part (dw 1)
          let r : RegionQueue := ⟨part, q, t, head, (old.map (·.done)).getD (.ofNat 32 (bits (dw 2) 63 32)), s.disp.stamp, table,
            ring, logn, res.prio, res.bww, res.preempt, owners, (old.map (·.pend)).getD false⟩
          let s := { (s.putQueue r) with disp := { (s.putQueue r).disp with stamp := s.disp.stamp + 1 } }
          let s := s.liftHolds part
          if (s.slotHolding part q).isSome then s else s.placeQueue r

/-- R414: a queue-notify waits for the scrub of a line that it reads: of the partition's RCB, its table entry, its owner's chain, or the
STATUS of a node held. -/
def State.notifyAwaits (s : State) (part q : Nat) : Bool :=
  (s.part part).en &&
  ((s.disp.held.any fun h => h.1 == part && (s.nodeDword part h.2 8).awaits) ||
  match s.nodeDword part ⟨true, (s.part part).prcb⟩ 0x58 with
  | .ok link =>
    (match deviceRead s s.coherentByte part (link.toNat + 32 * q) 32 with
    | .ok bs => (s.climb part climbMost (.ofNat 64 (leNat ((bs.drop 8).take 8))) []).awaits
    | r => r.awaits)
  | r => r.awaits)

/-- R29 QUEUE_NOTIFY: a doorbell write by a host or another core. -/
def execQueueNotify (part queue : Nat) (tail : BitVec 64) (s : State) : Answer :=
  .next (if part < Config.partCount ∧ queue < 256 ∧ !s.notifyAwaits part queue then s.notifyQueue part queue (.ofNat 32 tail.toNat) else s)

/-- R34: a slot whose queue has no entries present and no unretired launch. -/
def slotReleasable (k : Nat) (s : State) : Bool :=
  match s.disp.slots.find? (·.slot == k) with
  | none => false
  | some h => match s.queue h.part h.queue with
    | none => true
    | some r => r.present == 0 && (s.queueLaunches h.part h.queue).isEmpty

/-- R34: the pending queue of highest priority, lower partition and queue first among equals. -/
def State.nextPending (s : State) : Option RegionQueue :=
  (s.disp.queues.filter (·.pend)).foldl (fun best r => match best with
    | none => some r
    | some b =>
      if b.prio < r.prio ∨ (b.prio = r.prio ∧ (r.part < b.part ∨ (r.part = b.part ∧ r.queue < b.queue))) then some r else best) none

/-- R34: the slot is released, and taken by the next pending queue. -/
def releaseSlot (k : Nat) (s : State) : State :=
  let s := { s with disp := { s.disp with slots := s.disp.slots.filter (·.slot != k) } }
  match s.nextPending with
  | some r => s.mapQueue k r
  | none => s

/-- R34 QUEUE_SLOT_RELEASE. -/
def execQueueSlotRelease (qslot : Nat) (s : State) : Answer := .next (if slotReleasable qslot s then releaseSlot qslot s else s)

/-! Retirement (R40). -/

/-- R18: PROGRESS as the launch has it. -/
def State.writeProgress (s : State) (l : Launch) : State :=
  s.leafStore l 0x98 (leBytes 4 l.ended ++ leBytes 4 l.endedFault)

/-- R40 step 3: DONE rises past the retired launches at the front of a queue, which then leave. -/
def State.settleQueue (s : State) (part q : Nat) : State :=
  let mine := s.disp.launches.filter fun l => l.part = part ∧ l.queue = q
  let first := mine.foldl (fun (m : Option Nat) l => if l.retired then m else some (match m with | none => l.entry | some k => min k l.entry)) none
  let gone := mine.filter fun l => l.retired && (match first with | none => true | some k => decide (l.entry < k))
  if gone.isEmpty then s
  else
    let s := { s with disp := { s.disp with launches := s.disp.launches.filter fun l => !gone.any (·.key == l.key) } }
    match s.queue part q with
    | none => s
    | some r =>
      let r := { r with done := r.done + .ofNat 32 gone.length }
      (s.putQueue r).writeCounts r gone.getLast?

/-! Seats of gangs (R37). -/

/-- A permit of a core of the cluster, taken or given back. -/
def State.addPermit (s : State) (j : Nat) (up : Bool) : State :=
  let n := (s.wick.permits[j]?).getD 0
  { s with wick := { s.wick with permits := s.wick.permits.setIfInBounds j (if up then n + 1 else n - 1) } }

/-- R305, R429: a cluster that hands no further task of a claiming walk of a partition. -/
def State.barredCluster (s : State) (part k : Nat) : Bool :=
  (s.part part).left.getLsbD k || !s.computeMask.getLsbD k

/-- R298, R305, R427: a context saved to memory that a cluster may take back: its launch's mask includes the cluster, whose layer
computes and which has not left the partition. -/
def State.mayHold (s : State) (k : SavedCtx) (cluster : Nat) : Bool :=
  match s.launch k.launch with
  | some l => l.res.mask.getLsbD cluster && !s.barredCluster l.part cluster
  | none => false

/-- R298: a stopped context goes before a new task of a priority in this cluster: its launch has that priority or a higher one. -/
def State.savedAhead (s : State) (prio : Nat) : Bool :=
  s.disp.saved.any fun k => s.mayHold k s.cluster &&
    (match s.launch k.launch with | some l => decide (prio ≤ l.res.prio) | none => false)

/-- R37, R296: the free context slots of some clusters, lowest first: empty, reserved for no gang, a permit each. What other
clusters hold is outside the model, and their slots count as free (log 39). -/
def State.openSeats (s : State) (clusters : List Nat) : List Nat :=
  let taken (n : Nat) : Bool := s.disp.launches.any (·.reserved.contains n)
  clusters.flatMap fun k => (List.range Config.coresPerCluster).flatMap fun j =>
    let core := k * Config.coresPerCluster + j
    let free := if k = s.cluster then (s.wick.permits[j]?).getD 0 else 2
    (([0, 1].map fun b => (2 * core + b, b)).filter fun p =>
      !taken p.1 && (if core = s.core.id then (s.ctx (p.2 == 1)).isNone else true)).map (·.1) |>.take free

/-- R37, R298: G free context slots for a gang of a priority, lowest first; none of this cluster's while a stopped context goes
before it here. -/
def State.gangSeats (s : State) (prio : Nat) (clusters : List Nat) (g : Nat) : Option (List Nat) :=
  let seats := s.openSeats (if s.savedAhead prio then clusters.filter (· != s.cluster) else clusters)
  if seats.length < g then none else some (seats.take g)

/-- The cores of the modelled cluster that seats lie on, once for each seat. -/
def State.seatCores (s : State) (seats : List Nat) : List Nat :=
  (seats.filter fun x => x / 2 / Config.coresPerCluster == s.cluster).map fun x => x / 2 % Config.coresPerCluster

/-- R296: the permits of seats are taken. -/
def State.takePermits (s : State) (seats : List Nat) : State := (s.seatCores seats).foldl (fun s j => s.addPermit j false) s

/-- R37, R296: a gang's seats reserved, each with its core's permit. -/
def State.reserveSeats (s : State) (key : Nat) (seats : List Nat) : State :=
  (s.mapLaunch key fun l => { l with reserved := seats, seats := seats }).takePermits seats

/-- Seats still reserved for a launch are free again. -/
def State.freeSeats (s : State) (key : Nat) : State :=
  match s.launch key with
  | none => s
  | some l => (s.seatCores l.reserved).foldl (fun s j => s.addPermit j true) (s.mapLaunch key fun l => { l with reserved := [] })

/-- R40: a launch retires. -/
def State.retire (s : State) (l : Launch) : State :=
  let bad := l.faulted.isSome
  let s := (s.freeSeats l.key).writeProgress l
  let s := if bit l.doneb 63 then s.arrive (bits l.doneb 29 0) 0 bad (.doneb l.key) else s
  let s := { s with wick := { s.wick with
    recs := s.wick.recs.filter fun r => ¬ (r.launch = l.key ∧ r.walk = none)
    parked := s.wick.parked.filter (· != l.key) } }
  let s := s.mapLaunch l.key fun m => { m with retired := true }
  let s := s.settleQueue l.part l.queue
  s.setStatus l 0 (if bad then 7 else 6)

/-- R27, R291: a launch that retires faulted with a BAD code: the record with cause ILLOP, and the retirement. The record's cause
value, which no rule gives, is 0 (DESIGN CHOICE, log 99). -/
def State.retireBad (s : State) (l : Launch) (bad : Nat) : State :=
  let s := s.setStatus l (bad * 2 ^ 24) 7
  let s := (s.launchFault l .illop 0).noteFault l l.leafNode .illop
  (s.mapLaunch l.key fun m => { m with faulted := some .illop }).retire { l with faulted := some .illop }

/-- R302, R304, R442: a launch that retires faulted with a memory cause. -/
def State.retireWith (s : State) (l : Launch) (src : Nat) (c : Cause) (v : Dword) : State :=
  let s := (s.record ⟨l.part, l.res.fq, c, src, false, l.lid, 0xFFFFFFFF, l.leaf, v⟩).noteFault l l.leafNode c
  (s.mapLaunch l.key fun m => { m with faulted := some c }).retire { l with faulted := some c }

/-! Activation (R25, R35). -/

/-- R442: a launch as its entry is taken, before anything of it is read: its records go to the partition's fault queue. -/
def Launch.fresh (key part queue entry : Nat) (leaf : Dword) (fq : Option (Dword × Nat)) : Launch where
  key := key; part := part; queue := queue; entry := entry; leaf := leaf; path := []; lid := 0
  res := { Resolved.widest with fq := fq }
  nest := 0; deps := []; doneb := 0; gang := none; serial := false; st := .waiting; walk := none; ended := 0; endedFault := 0
  faulted := none; reserved := []; seats := []; retired := false; resumed := false

/-- R442: an entry whose ring entry or leaf could not be read: taken, retired, DONE rises. -/
def State.retireUnread (s : State) (l : Launch) (c : Cause) (v : Dword) : State :=
  let s := s.launchFault l c v
  (s.mapLaunch l.key fun m => { m with retired := true, faulted := some c }).settleQueue l.part l.queue

/-- R25, R27, R442: the leaf of a taken entry is read, resolved and checked; a gang's seats are reserved (R37). A malformed leaf gets
neither QUEUE nor CLAMP bits (DESIGN CHOICE, log 99). -/
def State.activate (s : State) (l : Launch) : State :=
  match s.readNode l.part l.leafNode with
  | .error (c, v) => s.retireUnread l c v
  | .ok leaf =>
    let l := { l with lid := .ofNat 32 (bits (leaf.at 0x88) 31 0), doneb := leaf.at 0x80 }
    match s.climb l.part climbMost l.leaf [] with
    | .error (c, v) => (s.mapLaunch l.key fun _ => l).retireWith l 0xFF c v
    | .ok (ns, reaches) =>
      let (res, clamps) := resolveChain ns
      let mask := res.mask &&& s.computeMask
      let bad := badLeaf ns reaches leaf mask
      let l := { l with
        path := (ns.map (·.ref)).dropLast.reverse
        res := if reaches then { res with mask := mask } else l.res
        nest := leaf.at 0x58, deps := [0x60, 0x68, 0x70, 0x78].map leaf.at
        gang := if leaf.gang then some (bits (leaf.at 0x88) 47 32) else none
        serial := leaf.serial }
      let s := s.mapLaunch l.key fun _ => l
      if bad ≠ 0 then s.retireBad l bad
      else
        let s := s.leafStore l 0x8E (leBytes 1 l.queue)
        let s := (clamps.dropLast.filter fun c => c.2 != 0 && c.1 != s.rootNode).foldl (fun s c =>
          s.mapStatus l c.1 fun st => st ||| .ofNat 64 c.2) s
        let s := match l.gang.bind (s.gangSeats l.res.prio (clustersOf mask)) with
          | some seats => s.reserveSeats l.key seats
          | none => s
        match deviceRead s s.coherentByte l.part l.nest.toNat 128 with
        | .error (c, v) => s.retireWith l 0xFF c v
        | .ok _ => s.setStatus l (((clamps.getLast?).map (·.2)).getD 0) 2

/-- R414: the activation of a queue's next entry waits for the scrub of a line that it reads: of the entry, the leaf and its chain, or the
nest record. -/
def State.entryAwaits (s : State) (r : RegionQueue) : Bool :=
  match deviceDword s r.part (r.ring + r.head.toNat % 2 ^ r.logn * 8) with
  | .ok a => (match s.readNode r.part ⟨false, a⟩, s.climb r.part climbMost a [] with
    | .ok leaf, .ok _ => (deviceRead s s.coherentByte r.part (leaf.at 0x58).toNat 128).awaits
    | n, c => n.awaits || c.awaits)
  | e => e.awaits

/-- R35: the dispatcher may take the queue's next entry: one is present, no launch of the queue waits for its dependences or, with
SERIAL, for an earlier launch, and no node above the queue is held (R22). -/
def State.mayTake (s : State) (r : RegionQueue) : Bool :=
  r.present != 0 && !s.entryAwaits r && (s.queueLaunches r.part r.queue).all (·.st != .waiting) &&
  !(r.owners.any fun a => s.disp.held.contains (r.part, a))

/-- R35: what a queue offers to selection: the effective priority and mask of its next launch, and whether that can be placed. -/
structure Offer where
  queue : RegionQueue
  prio : Nat
  mask : BitVec 256
  place : Bool
  deriving DecidableEq, Repr

/-- R35, R37: a launch of a mask can be placed: a gang where its slots are free, another where a record slot may be had (other clusters
always have one: log 39). -/
def State.canPlace (s : State) (mask : BitVec 256) (prio : Nat) (gang : Option Nat) : Bool :=
  match gang with
  | some g => (s.gangSeats prio (clustersOf mask) g).isSome
  | none => (clustersOf mask).any fun k => k != s.cluster || decide (s.wick.recs.length < 8) || s.wick.recs.any fun r => decide (r.prio < prio)

/-- R38: a drained launch at the head of its queue. -/
def State.drainedOf (s : State) (r : RegionQueue) : Option Launch :=
  (s.queueLaunches r.part r.queue).find? fun l => l.st == .preempted && l.faulted.isNone

/-- R28, R35: the offer of a queue's next ring entry; one that cannot be resolved is offered at the highest priority, since it is taken
and retires at once. -/
def State.peek (s : State) (r : RegionQueue) : Offer :=
  match deviceDword s r.part (r.ring + r.head.toNat % 2 ^ r.logn * 8) with
  | .error _ => ⟨r, 15, 0, true⟩
  | .ok a => match s.climb r.part climbMost a [] with
    | .ok (ns, true) =>
      let res := (resolveChain ns).1
      let mask := res.mask &&& s.computeMask
      (match ns.getLast? with
        | some leaf =>
          let bad := badLeaf ns true leaf mask
          ⟨r, res.prio, mask, bad != 0 || s.canPlace mask res.prio (if leaf.gang then some (bits (leaf.at 0x88) 47 32) else none)⟩
        | none => ⟨r, 15, 0, true⟩)
    | _ => ⟨r, 15, 0, true⟩

/-- R35, R38: the offer of a hardware slot's queue, where it is eligible. -/
def State.eligible (s : State) (h : QSlot) : Option Offer :=
  match s.queue h.part h.queue with
  | some r => match s.drainedOf r with
    | some l => some ⟨r, l.res.prio, l.res.mask &&& s.computeMask, s.canPlace (l.res.mask &&& s.computeMask) l.res.prio l.gang⟩
    | none => if s.mayTake r then some (s.peek r) else none
  | none => none

/-- R35: the slots of the queues that the dispatcher visits now: the eligible ones of the highest level at which one can be placed,
those of weight where one of the level has weight. -/
def State.level (s : State) : List (Nat × Offer) :=
  let all := s.disp.slots.filterMap fun h => (s.eligible h).map fun o => (h.slot, o)
  let placed := all.filter (·.2.place)
  let top := placed.foldl (fun m o => max m o.2.prio) 0
  let mine := if placed.isEmpty then [] else all.filter (·.2.prio == top)
  if mine.any (·.2.queue.bww != 0) then mine.filter (·.2.queue.bww != 0) else mine

/-- R35: the slot visited next: in slot order from the one its level visited last (log 61). -/
def State.nextVisit (s : State) : Option (Nat × Offer) :=
  let best (ls : List (Nat × Offer)) : Option (Nat × Offer) := ls.foldl (fun b o => match b with
    | none => some o
    | some x => if o.1 < x.1 then some o else some x) none
  let ls := s.level
  best (ls.filter fun o => decide (((s.disp.visited[o.2.prio]?).getD 0) < o.1)) <|> best ls

/-- R35: it is the slot's turn. -/
def selectable (k : Nat) (s : State) : Bool := s.nextVisit.any (·.1 == k)

/-- R25, R28: a queue's next ring entry is taken and activated. -/
def State.takeEntryOf (s : State) (r : RegionQueue) : State :=
  let entry := deviceDword s r.part (r.ring + r.head.toNat % 2 ^ r.logn * 8)
  let r' := { r with head := r.head + 1 }
  let l := Launch.fresh s.disp.nextKey r.part r.queue s.disp.nextKey ((entry.toOption).getD 0) (s.partFq r.part)
  let s := (s.putQueue r').writeCounts r' (some l)
  let s := { s with disp := { s.disp with
    launches := s.disp.launches ++ [l], nextKey := s.disp.nextKey + 1
    slots := if r'.present = 0 then s.disp.slots.map fun (o : QSlot) => if o.part = r.part ∧ o.queue = r.queue then { o with deficit := 0 } else o
      else s.disp.slots } }
  match entry with
  | .error (c, v) => s.retireUnread l c v
  | .ok _ => s.activate l

/-- R35: a visit: D rises by 1024 × BWW, to at most 2^20, but stays 0 with no entry present; with D > 0, without weight, or with
nothing but a drained launch (R38), the queue's next launch is chosen if it can be placed. STATE of a drained launch stays 8 until a Wick
has taken it (DESIGN CHOICE, log 107). -/
def visitSlot (k : Nat) (s : State) : State :=
  match s.disp.slots.find? (·.slot == k), s.nextVisit with
  | some h, some (_, o) =>
    let r := o.queue
    let d := if r.present = 0 then 0 else min (2 ^ 20) (h.deficit + 1024 * r.bww)
    let s := if r.bww = 0 then s else s.putSlot { h with deficit := d }
    let s := { s with disp := { s.disp with visited := s.disp.visited.setIfInBounds o.prio k } }
    if !o.place ∨ (r.bww ≠ 0 ∧ r.present ≠ 0 ∧ d ≤ 0) then s
    else match s.drainedOf r with
      | some l => s.mapLaunch l.key fun m => { m with st := .ready }
      | none => s.takeEntryOf r
  | _, _ => s

/-- R25 LAUNCH_ACTIVATION. -/
def execLaunchActivation (qslot : Nat) (s : State) : Answer := .next (if selectable qslot s then visitSlot qslot s else s)

/-! Dependences (R32, R33). -/

/-- R32: the number an engine-sequence entry compares with: 0 for a CTXID that has no live context there. What another core's contexts
have done on other instances is not in the model (log 38). -/
def State.seqOf (s : State) (eng inst ctx : Nat) : Word :=
  let here := match eng with
    | 0 | 1 => s.core.id
    | 2 | 3 | 5 | 6 => s.cluster
    | 4 => s.cluster / 16
    | _ => 0
  if inst = here then (s.engCtx eng ctx).seq else 0

/-- R32, R326: a dependence: met, not yet, or an object error (none). -/
def State.dependence (s : State) (part : Nat) (v : Dword) : Option Bool :=
  match bits v 63 62 with
  | 1 => (s.barrierFor part (bits v 29 0)).map fun b => upTo (.ofNat 32 (bits v 61 30)) (.ofNat 32 b.phase)
  | 2 => some (upTo (.ofNat 32 (bits v 31 0)) (s.seqOf (bits v 61 58) (bits v 57 46) (bits v 45 32)))
  | _ => some true

/-- R33, R19: every dependence is met, or one is an object error; a SERIAL launch waits for the earlier ones of its queue. -/
def dependencesReady (key : Nat) (s : State) : Bool :=
  match s.launch key with
  | none => false
  | some l =>
    l.st == .waiting && !l.retired && l.faulted.isNone &&
    ((l.deps.any fun v => (s.dependence l.part v).isNone) ||
      ((l.deps.all fun v => s.dependence l.part v == some true) &&
        (!l.serial || (s.queueLaunches l.part l.queue).all fun m => l.entry ≤ m.entry)))

/-- R33, R326: the launch is ready; one with a bad dependence object retires faulted with no task run. -/
def meetDependences (key : Nat) (s : State) : State :=
  match s.launch key with
  | none => s
  | some l =>
    if l.deps.any fun v => (s.dependence l.part v).isNone then
      let s := s.noteFault l l.leafNode .syncerr
      (s.mapLaunch key fun m => { m with faulted := some .syncerr }).retire { l with faulted := some .syncerr }
    else (s.mapLaunch key fun m => { m with st := .ready }).setStatus l 0 3

/-- R33 DEPENDENCES_MET. -/
def execDependencesMet (launch : Nat) (s : State) : Answer :=
  .next (if dependencesReady launch s then meetDependences launch s else s)

end Sys2Proof.Machine
end

