-- ==== Sys2Proof/Machine/Wick.lean ====
section
/-! DEFINITION. The Wick: nest records and walks (R289 to R294), record slots (R295), hand-off (R296, R298), drains (R302 to
R304), its engine words (R308 to R317) and the retirement of launches (R299). -/

namespace Sys2Proof.Machine

/-! Nest records (R289 to R292). -/

/-- R290: an order code. -/
def Order.ofCode : Nat → Option Order
  | 0 => some .lex | 1 => some .reverse | 2 => some .serpentine | 3 => some .zorder | 4 => some .strided
  | _ => none

/-- The count of a level; 1 where it is not in use. -/
def Nest.count (n : Nest) (l : Nat) : Nat := if l < n.nlev then (n.cnt[l]?).getD 1 else 1

/-- R290: the walk total. -/
def Nest.total (n : Nest) : Nat := ((List.range n.nlev).map n.count).foldl (· * ·) 1

/-- R291: the record of 128 bytes at an address; none: malformed. -/
def Nest.parse (addr : Dword) (bs : List Byte) : Option Nest :=
  let num (o k : Nat) : Nat := leNat ((bs.drop o).take k)
  let w : Dword := .ofNat 64 (num 8 8)
  match Order.ofCode (bits w 2 0) with
  | none => none
  | some o =>
    let n : Nest := ⟨.ofNat 64 (num 0 8), addr, o, bits w 5 3, bits w 8 6, bits w 11 9, (List.range 6).map fun l => num (0x10 + 4 * l) 4⟩
    let powers := (List.range 16).map (2 ^ ·)
    if bits w 63 12 ≠ 0 ∨ num 0x28 24 ≠ 0 ∨ n.nlev = 0 ∨ 6 < n.nlev ∨ n.code.toNat % 128 ≠ 0 ∨ 2 ^ 32 ≤ n.total then none
    else if o = .zorder ∧ ¬ (n.za < n.zb ∧ n.zb < n.nlev ∧ n.count n.za = n.count n.zb ∧ n.count n.za ∈ powers) then none
    else some n

/-- R292: mixed-radix digits, level 0 first. -/
def digits : List Nat → Nat → List Nat
  | [], _ => []
  | r :: rs, n => n % r :: digits rs (n / r)

/-- R292: every second bit of a number from bit `from`. -/
def evenBits (z first : Nat) : Nat := ((List.range 16).map fun k => (z.testBit (2 * k + first)).toNat * 2 ^ k).sum

/-- R292: serpentine: from the outermost level inward, a level is mirrored where the indices above it sum to an odd number. -/
def serpentine : List (Nat × Nat) → List Nat
  | [] => []
  | (d, c) :: r =>
    let above := serpentine r
    (if above.sum % 2 = 1 then c - 1 - d else d) :: above

/-- R292: the index vector of task n: six indices. -/
def Nest.indices (n : Nest) (t : Nat) : List Nat :=
  let t := if n.order = .reverse then n.total - 1 - t else t
  let radix (l : Nat) : Nat :=
    if n.order = .zorder then (if l = n.za then n.count n.za * n.count n.zb else if l = n.zb then 1 else n.count l) else n.count l
  let d := digits ((List.range n.nlev).map radix) t
  let i := match n.order with
    | .serpentine => serpentine (d.zip ((List.range n.nlev).map n.count))
    | .zorder =>
      let z := (d[n.za]?).getD 0
      (d.set n.za (evenBits z 0)).set n.zb (evenBits z 1)
    | _ => d
  (i ++ List.replicate 6 0).take 6

/-! Walks (R293, R294). -/

/-- R294: a walk at its start, or resumed at a cursor; a strided walk shares its tasks among clusters by rank. -/
def Walk.start (n : Nest) (next : Nat) (clusters : List Nat) : Walk where
  nest := n; total := n.total; next := next; handed := next; ended := next; stopped := false; draining := false; bound := 0
  shares := if n.order = .strided then
      let c := clusters.length
      clusters.zipIdx.map fun p => (p.1, next + (p.2 + c - next % c) % c)
    else []

/-- R293: clusters that share a strided walk. -/
def Walk.ranks (w : Walk) : Nat := w.shares.length

/-- R299: every task number has been handed. -/
def Walk.allHanded (w : Walk) : Bool :=
  if w.nest.order = .strided then w.shares.all fun p => w.total ≤ p.2 else w.total ≤ w.next

/-- R302: the drain has handed all it may. -/
def Walk.drained (w : Walk) : Bool :=
  w.draining && (if w.nest.order = .strided then w.shares.all fun p => w.total ≤ p.2 || w.bound ≤ p.2 / w.ranks else true)

/-- R302: a drain starts. -/
def Walk.drain (w : Walk) : Walk :=
  if w.nest.order = .strided then
    let k := w.shares.foldl (fun k p => max k (p.2 / w.ranks)) 0
    { w with draining := true, bound := k, next := min (k * w.ranks) w.total }
  else { w with draining := true }

/-- A local walk. -/
def State.localWalk (s : State) (id : Nat) : Option LocalWalk := s.wick.locals.find? (·.id == id)

/-- R309: the walk a task belongs to. -/
def State.walkOf (s : State) (launch : Nat) (loc : Option Nat) : Option Walk :=
  match loc with
  | some id => (s.localWalk id).map (·.walk)
  | none => (s.launch launch).bind (·.walk)

/-- That walk changed. -/
def State.mapWalk (s : State) (launch : Nat) (loc : Option Nat) (f : Walk → Walk) : State :=
  match loc with
  | some id => { s with wick := { s.wick with
      locals := s.wick.locals.map fun w => if w.id = id then { w with walk := f w.walk } else w } }
  | none => s.mapLaunch launch fun l => { l with walk := l.walk.map f }

/-- R22, R316: no further task of the walk is handed. -/
def State.walkStopped (s : State) (launch : Nat) (w : Walk) : Bool :=
  w.stopped || (match s.launch launch with | some l => l.faulted.isSome | none => true)

/-! Record slots (R295). -/

/-- The lowest free record slot. -/
def State.freeRec (s : State) : Option Nat := (List.range 8).find? fun k => s.wick.recs.all (·.slot != k)

/-- R295: a record that may be parked: a claiming launch's. -/
def State.parkable (s : State) (r : WickRec) : Bool :=
  r.walk.isNone && (match s.launch r.launch with
    | some l => l.gang.isNone && (match l.walk with | some w => w.nest.order != .strided | none => false)
    | none => false)

/-- R295: the record a claiming launch of a priority would park: lowest priority, highest slot among equals. -/
def State.parkedBy (s : State) (prio : Nat) : Option WickRec :=
  (s.wick.recs.filter fun r => s.parkable r && decide (r.prio < prio)).foldl (fun best r => match best with
    | none => some r
    | some b => if r.prio < b.prio ∨ (r.prio = b.prio ∧ b.slot < r.slot) then some r else best) none

/-- A record slot taken. -/
def State.addRec (s : State) (r : WickRec) : State := { s with wick := { s.wick with recs := s.wick.recs ++ [r] } }

/-- R295: a running claiming launch has tasks left for this cluster. -/
def State.claimsHere (s : State) (l : Launch) : Bool :=
  l.st == .running && l.gang.isNone && l.faulted.isNone && l.res.mask.getLsbD s.cluster && !s.barredCluster l.part s.cluster &&
  (match l.walk with | some w => w.nest.order != .strided && !w.stopped && decide (w.next < w.total) | none => false)

/-- R295, R306: a parked record goes before one of a launch and priority: of higher priority, or of equal priority unless that one is
parked itself. -/
def State.parkedAhead (s : State) (key prio : Nat) : Bool :=
  s.wick.parked.any fun k => k != key && (match s.launch k with
    | some m => s.claimsHere m && decide (if s.wick.parked.contains key then prio < m.res.prio else prio ≤ m.res.prio)
    | none => false)

/-- R295, R306: the record slot that is free for a record of a launch and priority. -/
def State.freeRecFor (s : State) (key prio : Nat) : Option Nat := if s.parkedAhead key prio then none else s.freeRec

/-- R295: a claiming launch takes a record slot of this cluster, parking another where it must; none where it cannot. -/
def State.claimRec (s : State) (key prio : Nat) : Option State :=
  if s.parkedAhead key prio then none
  else
    let s := { s with wick := { s.wick with parked := s.wick.parked.filter (· != key) } }
    match s.freeRec with
    | some k => some (s.addRec ⟨k, key, none, prio⟩)
    | none => match s.parkedBy prio with
      | some r => some ({ s with wick := { s.wick with
          recs := s.wick.recs.filter (·.slot != r.slot), parked := s.wick.parked ++ [r.launch] } }.addRec ⟨r.slot, key, none, prio⟩)
      | none => none

/-- R305, R429: a claiming record that claims nothing further here. -/
def State.barred (s : State) (r : WickRec) : Bool := s.parkable r && s.barredCluster (s.partOf r.launch) s.cluster

/-- The tasks of a launch in this cluster's slots and queues. -/
def State.tasksHere (s : State) (launch : Nat) : Nat :=
  let here (c : Option Context) : Nat := match c with | some c => (c.launch == launch).toNat | none => 0
  here s.core.slot0 + here s.core.slot1 + (s.wick.queue.filter (·.launch == launch)).length +
    (s.wick.away.filter (·.2.launch == launch)).length +
    (s.disp.elsewhere.filter fun k => k.launch == launch && k.core / Config.coresPerCluster == s.cluster).length

/-! Taking a launch (R291, R295, R300, R304). -/

/-- R25, R305, R429: the clusters of a launch's mask, fixed at its activation, whose layers compute now. -/
def State.clustersFor (s : State) (l : Launch) : List Nat := clustersOf (l.res.mask &&& s.computeMask)

/-- R304: the walk position a pre-empted launch resumes from; none: a mismatch. -/
def resumeAt (l : Launch) (n : Nest) (bs : List Byte) : Option Nat :=
  let num (o k : Nat) : Nat := leNat ((bs.drop o).take k)
  let code := match n.order with | .lex => 0 | .reverse => 1 | .serpentine => 2 | .zorder => 3 | .strided => 4
  if num 7 1 % 2 = 1 ∧ num 8 8 = l.nest.toNat ∧ num 6 1 = code ∧ num 0 4 < n.total then some (num 0 4) else none

/-- R304: where a launch's walk starts: its saved position, or 0 with WSAVE's FLAGS cleared. -/
def State.walkFrom (s : State) (l : Launch) (n : Nest) : Check (State × Option Nat) :=
  if l.resumed then do
    let bs ← deviceRead s s.coherentByte l.part (l.leaf.toNat + 0xC0) 16
    .ok (s, resumeAt l n bs)
  else .ok (s.tryStore l.part (l.leaf.toNat + 0xC7) [0], some 0)

/-- R295, R37: the launch placed: its record in this cluster, and a gang's seats, those of its activation or, taken again, new ones;
none where it cannot be placed now. -/
def State.place (s : State) (l : Launch) (n : Nest) : Option State :=
  let ks := s.clustersFor l
  let fixed (s : State) : Option State := (s.freeRecFor l.key l.res.prio).map fun k => s.addRec ⟨k, l.key, none, l.res.prio⟩
  match l.gang with
  | some g =>
    match (if l.reserved.isEmpty then s.gangSeats l.res.prio ks g else some l.reserved) with
    | none => none
    | some seats =>
      let s := if l.reserved.isEmpty then s.reserveSeats l.key seats else s
      if (s.seatCores seats).isEmpty then some s else fixed s
  | none =>
    if n.order = .strided then (if ks = [] then none else if ks.contains s.cluster then fixed s else some s)
    else
      let ks := ks.filter fun k => !s.barredCluster l.part k
      if ks = [] then none
      else if !ks.contains s.cluster then some s
      else match s.claimRec l.key l.res.prio with
        | some s' => some s'
        | none => if ks = [s.cluster] then none else some s

/-- R291, R304: a ready launch is taken. -/
def State.takeLaunch (s : State) (l : Launch) : State :=
  match deviceRead s s.coherentByte l.part l.nest.toNat 128 with
  | .error (c, v) => s.retireWith l 0xFF c v
  | .ok bs =>
    match Nest.parse l.nest bs with
    | none => s.retireBad l 3
    | some n =>
      if l.gang.isSome ∧ l.gang ≠ some n.total then s.retireBad l 5
      else if n.total = 0 then s.retire l
      else match s.place l n with
        | none => s
        | some s =>
          let l := (s.launch l.key).getD l
          match s.walkFrom l n with
          | .error (c, _) => s.retireWith l 4 c (.ofNat 64 (l.leaf.toNat + 0xC0))
          | .ok (_, none) => s.retireBad l 3
          | .ok (s, some next) =>
            let l' := { l with st := .running, walk := some (.start n next (s.clustersFor l)) }
            (s.mapLaunch l.key fun _ => l').setStatus l' 0 4

/-- R295: a running claiming launch has no record here and may have one. -/
def State.mayJoin (s : State) (l : Launch) : Bool :=
  s.claimsHere l && (s.wick.recs.all fun r => !(r.launch == l.key && r.walk.isNone)) && (s.claimRec l.key l.res.prio).isSome

/-- R414: the taking of a launch waits for the scrub of a line of its nest record or its WSAVE. -/
def State.takeAwaits (s : State) (l : Launch) : Bool :=
  (deviceRead s s.coherentByte l.part l.nest.toNat 128).awaits ||
  (deviceRead s s.coherentByte l.part (l.leaf.toNat + 0xC0) 16).awaits

/-- R35: a ready launch that the Wicks would place, or retire, if they took it now. -/
def State.takeable (s : State) (l : Launch) : Bool :=
  !l.retired && l.st == .ready && l.faulted.isNone && !s.takeAwaits l &&
  (match deviceRead s s.coherentByte l.part l.nest.toNat 128 with
    | .error _ => true
    | .ok bs => match Nest.parse l.nest bs with
      | some n => n.total == 0 || (s.place l n).isSome
      | none => true)

/-- R40, R35, R295: a ready launch, of the highest priority that can be placed, or one that may join this cluster. -/
def takeReady (key : Nat) (s : State) : Bool :=
  match s.launch key with
  | none => false
  | some l => !l.retired &&
    ((s.takeable l && s.disp.launches.all fun m => decide (m.res.prio ≤ l.res.prio) || !s.takeable m) || s.mayJoin l)

/-- R291, R295: it is taken, or joins. -/
def takeOrJoin (key : Nat) (s : State) : State :=
  match s.launch key with
  | none => s
  | some l =>
    if l.st = .ready then s.takeLaunch l
    else (s.claimRec key l.res.prio).getD s

/-- R291 WICK_TAKE_LAUNCH. -/
def execWickTakeLaunch (launch : Nat) (s : State) : Answer := .next (if takeReady launch s then takeOrJoin launch s else s)

/-! Hand-off (R294, R296, R298). -/

/-- R298: the core of the cluster that is handed the next task. -/
def State.coreFor (s : State) : Option Nat :=
  let free (n : Nat) : Option Nat := (List.range Config.coresPerCluster).find? fun j => (s.wick.permits[j]?).getD 0 == n
  match free 2 with
  | some j => some j
  | none => free 1

/-- R35: the deficit of a launch's source queue. -/
def State.deficitOf (s : State) (launch : Nat) : Int :=
  match s.launch launch with
  | some l => ((s.slotHolding l.part l.queue).map (·.deficit)).getD 0
  | none => 0

/-- R298: one record goes before another. -/
def State.before (s : State) (a b : WickRec) : Bool :=
  let (da, db) := (s.deficitOf a.launch, s.deficitOf b.launch)
  decide (b.prio < a.prio) || (a.prio == b.prio && (decide (db < da) || (da == db && decide (a.slot < b.slot))))

/-- R419: a CTXID of the partition is free. -/
def State.freeCtx (s : State) (part : Nat) : Option Nat := (span (part * 1024) 1024).find? fun c => !s.disp.live.contains c

/-- R298: the record chosen, of those whose partition has a CTXID for its task. A gang's members are handed as one (R300). -/
def State.recFor (s : State) : Option WickRec :=
  (s.wick.recs.filter fun r => !s.barred r && (match s.launch r.launch with
    | some l => (r.walk.isSome || l.gang.isNone) && (s.freeCtx l.part).isSome
    | none => true)).foldl (fun best r => match best with
    | none => some r
    | some b => if s.before r b then some r else best) none

/-- R293, R294: the task number a record hands next in a cluster; none: nothing is left for it. -/
def State.nextTask (s : State) (launch : Nat) (loc : Option Nat) (cluster : Nat) : Option Nat :=
  match s.walkOf launch loc with
  | none => none
  | some w =>
    if s.walkStopped launch w then none
    else if loc.isNone ∧ w.nest.order = .strided then
      match w.shares.find? (·.1 == cluster) with
      | none => none
      | some p => if w.total ≤ p.2 ∨ (w.draining ∧ w.bound ≤ p.2 / w.ranks) then none else some p.2
    else if w.draining ∨ w.total ≤ w.next then none
    else some w.next

/-- R294: a number taken by a cluster: the claim is granted, or the cluster's share moves on. -/
def Walk.take (w : Walk) (strided : Bool) (cluster : Nat) : Walk :=
  if strided then { w with
    handed := w.handed + 1, shares := w.shares.map fun p => if p.1 = cluster then (p.1, p.2 + w.ranks) else p }
  else { w with handed := w.handed + 1, next := w.next + 1 }

/-- The walk shares its tasks among clusters. -/
def State.isStrided (s : State) (launch : Nat) (loc : Option Nat) : Bool :=
  loc.isNone && (match s.walkOf launch loc with | some w => w.nest.order == .strided | none => false)

/-- R296: a task handed to a core of the cluster. -/
def State.handTo (s : State) (j : Nat) (t : Task) : State :=
  let s := s.addPermit j false
  let s := if j = s.core.id % Config.coresPerCluster then { s with wick := { s.wick with queue := s.wick.queue ++ [t] } }
    else { s with wick := { s.wick with away := s.wick.away ++ [(j, t)] } }
  s.refreshHolds

/-- A record slot freed. -/
def State.freeSlotOf (s : State) (r : WickRec) : State := { s with wick := { s.wick with recs := s.wick.recs.filter (·.slot != r.slot) } }

/-- The priority of a local walk: its launch's (R314). -/
def State.localPrio (s : State) (launch : Nat) : Nat := ((s.launch launch).map (·.res.prio)).getD 0

/-- R295: a waiting local walk, and a slot for it. -/
def State.waitingLocal (s : State) : Option (LocalWalk × Nat) :=
  (s.wick.locals.filter (·.waiting)).findSome? fun w => (s.freeRecFor 0 (s.localPrio w.launch)).map (w, ·)

/-- R298: a hand-off, or a record slot that changes hands first: one that R305 frees, then one a local walk waits for. -/
def handOffReady (s : State) : Bool :=
  (s.wick.recs.any fun r => s.barred r && s.tasksHere r.launch == 0) || s.waitingLocal.isSome ||
  (s.coreFor.isSome && (match s.recFor with
    | some r => !s.savedAhead r.prio
    | none => false))

/-- R298, R314: the effect. -/
def handOff (s : State) : State :=
  match s.wick.recs.find? fun r => s.barred r && s.tasksHere r.launch == 0 with
  | some r => s.freeSlotOf r
  | none =>
    match s.waitingLocal with
    | some (w, k) =>
      let s' : State := { s with wick := { s.wick with
        locals := s.wick.locals.map fun (o : LocalWalk) => if o.id = w.id then { o with waiting := false } else o } }
      s'.addRec ⟨k, w.launch, some w.id, s.localPrio w.launch⟩
    | none =>
      match s.coreFor, s.recFor with
      | some j, some r =>
        match s.nextTask r.launch r.walk s.cluster, s.walkOf r.launch r.walk with
        | some n, some w =>
          let strided := s.isStrided r.launch r.walk
          let s := (s.mapWalk r.launch r.walk fun w => w.take strided s.cluster).handTo j ⟨r.launch, r.walk, n, w.nest.indices n⟩
          if strided ∧ (s.nextTask r.launch r.walk s.cluster).isNone then s.freeSlotOf r else s
        | _, _ => s.freeSlotOf r
      | _, _ => s

/-- R296 TASK_HAND_OFF. -/
def execTaskHandOff (s : State) : Answer := .next (if handOffReady s then handOff s else s)

/-- R294: another participating cluster takes a number. -/
def claimReady (key cluster : Nat) (s : State) : Bool :=
  match s.launch key with
  | none => false
  | some l =>
    (l.st == .running || l.st == .draining) && l.gang.isNone && cluster != s.cluster && l.res.mask.getLsbD cluster &&
    (s.isStrided key none || !s.barredCluster l.part cluster) && (s.nextTask key none cluster).isSome

/-- R294 CLAIM_GRANT. -/
def execClaimGrant (launch cluster : Nat) (s : State) : Answer :=
  .next (if claimReady launch cluster s then s.mapWalk launch none fun w => w.take (s.isStrided launch none) cluster else s)

/-! Drains and retirement (R299, R302, R303). -/

/-- R302: a launch's drain starts. Seats kept for a gang's stopped members stay theirs. -/
def State.startDrain (s : State) (l : Launch) : State :=
  let strided := s.isStrided l.key none
  let s := (if l.walk.any fun w => w.handed == 0 then s.freeSeats l.key else s).mapLaunch l.key fun m => { m with st := .draining, walk := m.walk.map Walk.drain }
  let s := { s with wick := { s.wick with
    recs := if strided then s.wick.recs else s.wick.recs.filter fun r => ¬ (r.launch = l.key ∧ r.walk = none)
    parked := s.wick.parked.filter (· != l.key) } }
  s.setStatus l 0 5

/-- R38, R317: the launch may be drained. -/
def Launch.drainable (l : Launch) : Bool :=
  l.res.preempt && l.st == .running && l.faulted.isNone && (match l.walk with | some w => !w.stopped | none => false)

/-- The launch has no task handed and not ended, and no local walk. -/
def State.launchIdle (s : State) (l : Launch) : Bool :=
  (match l.walk with | some w => w.handed == w.ended | none => true) && s.wick.locals.all (·.launch != l.key)

/-- R303: WSAVE. -/
def Walk.saved (w : Walk) : List Byte :=
  let code := match w.nest.order with | .lex => 0 | .reverse => 1 | .serpentine => 2 | .zorder => 3 | .strided => 4
  leBytes 4 w.next ++ leBytes 2 w.ranks ++ leBytes 1 code ++ leBytes 1 1 ++ leBytes 8 w.nest.addr.toNat ++ leBytes 16 0

/-- R302: a walk's position written to its leaf. -/
def State.writeWsave (s : State) (l : Launch) (w : Walk) : State × Option (Cause × Dword) :=
  s.writeOwn l.part (l.leaf.toNat + 0xC0) w.saved

/-- R302: the drain completes: it saves its position, by a write that need not wait at its home. -/
def drainReady (key : Nat) (s : State) : Bool :=
  match s.launch key with
  | none => false
  | some l => l.st == .draining && l.faulted.isNone && s.launchIdle l &&
    (match l.walk with
      | some w => w.drained && !w.stopped && decide (w.next < w.total) &&
        (s.writeWsave l w).1.fab.waiting.length == s.fab.waiting.length && !waitsScrub (s.writeWsave l w).2
      | none => false)

/-- R302: WSAVE written, STATE pre-empted, the launch back at the head of its queue. -/
def finishDrain (key : Nat) (s : State) : State :=
  match s.launch key with
  | none => s
  | some l =>
    match l.walk with
    | none => s
    | some w =>
      let s := { s with wick := { s.wick with recs := s.wick.recs.filter fun r => ¬ (r.launch = key ∧ r.walk = none) } }
      match s.writeWsave l w with
      | (s, some (c, _)) => s.retireWith l 4 c (.ofNat 64 (l.leaf.toNat + 0xC0))
      | (s, none) =>
        (s.mapLaunch key fun m => { m with st := .preempted, walk := none, resumed := true, seats := [] }).setStatus l 0 8

/-- R302 DRAIN_COMPLETE. -/
def execDrainComplete (launch : Nat) (s : State) : Answer := .next (if drainReady launch s then finishDrain launch s else s)

/-- R299, R22, R40: the launch retires, once the write of its PROGRESS need not wait at its home. -/
def retireReady (key : Nat) (s : State) : Bool :=
  match s.launch key with
  | none => false
  | some l => !l.retired && s.launchIdle l && (s.writeProgress l).fab.waiting.length == s.fab.waiting.length &&
    (match l.walk with
      | some w => w.stopped || w.allHanded || l.faulted.isSome
      | none => l.faulted.isSome)

/-- R40 LAUNCH_RETIREMENT. -/
def execLaunchRetirement (launch : Nat) (s : State) : Answer :=
  .next (if retireReady launch s then (match s.launch launch with | some l => s.retire l | none => s) else s)

/-! Time slices (R38). -/

/-- R38: an eligible launch of another partition, of equal or higher priority, waits for the cluster: one to be taken, or a queue's next. -/
def State.contender (s : State) (part prio : Nat) : Bool :=
  (s.disp.launches.any fun m => m.part != part && m.st == .ready && !m.retired && prio ≤ m.res.prio && m.res.mask.getLsbD s.cluster) ||
  s.disp.slots.any fun h => h.part != part && (match s.eligible h with
    | some o => prio ≤ o.prio && o.mask.getLsbD s.cluster
    | none => false)

/-- R38: a launch of the partition with tasks here whose SLICE the hold has reached. -/
def State.sliceDue (s : State) (part : Nat) (l : Launch) : Bool :=
  l.part == part && l.drainable && l.res.slice != 0 && s.tasksHere l.key != 0 &&
  (match (s.part part).hold with | some t => decide (t + 1024 * l.res.slice ≤ s.core.now) | none => false)

/-- R38: some such launch has a contender. -/
def timeSliceReady (part : Nat) (s : State) : Bool :=
  s.disp.launches.any fun l => s.sliceDue part l && s.contender part l.res.prio

/-- R38 TIME_SLICE_END: every launch of the partition whose SLICE the hold has reached is drained. -/
def execTimeSliceEnd (part : Nat) (s : State) : Answer :=
  .next (if timeSliceReady part s then (s.disp.launches.filter (s.sliceDue part)).foldl State.startDrain s else s)

/-! Engine words (R308 to R317). -/

/-- R311: the task's claims rise, wherever its context is. -/
def State.addClaims (s : State) (iss : Issuer) (n : Nat) : State :=
  match s.slotOf iss.ctx with
  | some slot => s.setCtx slot ((s.ctx slot).map fun c => { c with claimed := c.claimed + n })
  | none => { s with disp := { s.disp with
      saved := s.disp.saved.map fun k => if k.ctx = iss.ctx then { k with claimed := k.claimed + n } else k
      ending := s.disp.ending.map fun e => if e.ctx = iss.ctx then { e with claimed := e.claimed + n } else e } }

/-- R309, R313: an operation whose record is written as its word runs. -/
def wickRecord (slot : Nat) (off bar : Dword) (s : State) (k : Cmd) (st : List Dword) (f : State → State × List Byte) : WordRes :=
  match barOperand bar with
  | none => eopx k
  | some b =>
    (checkRecord s k.iss slot off 32).orFault fun m =>
      let spot := Spot.of m.handle.space (m.handle.base + off.toNat) m.leaves
      if s.spotWaits spot 0 32 then .wait
      else
        let (s, bs) := f (s.holdLeaves k.iss.part m.leaves)
        let bad := s.writeBad spot.space false (spot.writes 0 bs)
        let s := (s.writeFor k.iss 3 spot.space false (spot.writes 0 bs)).instantOp 3 k.iss.ctx
        .ok (s.engineArrive k.iss 3 b 32 bad) st

/-- R311: the grant and the record of `wclaim`. -/
def grant (iss : Issuer) (n : Nat) (s : State) : State × List Byte :=
  let none' : State × List Byte := (s, leBytes 4 0xFFFFFFFF ++ leBytes 28 0)
  match s.walkOf iss.launch iss.walk with
  | none => none'
  | some w =>
    let gang : Bool := match s.launch iss.launch with | some l => l.gang.isSome | none => true
    if s.isStrided iss.launch iss.walk || (gang && iss.walk.isNone) || s.walkStopped iss.launch w || w.draining ||
      decide (w.total ≤ w.next) then none'
    else
      let c := min n (w.total - w.next)
      ((s.mapWalk iss.launch iss.walk fun w => { w with next := w.next + c, handed := w.handed + c }).addClaims iss c,
        leBytes 4 w.next ++ leBytes 4 c ++ (w.nest.indices w.next).flatMap (leBytes 4))

/-- R308, R311 `wclaim`: offset, k, bar. -/
def execWclaim (h : BitVec 4) (s : State) : Answer :=
  runWord false (popping 3 fun s k vs st => match vs with
    | [off, n, bar] =>
      if n.toNat = 0 ∨ 64 < n.toNat then eopx k
      else wickRecord h.toNat off bar s k st (grant k.iss n.toNat)
    | _ => estk k) s

/-- R312: the record of `wstat`. -/
def snapshot (iss : Issuer) (s : State) : List Byte :=
  match s.walkOf iss.launch iss.walk, s.launch iss.launch with
  | some w, some l =>
    let strided := s.isStrided iss.launch iss.walk
    let ended := if iss.walk.isSome then w.ended else l.ended
    let st := if s.walkStopped iss.launch w then 3 else if w.draining then 1 else if w.allHanded then 2 else 0
    leBytes 4 (if strided then w.handed else w.next) ++ leBytes 4 w.total ++ leBytes 4 ended ++ leBytes 4 (w.handed - w.ended) ++
    leBytes 1 st ++ leBytes 1 iss.walk.isSome.toNat ++ leBytes 2 s.wick.recs.length ++ leBytes 4 l.lid.toNat ++
    leBytes 8 w.nest.addr.toNat
  | _, _ => leBytes 32 0

/-- R308, R312 `wstat`: offset, bar. -/
def execWstat (h : BitVec 4) (s : State) : Answer :=
  runWord false (popping 2 fun s k vs st => match vs with
    | [off, bar] => wickRecord h.toNat off bar s k st fun s => (s, snapshot k.iss s)
    | _ => estk k) s

/-- R314 item 1: the nest record of a local walk, as its checks and its read find it. -/
def readLocalNest (s : State) (iss : Issuer) (slot : Nat) (off : Dword) : Check (Dword × List Byte × List Leaf) := do
  let ac := s.accessOf iss
  let h ← handleOf s iss slot off
  checkBound s ac h slot off 128
  let va := h.va off
  if h.space ≠ .global then failed .rperm va
  else if va.toNat % 128 ≠ 0 then failed .align va
  else
    let (as, ls) ← mapReading s s.coherentByte ac.part (span va.toNat 128)
    .ok (va, as.map s.coherentByte, ls)

/-- R314: `wlaunch`. -/
def launchLocal (slot : Nat) (off bar : Dword) (s : State) (k : Cmd) (st : List Dword) : WordRes :=
  match barOperand bar with
  | none => eopx k
  | some b =>
    (readLocalNest s k.iss slot off).orFault fun (va, bs, ls) =>
      match Nest.parse va bs with
      | none => eopx k
      | some n =>
        let n := if n.order = .strided then { n with order := .lex } else n
        let s := s.holdLeaves k.iss.part ls
        if n.total = 0 then .ok ((s.instantOp 3 k.iss.ctx).engineArrive k.iss 3 b 0 false) st
        else
          let id := s.disp.nextKey
          let free := s.freeRecFor 0 (s.localPrio k.iss.launch)
          let w : LocalWalk := ⟨id, k.iss.launch, k.iss, s.nextNum 3 k.iss.ctx, b, .start n 0 [], free.isNone⟩
          let s := s.setEngCtx (s.engCtx 3 k.iss.ctx).launchOp
          let s := { s with disp := { s.disp with nextKey := id + 1 }, wick := { s.wick with locals := s.wick.locals ++ [w] } }
          .ok (match free with
            | some r => s.addRec ⟨r, k.iss.launch, some id, s.localPrio k.iss.launch⟩
            | none => s) st

/-- R308, R314 `wlaunch`: offset, bar. -/
def execWlaunch (h : BitVec 4) (s : State) : Answer :=
  runWord false (popping 2 fun s k vs st => match vs with
    | [off, bar] => launchLocal h.toNat off bar s k st
    | _ => estk k) s

/-- R315: the issuing task's permit returns. -/
def relPermit (s : State) (iss : Issuer) : State :=
  match s.slotOf iss.ctx with
  | none => s
  | some slot => match s.ctx slot with
    | some c => if c.permit then (s.setCtx slot (some { c with permit := false })).returnPermit else s
    | none => s

/-- R308, R315 `wrel`. -/
def execWrel (s : State) : Answer := runWord false (popping 0 fun s k _ st => .ok (relPermit s k.iss) st) s

/-- R316: the issuing task's walk stops. -/
def stopWalk (s : State) (iss : Issuer) : State :=
  let s := s.mapWalk iss.launch iss.walk fun w => { w with stopped := true }
  { s with wick := { s.wick with
    recs := s.wick.recs.filter fun r => ¬ (r.launch = iss.launch ∧ r.walk = iss.walk)
    parked := if iss.walk.isNone then s.wick.parked.filter (· != iss.launch) else s.wick.parked } }

/-- R308, R316 `wstop`. -/
def execWstop (s : State) : Answer := runWord false (popping 0 fun s k _ st => .ok (stopWalk s k.iss) st) s

/-- R317: the launch drains; refused at task privilege, its value the engine word (log 32). -/
def drainWord (s : State) (k : Cmd) (_ st : List Dword) : WordRes :=
  if k.iss.level = .task then .fault .priv 0x1500
  else match s.launch k.iss.launch with
    | some l => .ok (if l.drainable then s.startDrain l else s) st
    | none => .ok s st

/-- R308, R317 `wdrain`. -/
def execWdrain (s : State) : Answer := runWord false (popping 0 drainWord) s

/-- R314: every task of a local walk has ended. -/
def localReady (id : Nat) (s : State) : Bool :=
  match s.localWalk id with
  | none => false
  | some w => w.walk.handed == w.walk.ended && (w.walk.allHanded || s.walkStopped w.launch w.walk)

/-- R314: it completes: its record slot, its arrival, its number. -/
def finishLocal (id : Nat) (s : State) : State :=
  match s.localWalk id with
  | none => s
  | some w =>
    let s := { s with wick := { s.wick with
      locals := s.wick.locals.filter (·.id != id), recs := s.wick.recs.filter (·.walk != some id) } }
    (s.engineArrive w.iss 3 w.bar 0 false).completeOp 3 w.iss.ctx w.num

/-- R314 LOCAL_WALK_COMPLETE. -/
def execLocalWalkComplete (walk : Nat) (s : State) : Answer := .next (if localReady walk s then finishLocal walk s else s)

end Sys2Proof.Machine
end

