-- ==== Sys2Proof/Machine/EngineRun.lean ====
section
/-! DEFINITION. The word that runs next at an engine, by the engine's own map (R44, R45, R231, R246, R277, R308, R341, R353,
R377). -/

namespace Sys2Proof.Machine

/-- R44: an opcode or argument that the engine does not assign. -/
def unassigned (w : Nat) (s : State) : Answer := execUnassignedEngineOpcode (.ofNat 16 w) s

/-- R45: a word common to every engine. -/
def runCommon (w : Nat) (s : State) : Answer :=
  match decodeCommon w with
  | some .engNop => execEngNop s
  | some .engDup => execEngDup s
  | some .engDrop => execEngDrop s
  | some .engSwap => execEngSwap s
  | some .engOver => execEngOver s
  | some .engCat => execEngCat s
  | some (.engLit8 n) => execEngLit8 n s
  | some .engAdd => execEngAdd s
  | some .engSub => execEngSub s
  | some .engMul => execEngMul s
  | some (.engShl n) => execEngShl n s
  | some .engAnd => execEngAnd s
  | some .engOr => execEngOr s
  | some (.engPick n) => execEngPick n s
  | _ => unassigned w s

/-- R231, R267: a word of `mx`. -/
def runMx (w : Nat) (s : State) : Answer :=
  match decodeMx w with
  | some (.mset f) => execMset f s
  | some .mswp => execMswp s
  | some .mcpy => execMcpy s
  | some .mrst => execMrst s
  | some .mgeo => execMgeo s
  | some .msra => execMsra s
  | some .msrb => execMsrb s
  | some .mdst => execMdst s
  | some .mssr => execMssr s
  | some (.mfmt b a) => execMfmt b a s
  | some .mbsf => execMbsf s
  | some (.mtr t) => execMtr t s
  | some (.mcos c) => execMcos c s
  | some (.mlev l) => execMlev l s
  | some (.mstr g) => execMstr g s
  | some (.mepi e) => execMepi e s
  | some .mtsc => execMtsc s
  | some (.mgo a) => execMgo a s
  | some .mzero => execMzero s
  | some (.mstat c) => execMstat c s
  | some .msave => execMsave s
  | some .mload => execMload s
  | some (.mgrp g) => execMgrp g s
  | some .mgclr => execMgclr s
  | some (.msfm f) => execMsfm f s
  | some .msar => execMsar s
  | some .msdb => execMsdb s
  | some (.msds g) => execMsds g s
  | _ => unassigned w s

/-- R246: a word of `tf`. -/
def runTf (w : Nat) (s : State) : Answer :=
  match decodeTf w with
  | some (.fget e r h) => execFget e r h s
  | some (.fwarm h) => execFwarm h s
  | some .frel => execFrel s
  | some .fdrop => execFdrop s
  | _ => unassigned w s

/-- R277: a word of `at`. -/
def runAt (w : Nat) (s : State) : Answer :=
  match decodeAt w with
  | some (.aget a h) => execAget a h s
  | some (.apin a h) => execApin a h s
  | some (.aunpin h) => execAunpin h s
  | some (.aalloc h) => execAalloc h s
  | some (.apub h) => execApub h s
  | some (.aabort h) => execAabort h s
  | _ => unassigned w s

/-- R308: a word of `wk`. -/
def runWk (w : Nat) (s : State) : Answer :=
  match decodeWk w with
  | some (.wclaim h) => execWclaim h s
  | some (.wstat h) => execWstat h s
  | some (.wlaunch h) => execWlaunch h s
  | some .wrel => execWrel s
  | some .wstop => execWstop s
  | some .wdrain => execWdrain s
  | _ => unassigned w s

/-- R341: a word of `sy`. -/
def runSy (w : Nat) (s : State) : Answer :=
  match decodeSy w with
  | some (.yarv p) => execYarv p s
  | some (.yred o h) => execYred o h s
  | some (.yadd d h) => execYadd d h s
  | _ => unassigned w s

/-- R353: a word of `cp0` or `cp1`: the rows that `decodeCp` names, each with its fields. -/
def runCp (w : Nat) (s : State) : Answer :=
  let hi : BitVec 4 := .ofNat 4 (w / 2 ^ 4)
  let lo : BitVec 4 := .ofNat 4 w
  match w / 256 % 256 with
  | 0x10 => execCcopy hi lo s
  | 0x11 => execC2d hi lo s
  | 0x12 => if w % 256 < 16 then execCfill lo s else unassigned w s
  | 0x13 => execCgath hi lo s
  | 0x14 => execCscat hi lo s
  | 0x15 => execCzip hi lo s
  | 0x16 => execCunz hi lo s
  | 0x17 => execCdf hi lo s
  | 0x18 => if w % 256 < 16 then execCrput lo s else unassigned w s
  | 0x19 => if w % 256 < 16 then execCrget lo s else unassigned w s
  | 0x1A => if w % 256 < 16 then execCrred lo s else unassigned w s
  | _ => unassigned w s

/-- R377: a word of `ll`. -/
def runLl (w : Nat) (s : State) : Answer :=
  match decodeLl w with
  | some .lstep => execLstep s
  | some (.lret c) => execLret c s
  | some (.lhold h) => execLhold h s
  | some (.lstat h) => execLstat h s
  | some (.lseq h) => execLseq h s
  | _ => unassigned w s

/-- R44: the word w runs at an engine, for the head command. -/
def runEngine (eng w : Nat) (s : State) : Answer :=
  if 0x8000 ≤ w % 0x10000 then execEngPush (.ofNat 15 w) s
  else if w % 0x10000 < 0x1000 then runCommon w s
  else match eng with
    | 0 => runMx w s
    | 1 => runTf w s
    | 2 => runAt w s
    | 3 => runWk w s
    | 4 => runSy w s
    | 5 => runCp w s
    | 6 => runCp w s
    | 7 => runLl w s
    | _ => unassigned w s

/-- The next word of the head command runs at its engine. -/
def runHead (s : State) : Answer :=
  match s.eng.cmds with
  | [] => .next s
  | k :: _ => match k.words with
    | [] => .next { s with eng := { s.eng with cmds := s.eng.cmds.tail } }
    | w :: _ => runEngine k.eng w.toNat s

/-- R240: the word that runs next is `msave` or `mload`, which take their place after everything sent earlier to `mx`. -/
def Cmd.housekeeps (k : Cmd) : Bool :=
  k.eng == 0 && (match k.words.head?.bind fun w => decodeMx w.toNat with
    | some .msave | some .mload => true
    | _ => false)

/-- R47, R240, R371: a command that runs before another: an older one of its engine and context, any sent earlier to `mx` where it
housekeeps, and of the host commands of a partition the one whose write came first. -/
def Cmd.precedes (o k : Cmd) : Bool :=
  o.eng == k.eng && decide (o.order < k.order) && (k.housekeeps || (o.iss.host && k.iss.host && o.iss.part == k.iss.part))

/-- The command at a place of the queues: at its engine, not held back there, and preceded by none. -/
def State.runnable (s : State) (n : Nat) : Bool :=
  match s.eng.cmds[n]? with
  | none => false
  | some k => k.retire.isNone && s.reached k && !s.heldBack k && !(s.eng.cmds.any (·.precedes k)) &&
    !(s.eng.cmds.take n).any fun o => o.eng == k.eng && o.iss.ctx == k.iss.ctx

/-- R47: that command's next word runs; a command that cannot run stays as it is. -/
def runCommand (n : Nat) (s : State) : Answer :=
  match s.runnable n, s.eng.cmds[n]? with
  | true, some k => runHead { s with eng := { s.eng with cmds := k :: s.eng.cmds.eraseIdx n } }
  | _, _ => .next s

end Sys2Proof.Machine
end

