-- ==== Sys2Proof/Machine/Integer.lean ====
section
/-! DEFINITION. The integer instructions: R111 to R114. -/

namespace Sys2Proof.Machine

/-- R111: the shift count b[5:0]. -/
def shiftCount (b : Dword) : Nat := b.toNat % 64

/-- R111 `clz`: the zero bits above the highest one bit. -/
def leadingZeros {w : Nat} (a : BitVec w) : Nat := w - (if a.toNat = 0 then 0 else Nat.log2 a.toNat + 1)

/-- R111 `popc`. -/
def ones {w : Nat} (a : BitVec w) : Nat := ((List.range w).filter a.getLsbD).length

/-- R111 `ctz`: the zero bits below the lowest one bit. -/
def trailingZeros {w : Nat} (a : BitVec w) : Nat := ((List.range w).find? a.getLsbD).getD w

/-- R111 `bswap`. -/
def swapBytes (a : Dword) : Dword := .ofNat 64 (leNat (leBytes 8 a.toNat).reverse)

/-- R111 `adds`, `subs`: the exact value in the signed 64-bit range, and whether it was clamped. -/
def saturate64 (v : Int) : Dword × Bool :=
  if v < -(2 ^ 63) then (.ofInt 64 (-(2 ^ 63)), true)
  else if 2 ^ 63 ≤ v then (.ofInt 64 (2 ^ 63 - 1), true)
  else (.ofInt 64 v, false)

/-- R114 `mulh`: bits[127:64] of the signed product. -/
def mulHigh (a b : Dword) : Dword := .ofInt 64 (a.toInt * b.toInt / 2 ^ 64)
/-- R114 `mulhn`. -/
def mulHighUnsigned (a b : Dword) : Dword := .ofNat 64 (a.toNat * b.toNat / 2 ^ 64)
/-- R114 `div`: truncating; b = 0 gives all ones, and −2^63 by −1 gives −2^63. -/
def signedQuotient (a b : Dword) : Dword := if b = 0 then .allOnes 64 else .ofInt 64 (Int.tdiv a.toInt b.toInt)
/-- R114 `divn`. -/
def unsignedQuotient (a b : Dword) : Dword := if b = 0 then .allOnes 64 else .ofNat 64 (a.toNat / b.toNat)
/-- R114 `rem`: with the sign of a. -/
def signedRemainder (a b : Dword) : Dword := if b = 0 then a else .ofInt 64 (Int.tmod a.toInt b.toInt)
/-- R114 `remn`. -/
def unsignedRemainder (a b : Dword) : Dword := if b = 0 then a else .ofNat 64 (a.toNat % b.toNat)

/-- A register operation on two operands. -/
def binary (a b : Code) (f : Dword → Dword → Dword) (c : Context) : Dword := f (c.read a) (c.read b)

/-- A saturating result: SAT is set when it was clamped (R57). -/
def saturatedResult (d : Code) (v : Dword × Bool) (s : State) (c : Context) : Res :=
  .done s ((c.raise { sat := v.2 }).result d v.1 1)

/-- R111 `add`. -/
def execAdd (st : BitVec 2) (d a b : Code) (s : State) : Answer :=
  issue (.add st d a b) anyLevel (fixedResult d 1 (binary a b fun a b => a + b)) s

/-- R111 `sub`. -/
def execSub (st : BitVec 2) (d a b : Code) (s : State) : Answer :=
  issue (.sub st d a b) anyLevel (fixedResult d 1 (binary a b fun a b => a - b)) s

/-- R111 `and`. -/
def execAnd (st : BitVec 2) (d a b : Code) (s : State) : Answer :=
  issue (.and st d a b) anyLevel (fixedResult d 1 (binary a b fun a b => a &&& b)) s

/-- R111 `or`. -/
def execOr (st : BitVec 2) (d a b : Code) (s : State) : Answer :=
  issue (.or st d a b) anyLevel (fixedResult d 1 (binary a b fun a b => a ||| b)) s

/-- R111 `xor`. -/
def execXor (st : BitVec 2) (d a b : Code) (s : State) : Answer :=
  issue (.xor st d a b) anyLevel (fixedResult d 1 (binary a b fun a b => a ^^^ b)) s

/-- R111 `andn`. -/
def execAndn (st : BitVec 2) (d a b : Code) (s : State) : Answer :=
  issue (.andn st d a b) anyLevel (fixedResult d 1 (binary a b fun a b => a &&& ~~~b)) s

/-- R111 `shl`. -/
def execShl (st : BitVec 2) (d a b : Code) (s : State) : Answer :=
  issue (.shl st d a b) anyLevel (fixedResult d 1 (binary a b fun a b => a <<< shiftCount b)) s

/-- R111 `shr`. -/
def execShr (st : BitVec 2) (d a b : Code) (s : State) : Answer :=
  issue (.shr st d a b) anyLevel (fixedResult d 1 (binary a b fun a b => a >>> shiftCount b)) s

/-- R111 `sra`. -/
def execSra (st : BitVec 2) (d a b : Code) (s : State) : Answer :=
  issue (.sra st d a b) anyLevel (fixedResult d 1 (binary a b fun a b => a.sshiftRight (shiftCount b))) s

/-- R111 `rotr`. -/
def execRotr (st : BitVec 2) (d a b : Code) (s : State) : Answer :=
  issue (.rotr st d a b) anyLevel (fixedResult d 1 (binary a b fun a b => a.rotateRight (shiftCount b))) s

/-- R111 `min`. -/
def execMin (st : BitVec 2) (d a b : Code) (s : State) : Answer :=
  issue (.min st d a b) anyLevel (fixedResult d 1 (binary a b fun a b => if a.sle b then a else b)) s

/-- R111 `max`. -/
def execMax (st : BitVec 2) (d a b : Code) (s : State) : Answer :=
  issue (.max st d a b) anyLevel (fixedResult d 1 (binary a b fun a b => if a.sle b then b else a)) s

/-- R111 `minn`. -/
def execMinn (st : BitVec 2) (d a b : Code) (s : State) : Answer :=
  issue (.minn st d a b) anyLevel (fixedResult d 1 (binary a b fun a b => if a.ule b then a else b)) s

/-- R111 `maxn`. -/
def execMaxn (st : BitVec 2) (d a b : Code) (s : State) : Answer :=
  issue (.maxn st d a b) anyLevel (fixedResult d 1 (binary a b fun a b => if a.ule b then b else a)) s

/-- R111 `seq`. -/
def execSeq (st : BitVec 2) (d a b : Code) (s : State) : Answer :=
  issue (.seq st d a b) anyLevel (fixedResult d 1 (binary a b fun a b => bool64 (a == b))) s

/-- R111 `sne`. -/
def execSne (st : BitVec 2) (d a b : Code) (s : State) : Answer :=
  issue (.sne st d a b) anyLevel (fixedResult d 1 (binary a b fun a b => bool64 (a != b))) s

/-- R111 `slt`. -/
def execSlt (st : BitVec 2) (d a b : Code) (s : State) : Answer :=
  issue (.slt st d a b) anyLevel (fixedResult d 1 (binary a b fun a b => bool64 (a.slt b))) s

/-- R111 `sltn`. -/
def execSltn (st : BitVec 2) (d a b : Code) (s : State) : Answer :=
  issue (.sltn st d a b) anyLevel (fixedResult d 1 (binary a b fun a b => bool64 (a.ult b))) s

/-- R111 `sle`. -/
def execSle (st : BitVec 2) (d a b : Code) (s : State) : Answer :=
  issue (.sle st d a b) anyLevel (fixedResult d 1 (binary a b fun a b => bool64 (a.sle b))) s

/-- R111 `slen`. -/
def execSlen (st : BitVec 2) (d a b : Code) (s : State) : Answer :=
  issue (.slen st d a b) anyLevel (fixedResult d 1 (binary a b fun a b => bool64 (a.ule b))) s

/-- R111 `adds`. -/
def execAdds (st : BitVec 2) (d a b : Code) (s : State) : Answer :=
  issue (.adds st d a b) anyLevel
    (fun s c => saturatedResult d (saturate64 ((c.read a).toInt + (c.read b).toInt)) s c) s

/-- R111 `subs`. -/
def execSubs (st : BitVec 2) (d a b : Code) (s : State) : Answer :=
  issue (.subs st d a b) anyLevel
    (fun s c => saturatedResult d (saturate64 ((c.read a).toInt - (c.read b).toInt)) s c) s

/-- R111 `clz`. -/
def execClz (st : BitVec 2) (d a : Code) (s : State) : Answer :=
  issue (.clz st d a) anyLevel (fixedResult d 1 fun c => (fun a : Dword => .ofNat 64 (leadingZeros a)) (c.read a)) s

/-- R111 `ctz`. -/
def execCtz (st : BitVec 2) (d a : Code) (s : State) : Answer :=
  issue (.ctz st d a) anyLevel (fixedResult d 1 fun c => (fun a : Dword => .ofNat 64 (trailingZeros a)) (c.read a)) s

/-- R111 `popc`. -/
def execPopc (st : BitVec 2) (d a : Code) (s : State) : Answer :=
  issue (.popc st d a) anyLevel (fixedResult d 1 fun c => (fun a : Dword => .ofNat 64 (ones a)) (c.read a)) s

/-- R111 `bswap`. -/
def execBswap (st : BitVec 2) (d a : Code) (s : State) : Answer :=
  issue (.bswap st d a) anyLevel (fixedResult d 1 fun c => (fun a : Dword => swapBytes a) (c.read a)) s

/-- R111 `sxb`. -/
def execSxb (st : BitVec 2) (d a : Code) (s : State) : Answer :=
  issue (.sxb st d a) anyLevel (fixedResult d 1 fun c => (fun a : Dword => (a.truncate 8).signExtend 64) (c.read a)) s

/-- R111 `sxh`. -/
def execSxh (st : BitVec 2) (d a : Code) (s : State) : Answer :=
  issue (.sxh st d a) anyLevel (fixedResult d 1 fun c => (fun a : Dword => (a.truncate 16).signExtend 64) (c.read a)) s

/-- R111 `sxw`. -/
def execSxw (st : BitVec 2) (d a : Code) (s : State) : Answer :=
  issue (.sxw st d a) anyLevel (fixedResult d 1 fun c => (fun a : Dword => (a.truncate 32).signExtend 64) (c.read a)) s

/-- R111 `zxb`. -/
def execZxb (st : BitVec 2) (d a : Code) (s : State) : Answer :=
  issue (.zxb st d a) anyLevel (fixedResult d 1 fun c => (fun a : Dword => (a.truncate 8).zeroExtend 64) (c.read a)) s

/-- R111 `zxh`. -/
def execZxh (st : BitVec 2) (d a : Code) (s : State) : Answer :=
  issue (.zxh st d a) anyLevel (fixedResult d 1 fun c => (fun a : Dword => (a.truncate 16).zeroExtend 64) (c.read a)) s

/-- R111 `zxw`. -/
def execZxw (st : BitVec 2) (d a : Code) (s : State) : Answer :=
  issue (.zxw st d a) anyLevel (fixedResult d 1 fun c => (fun a : Dword => (a.truncate 32).zeroExtend 64) (c.read a)) s

/-- R111 `sel`: the old xd is read at issue. -/
def execSel (st : BitVec 2) (d a b : Code) (s : State) : Answer :=
  issue (.sel st d a b) anyLevel (fixedResult d 1 fun c => if c.read d ≠ 0 then c.read a else c.read b) s

/-- R112 `addi`. -/
def execAddi (st : BitVec 2) (d a : Code) (i : BitVec 12) (s : State) : Answer :=
  issue (.addi st d a i) anyLevel (fixedResult d 1 fun c => (fun a : Dword => a + sext64 i) (c.read a)) s

/-- R112 `andi`. -/
def execAndi (st : BitVec 2) (d a : Code) (i : BitVec 12) (s : State) : Answer :=
  issue (.andi st d a i) anyLevel (fixedResult d 1 fun c => (fun a : Dword => a &&& sext64 i) (c.read a)) s

/-- R112 `ori`. -/
def execOri (st : BitVec 2) (d a : Code) (i : BitVec 12) (s : State) : Answer :=
  issue (.ori st d a i) anyLevel (fixedResult d 1 fun c => (fun a : Dword => a ||| sext64 i) (c.read a)) s

/-- R112 `xori`. -/
def execXori (st : BitVec 2) (d a : Code) (i : BitVec 12) (s : State) : Answer :=
  issue (.xori st d a i) anyLevel (fixedResult d 1 fun c => (fun a : Dword => a ^^^ sext64 i) (c.read a)) s

/-- R112 `slti`. -/
def execSlti (st : BitVec 2) (d a : Code) (i : BitVec 12) (s : State) : Answer :=
  issue (.slti st d a i) anyLevel (fixedResult d 1 fun c => (fun a : Dword => bool64 (a.slt (sext64 i))) (c.read a)) s

/-- R112 `sltni`. -/
def execSltni (st : BitVec 2) (d a : Code) (i : BitVec 12) (s : State) : Answer :=
  issue (.sltni st d a i) anyLevel (fixedResult d 1 fun c => (fun a : Dword => bool64 (a.ult (sext64 i))) (c.read a)) s

/-- R112 `shli`. -/
def execShli (st : BitVec 2) (d a : Code) (i : BitVec 6) (s : State) : Answer :=
  issue (.shli st d a i) anyLevel (fixedResult d 1 fun c => (fun a : Dword => a <<< i.toNat) (c.read a)) s

/-- R112 `shri`. -/
def execShri (st : BitVec 2) (d a : Code) (i : BitVec 6) (s : State) : Answer :=
  issue (.shri st d a i) anyLevel (fixedResult d 1 fun c => (fun a : Dword => a >>> i.toNat) (c.read a)) s

/-- R112 `srai`. -/
def execSrai (st : BitVec 2) (d a : Code) (i : BitVec 6) (s : State) : Answer :=
  issue (.srai st d a i) anyLevel (fixedResult d 1 fun c => (fun a : Dword => a.sshiftRight i.toNat) (c.read a)) s

/-- R113 `li`. -/
def execLi (st : BitVec 2) (d : Code) (i : BitVec 32) (s : State) : Answer :=
  issue (.li st d i) anyLevel (fixedResult d 1 fun _ => sext64 i) s

/-- R113 `lhi`. -/
def execLhi (st : BitVec 2) (d a : Code) (i : BitVec 32) (s : State) : Answer :=
  issue (.lhi st d a i) anyLevel (fixedResult d 1 fun c => (zext64 i <<< 32) ||| zext64 ((c.read a).truncate 32)) s

/-- R113 `addl`. -/
def execAddl (st : BitVec 2) (d a : Code) (i : BitVec 32) (s : State) : Answer :=
  issue (.addl st d a i) anyLevel (fixedResult d 1 fun c => c.read a + sext64 i) s

/-- R114 `mul`, latency 3 (R101). -/
def execMul (st : BitVec 2) (d a b : Code) (s : State) : Answer :=
  issue (.mul st d a b) anyLevel (fixedResult d 3 (binary a b fun a b => a * b)) s

/-- R114 `mulh`, latency 4 (R101). -/
def execMulh (st : BitVec 2) (d a b : Code) (s : State) : Answer :=
  issue (.mulh st d a b) anyLevel (fixedResult d 4 (binary a b fun a b => mulHigh a b)) s

/-- R114 `mulhn`, latency 4 (R101). -/
def execMulhn (st : BitVec 2) (d a b : Code) (s : State) : Answer :=
  issue (.mulhn st d a b) anyLevel (fixedResult d 4 (binary a b fun a b => mulHighUnsigned a b)) s

/-- R114 `div`, latency 16 (R101). -/
def execDiv (st : BitVec 2) (d a b : Code) (s : State) : Answer :=
  issue (.div st d a b) anyLevel (fixedResult d 16 (binary a b fun a b => signedQuotient a b)) s

/-- R114 `divn`, latency 16 (R101). -/
def execDivn (st : BitVec 2) (d a b : Code) (s : State) : Answer :=
  issue (.divn st d a b) anyLevel (fixedResult d 16 (binary a b fun a b => unsignedQuotient a b)) s

/-- R114 `rem`, latency 16 (R101). -/
def execRem (st : BitVec 2) (d a b : Code) (s : State) : Answer :=
  issue (.rem st d a b) anyLevel (fixedResult d 16 (binary a b fun a b => signedRemainder a b)) s

/-- R114 `remn`, latency 16 (R101). -/
def execRemn (st : BitVec 2) (d a b : Code) (s : State) : Answer :=
  issue (.remn st d a b) anyLevel (fixedResult d 16 (binary a b fun a b => unsignedRemainder a b)) s

end Sys2Proof.Machine
end

