-- ==== Sys2Proof/Machine/Pipeline.lean ====
section
/-! DEFINITION. What the modelled core does between issues: results land (R99), loads return (R141, R144), atomics and
reservations are performed (R332 to R337), stores leave their queue (R140), fills return (R170), held causes are delivered
(R133); and the doorbell frames (R29, R405, R417). -/

namespace Sys2Proof.Machine

/-! Results and held causes. -/

/-- R99: the oldest pending result of a slot's context has reached its cycle. -/
def landingReady (slot : Bool) (s : State) : Bool :=
  match s.ctx slot with
  | some c => (match c.pend with | p :: _ => decide (p.due ≤ c.sched) && !c.interlocked [p.dest] | [] => false)
  | none => false

/-- R95, R99: it lands. -/
def landResult (slot : Bool) (s : State) : State :=
  s.setCtx slot ((s.ctx slot).map fun c => match c.pend with
    | p :: r => { c.land p with pend := r }
    | [] => c)

/-- R99 RESULT_LANDING. -/
def execResultLanding (slot : Bool) (s : State) : Answer := .next (if landingReady slot s then landResult slot s else s)

/-- R133: the active context is at a boundary with a cause due, and what an entry waits for is done. -/
def asyncReady (s : State) : Bool :=
  match s.current with
  | some c => c.due && c.quiet && !c.stopped && decide (s.core.busyTill ≤ s.core.now)
  | none => false

/-- R133 ASYNC_ENTRY. -/
def execAsyncEntry (s : State) : Answer :=
  .next (if asyncReady s then (match s.current with
    | some c => (s.deliver s.core.active c).tick 1
    | none => s) else s)

/-! Loads (R141 to R144, R150). -/

/-- R331, R332: an atomic or reservation is performed after the context's older stores, one at a time, its lines free at the home;
in host memory once the device holds them exclusive, since it is performed at `.s` when it completes; in sync space after the context's
older arrival there (R335). -/
def State.updateMayGo (s : State) (slot : Bool) (c : Context) (older : List LoadEntry) (e : LoadEntry) : Bool :=
  !((s.sq slot).any fun q => q.ctx = c.ctxid.toNat && q.serial < e.serial) && !(older.any (·.kind.stores)) &&
  !(e.space == .sync && s.arrivingAt c.ctxid.toNat e.addrs) &&
  (e.space.memory != .global || (e.addrs.all fun a => !s.countedWaits a && !s.onTheWay (a / 4)))

/-- R144: the entry of a slot's load queue that may return: no older load of one of its bytes is outstanding (item 2), no line of
its bytes awaits a scrub (R414), and no older arrival of its thread at its bytes is on the way (item 1, R335). -/
def State.returnable (s : State) (slot : Bool) (idx : Nat) : Option (Context × LoadEntry) :=
  match s.ctx slot with
  | none => none
  | some c =>
    match c.lq[idx]? with
    | none => none
    | some e =>
      let older := (c.lq.take idx).filter (!·.back)
      if e.back then none
      else if older.any fun o => o.space.memory = e.space.memory && o.addrs.any e.addrs.contains then none
      else if e.space.memory = .global && s.awaitsScrub e.addrs then none
      else if e.space = .sync && s.arrivingAt c.ctxid.toNat e.addrs then none
      else if e.kind.stores && !s.updateMayGo slot c older e then none
      else some (c, e)

/-- R141: the entry may return. -/
def loadReturnReady (slot : Bool) (idx : Nat) (s : State) : Bool := (s.returnable slot idx).isSome

/-- R139: the load has returned, with its value written; entries leave the queue in program order; older results that waited for the load to
write land (R99). -/
def State.giveLoad (s : State) (slot : Bool) (c : Context) (idx : Nat) (e : LoadEntry) (v : Dword) (nv : Bool) : State :=
  let c := ({ c with lq := settled (c.lq.set idx { e with back := true }) }.write e.dest v).raise ⟨false, false, false, nv⟩
  s.setCtx slot (some (c.advance c.sched))

/-- How a plain load of an entry reads: `fresh` says that it takes no copy that may be stale; one that returns before an older load of
memory above it reads the newest (R53). -/
def plainLook (c : Context) (idx : Nat) (e : LoadEntry) (fresh : Bool) : Look :=
  if e.space.memory = .global ∧ ({ c with lq := c.lq.take idx }).crosses e.addrs then .newest else if fresh then .own else .copy

/-- R141, R150, R155: a load's value is bound and written. -/
def returnLoad (s : State) (slot : Bool) (c : Context) (idx : Nat) (e : LoadEntry) (fresh : Bool) : State :=
  match (if e.space.memory = .global then s.frameLoad (s.partOf c.launch) (e.addrs.headD 0) e.addrs.length else none) with
  | some v => s.giveLoad slot c idx e v false
  | none =>
    let pool := fun _ => s.inPool (s.partOf c.launch) e.va.toNat
    let (bs, met, s') := bindLoad s slot e.serial e.space e.policy (fun _ => plainLook c idx e fresh) pool e.addrs
    (s'.giveLoad slot c idx e (if met.isSome then 0 else e.kind.value bs) false).afterLoad slot met e.va

/-- R332 to R334: an atomic is performed at its home; a read that meets an error or a register writes nothing. -/
def returnAtomic (s : State) (slot : Bool) (c : Context) (idx : Nat) (e : LoadEntry) (op : Atom) (v x : Dword) : State :=
  if e.space.memory = .global ∧ e.addrs.any inFrames then s.giveLoad slot c idx e 0 false
  else match s.updateMeets e.space e.addrs with
    | some cause => (s.giveLoad slot c idx e 0 false).afterLoad slot (some cause) e.va
    | none =>
      let old := s.homeValue e.space e.addrs
      let (new, nv) := op.apply (8 * e.addrs.length) old v.toNat x.toNat
      let s := if e.space.memory = .global then s.freshen e.addrs else s
      let s := match new with
        | some n => s.putOwn e.space e.addrs n
        | none => s
      let s := if e.space.memory = .global then s.touchLines c.launch e.policy
          (fun _ => s.inPool (s.partOf c.launch) e.va.toNat) (linesOf e.addrs) else s
      s.giveLoad slot c idx e (.ofNat 64 old) nv

/-- R337: a reservation or claim is made; an object error gives all ones. -/
def returnReserve (s : State) (slot : Bool) (c : Context) (idx : Nat) (e : LoadEntry) (take : Bool) (n : Nat) : State :=
  match s.reserve (s.partOf c.launch) (e.addrs.headD 0) take n with
  | some (s', i) => s'.giveLoad slot c idx e (zext64 i) false
  | none => (s.giveLoad slot c idx e (.allOnes 64) false).asyncFault slot .syncerr (.ofNat 64 (e.addrs.headD 0))

/-- R141: the entry returns; `fresh` says that a plain load takes no copy that may be stale (R144). -/
def loadReturns (slot : Bool) (idx : Nat) (fresh : Bool) (s : State) : State :=
  match s.returnable slot idx with
  | none => s
  | some (c, e) =>
    match e.kind with
    | .signed | .unsigned => returnLoad s slot c idx e fresh
    | .atomic op v x => returnAtomic s slot c idx e op v x
    | .reserve take n => returnReserve s slot c idx e take n

/-- R141 LOAD_RETURN. -/
def execLoadReturn (slot : Bool) (idx : Nat) (fresh : Bool) (s : State) : Answer :=
  .next (if loadReturnReady slot idx s then loadReturns slot idx fresh s else s)

/-! Doorbell frames (R29, R405, R417). -/

/-- R405: a shootdown request as it is taken: one with a reserved bit, or with ALL and another field, is ALL. -/
def shootdownRequest (v : Dword) : Dword := if bits v 3 1 ≠ 0 ∨ bit v 0 then 1 else v

/-- R405: at most 64 requests of a partition are incomplete. -/
def State.shootdownsFull (s : State) (part : Nat) : Bool := decide (64 ≤ (s.part part).sdreqs.length)

/-- R405: a request is accepted. -/
def State.requestShootdown (s : State) (part : Nat) (v : Dword) : State :=
  s.mapPart part fun r => { r with sdarr := r.sdarr + 1, sdreqs := r.sdreqs ++ [shootdownRequest v] }

/-- The partition and offset of an address in a frame. -/
def frameOf (a : Nat) : Nat × Nat := ((a - Config.frameBase) / Config.frameBytes, (a - Config.frameBase) % Config.frameBytes)

/-- R29, R405, R417: an aligned dword written to the register region: a notify, a shootdown request, or nothing. -/
def State.frameStore (s : State) (part off : Nat) (v : Dword) : State :=
  if Config.partCount ≤ part then s
  else if off < 0x800 then s.notifyQueue part (off / 8) (.ofNat 32 v.toNat)
  else if off = 0x800 then s.requestShootdown part v
  else s

/-- R405: such a write waits for a request to complete. -/
def State.frameWaits (s : State) (part off : Nat) : Bool := off == 0x800 && decide (part < Config.partCount) && s.shootdownsFull part

/-- R405, R414: such a write may not be taken yet: a notify, while a line that it reads is to be scrubbed. -/
def State.frameBusy (s : State) (part off : Nat) : Bool :=
  s.frameWaits part off || (decide (off < 0x800) && decide (part < Config.partCount) && s.notifyAwaits part (off / 8))

/-- R405 SDREQ: written by another agent that reaches the frame. -/
def execSdreq (part : Nat) (v : Dword) (s : State) : Answer :=
  .next (if part < Config.partCount ∧ !s.shootdownsFull part then s.requestShootdown part v else s)

/-! Stores (R140, R254). -/

/-- R417: the dword a plain or releasing store writes to a frame of its own partition: partition, offset, value; none: it writes no
register. -/
def State.frameDword (s : State) (e : StoreEntry) : Option (Nat × Nat × Dword) :=
  let a := (e.bytes.head?.map (·.1)).getD 0
  let (p, o) := frameOf a
  if e.plain ∧ e.bytes.length = 8 ∧ a % 8 = 0 ∧ p = s.partOf e.launch then some (p, o, .ofNat 64 (leNat (e.bytes.map (·.2)))) else none

/-- R140, R254: an entry may leave its queue: older atomics and older loads of its bytes are done, its lines are not pinned, and
a write made at the home does not wait there, nor overtake the core's own messages about its words, nor (R53) a load; one of sync bytes
does not pass an older arrival there (R335). One of scratchpad bytes that another context's copy has taken since it entered the queue goes
on: the range is tested as it issues alone (DESIGN CHOICE, log 40). -/
def State.mayLeave (s : State) (slot : Bool) (e : StoreEntry) : Bool :=
  (match s.ctx slot with
    | some c => c.ctxid.toNat != e.ctx || !(c.lq.any fun l => !l.back && decide (l.serial < e.serial) &&
        (l.kind.stores || (l.space.memory = e.space.memory && e.bytes.any fun p => l.addrs.contains p.1)))
    | none => true) &&
  (match e.space with
    | .scratch => true
    | .sync => !s.arrivingAt e.ctx (e.bytes.map (·.1))
    | _ => e.bytes.all fun p =>
      if inFrames p.1 then (match s.frameDword e with | some (p, o, _) => !s.frameBusy p o | none => true)
      else if e.policy = .stream || e.whole then !s.writeWaits p.1 && !s.onTheWay (p.1 / 4)
      else s.pins (lineOf p.1) == 0) &&
  !(e.whole && e.space.memory == .global && s.transferWaits (e.bytes.map (·.1)))

/-- R410, R414: the event causes of a store's bytes that are dropped at a fence or at the home. -/
def State.storeEvents (s s' : State) (slot : Bool) (e : StoreEntry) (atHome : Bool) : State :=
  let raise (c : Cause) (s : State) (l : Nat) : State := s.storerEvent e.who slot c (.ofNat 64 l)
  let s' := match e.bytes.find? fun p => s.fencedAt p.1 with
    | some p => raise .hostlost s' (lineOf p.1)
    | none => s'
  if atHome then (s.badLines e.whole e.bytes).foldl (raise .memerr) s' else s'

/-- R140, R320, R392, R396, R409: a store is performed. -/
def State.perform (s : State) (slot : Bool) (e : StoreEntry) : State :=
  match e.space with
  | .scratch => s.engineWrite .scratch false e.bytes
  | .sync =>
    if s.syncDropped e.bytes then
      s.storerEvent e.who slot .memerr (.ofNat 64 ((e.bytes.head?.map (·.1)).getD 0))
    else s.syncWrite e.bytes
  | _ =>
    if e.bytes.any fun p => inFrames p.1 then
      (match s.frameDword e with
        | some (p, o, v) => s.frameStore p o v
        | none => s)
    else
      let was := e.bytes.map (·.1)
      let touched (t : State) : State := t.touchLines e.launch e.policy e.pool.contains (linesOf was)
      if e.policy = .stream || e.whole then s.storeEvents (touched (s.ownWrite e.whole e.bytes)) slot e true
      else s.storeEvents (touched ((wordsOf (e.bytes.filter fun p => !s.fencedAt p.1)).foldl (State.cacheStore e.who) s))
        slot e false

/-- R140: the head of a slot's store queue may leave it. -/
def storeReadyToLeave (slot : Bool) (s : State) : Bool :=
  match s.sq slot with
  | e :: _ => s.mayLeave slot e
  | [] => false

/-- R140: it leaves, performed. -/
def storeLeaves (slot : Bool) (s : State) : State :=
  match s.sq slot with
  | e :: r => (s.setSq slot (ripe r)).perform slot e
  | [] => s

/-- R140 STORE_PERFORMED. -/
def execStorePerformed (slot : Bool) (s : State) : Answer := .next (if storeReadyToLeave slot s then storeLeaves slot s else s)

/-! Fills (R169, R170). -/

/-- R169, R404: the translation of a page that holds a line is held for a partition, with execute right. A line is fetched ahead through
such an entry alone, so that the shootdown of its page finds the copy. -/
def State.codeHeld (s : State) (part line : Nat) : Bool :=
  s.fab.tlb.any fun t => t.part == part && bit t.pte 1 && bit t.pte 4 && decide (t.frame.1 ≤ line ∧ line < t.frame.1 + t.frame.2)

/-- R170: a fill of a line fetched ahead may read its next sector: its page's entry is held, the core holds no copy, the line carries no marker, and its header,
read first, is sealed. That a line the instruction cache holds is not fetched ahead into the buffer is a DESIGN CHOICE (log 34). -/
def fillReady (slot : Bool) (line : Nat) (s : State) : Bool :=
  match s.ctx slot with
  | none => false
  | some c =>
    let d := s.fillData c line
    line % Config.lineBytes == 0 && s.codeHeld (s.partOf c.launch) line && s.populated line && !inFrames line && (s.fetchCopy c line).isNone && (s.meets line).isNone &&
    lineSeal d == 2 && decide (lineKind d < 2)

/-- R169, R170: the sector is read; with the last, the fetch copy enters the instruction cache and the context's fetch buffer. -/
def fillArrives (slot : Bool) (line : Nat) (s : State) : State :=
  match s.ctx slot with
  | none => s
  | some c =>
    let got := c.fillGot line
    match fillOrder[got.length + 1]? with
    | some _ => s.setCtx slot (some { c with fill := some ⟨line, got ++ [s.fillSector line ((fillOrder[got.length]?).getD 0)]⟩ })
    | none =>
      let k : FetchCopy := ⟨line, s.fillData c line⟩
      (s.cacheLine k).setCtx slot (some { c with fbuf := (c.fbuf.take 1) ++ [k], fill := none })

/-- R170 FETCH_FILL. -/
def execFetchFill (slot : Bool) (line : Nat) (s : State) : Answer := .next (if fillReady slot line s then fillArrives slot line s else s)

end Sys2Proof.Machine
end

