-- ==== Sys2Proof/Machine/Home.lean ====
section
/-! DEFINITION. Home slices and the coherence messages of the modelled core (R390 to R396), the host bridge (R397, R398),
shootdowns (R405, R406), memory errors (R407 to R411), and the loss of an agent (R412 to R414). -/

namespace Sys2Proof.Machine

/-! Messages (R394): in the order sent, for each home slice and direction. -/

/-- The core's copy of the word answers a forwarded read or a revoke now (R394). -/
def State.answersFor (s : State) (w : Nat) : Bool := (s.fab.copy w).any (·.held.isSome)

/-- R394, R254, R398: a message that has arrived and is set aside, so that later ones of its pair are handled before it: a
registration whose line takes no write yet, an acknowledgement that waits for another core's value, a forwarded read or revoke
deferred in P. -/
def State.setAside (s : State) (m : Msg) : Bool :=
  match m with
  | .register w _ => s.writeWaits (4 * w)
  | .ack _ _ fromCore => fromCore
  | .forward w _ | .revoke w _ _ => !s.answersFor w
  | _ => false

/-- The oldest message about a word in one direction, unless an earlier one between the same home and the core comes first. -/
def State.nextIn (s : State) (toHome : Bool) (w : Nat) : List Msg → Option Msg
  | [] => none
  | m :: r =>
    match m.word? with
    | none => s.nextIn toHome w r
    | some v =>
      if m.toHome != toHome then s.nextIn toHome w r
      else if v = w then some m
      else if !s.setAside m && s.sameHome w v then none
      else s.nextIn toHome w r

/-- The message about a word that is next at its home, or at the core. -/
def State.nextMsg (s : State) (toHome : Bool) (w : Nat) : Option Msg := s.nextIn toHome w s.inflight

/-- A message taken. -/
def State.takeMsg (s : State) (m : Msg) : State := { s with inflight := s.inflight.erase m }

/-- A message sent. -/
def State.send (s : State) (m : Msg) : State := { s with inflight := s.inflight ++ [m] }

/-- R390: the home record of the word names the modelled core. -/
def State.registered (s : State) (w : Nat) : Bool := s.fab.owners.contains (w, s.core.id)

/-- R390, R393: a core named in a word's home record. -/
def Fabric.record (f : Fabric) (w who : Nat) : Fabric := { f with owners := (w, who) :: f.owners.filter (·.1 != w) }

/-! The home (R393). -/

/-- R393: a read request of another core: answered from the home, or forwarded to the registrant. The answer lies outside. -/
def readAtHome (w who : Nat) (s : State) : State := if who ≠ s.core.id ∧ s.registered w then s.send (.forward w who) else s

/-- R393 HOME_READ. -/
def execHomeRead (word from_ : Nat) (s : State) : Answer := .next (readAtHome word from_ s)

/-- R410, R411: a core's partial write of a line is dropped at the home: the line is marked, and MEMERR raised for who supplied the
bytes. -/
def State.dropAtHome (s : State) (line : Nat) (who : Storer) : State :=
  State.storerEvent { s with fab := s.fab.spoil [line] } who false .memerr (.ofNat 64 line)

/-- R393, R398, R254: a registration may be recorded: it is next at its home, and the line takes writes. None is of the register region
(R417). -/
def registrationReady (w who : Nat) (s : State) : Bool :=
  !inFrames (4 * w) && !s.writeWaits (4 * w) && (who != s.core.id || (match s.nextMsg true w, s.fab.copy w with
    | some (.register _ _), some k => k.regs.any (!·.recorded)
    | _, _ => false))

/-- The oldest registration not recorded becomes so. -/
def markRecorded : List Reg → List Reg
  | [] => []
  | r :: rest => if r.recorded then r :: markRecorded rest else { r with recorded := true } :: rest

/-- R410: a registration dropped at its home leaves the core nothing of its bytes: a word still registered to it is in R, one whose
write-back is out in W. -/
def CacheWord.without (k : CacheWord) (r : Reg) (registered : Bool) : Option CacheWord :=
  let rest := k.regs.erase r
  if rest ≠ [] then some { k with regs := rest }
  else if k.held.isSome then some { k with regs := [], st := if registered then .r else .w, known := k.held }
  else none

/-- R393, R395: the modelled core's registration is recorded, and its bytes are the word's newest. It is acknowledged: with the
home value; with the value of the core that was the registrant, which that core sends; or with none, where this core was. -/
def State.recordOwn (s : State) (w : Nat) : State :=
  match s.nextMsg true w, s.fab.copy w with
  | some (.register w' mask), some k =>
    match k.regs.find? (!·.recorded) with
    | none => s
    | some r =>
      let s := s.takeMsg (.register w' mask)
      if s.fab.latent.contains (lineOf (4 * w)) then
        ({ s with fab := s.fab.setCopy w (k.without r (s.registered w)) } : State).dropAtHome (lineOf (4 * w)) r.who
      else
        let ack := Msg.ack w (if s.registered w then none else some (s.fab.home w)) (s.fab.owners.any fun o => o.1 = w ∧ o.2 ≠ s.core.id)
        let fab := ((s.fab.putBytes (maskBytes w r.mask r.data)).setCopy w (some { k with regs := markRecorded k.regs })).keepEntry (w / 16)
        (({ s with fab := fab.record w s.core.id } : State).pass w r.mask).send ack
  | _, _ => s

/-- R393, R395: another core's registration, or a store of its to a word it has registered: the value it leaves, and a revoke
where the modelled core was the registrant. -/
def State.recordOther (s : State) (w who : Nat) (mask : BitVec 4) (data : Word) : State :=
  if s.fab.latent.contains (lineOf (4 * w)) then { s with fab := s.fab.spoil [lineOf (4 * w)] }
  else
    let mine := s.registered w
    let s := ({ s with fab := ((s.fab.putBytes (maskBytes w mask data)).record w who).keepEntry (w / 16) } : State).pass w mask
    if mine then s.send (.revoke w who mask) else s

/-- R393: it is recorded. -/
def recordAtHome (w who : Nat) (mask : BitVec 4) (data : Word) (s : State) : State :=
  if who = s.core.id then s.recordOwn w else s.recordOther w who mask data

/-- R393 HOME_REGISTRATION. -/
def execHomeRegistration (word from_ : Nat) (mask : BitVec 4) (data : Word) (s : State) : Answer :=
  .next (if registrationReady word from_ s then recordAtHome word from_ mask data s else s)

/-- R393: a write-back may be handled: of the modelled core, next at the home; of another, its registrant's. -/
def writeBackReady (w who : Nat) (s : State) : Bool :=
  if who = s.core.id then (match s.nextMsg true w with | some (.writeBack _ _) => true | _ => false)
  else s.fab.owners.contains (w, who)

/-- R390: a word unregistered at its home. -/
def Fabric.unregister (f : Fabric) (w : Nat) : Fabric := { f with owners := f.owners.filter (·.1 != w) }

/-- R393, R410: it is handled: where the sender is still the registrant the value is the home's and the word unregistered;
otherwise it is discarded; a write-back of the modelled core is acknowledged. -/
def writeBackAtHome (w who : Nat) (data : Word) (s : State) : State :=
  let line := lineOf (4 * w)
  if who = s.core.id then
    match s.nextMsg true w with
    | some (.writeBack w' v) =>
      let mine := s.registered w
      let s := (s.takeMsg (.writeBack w' v)).send (.wbAck w)
      if !mine then s
      else
        let s : State := { s with fab := s.fab.unregister w }
        if s.fab.latent.contains line then
          (match (s.fab.copy w).bind (·.who) with
            | some who => s.dropAtHome line who
            | none => { s with fab := s.fab.spoil [line] })
        else s
    | _ => s
  else
    let s : State := { s with fab := s.fab.unregister w }
    if s.fab.latent.contains line then { s with fab := s.fab.spoil [line] }
    else { s with fab := s.fab.putBytes (maskBytes w 15 data) }

/-- R393 HOME_WRITE_BACK. -/
def execHomeWriteBack (word from_ : Nat) (data : Word) (s : State) : Answer :=
  .next (if writeBackReady word from_ s then writeBackAtHome word from_ data s else s)

/-! The core (R392, R394). -/

/-- R394: a forwarded read that the core answers now; in P it is deferred. -/
def forwardReady (w who : Nat) (s : State) : Bool := s.nextMsg false w == some (.forward w who) && s.answersFor w

/-- R394 FORWARDED_READ: the reply lies outside, and the word's state stays. -/
def execForwardedRead (word for_ : Nat) (s : State) : Answer :=
  .next (if forwardReady word for_ s then s.receive (.forward word for_) else s)

/-- R394: the revoke that is next for a word, where the core answers it now. -/
def revokeReady (w goal : Nat) (s : State) : Bool :=
  s.answersFor w && (match s.nextMsg false w with | some (.revoke _ goal' _) => goal' == goal | _ => false)

/-- The message next for a word at the core reaches it. -/
def receiveNext (w : Nat) (s : State) : State :=
  match s.nextMsg false w with
  | some m => s.receive m
  | none => s

/-- R394 REVOKE. -/
def execRevoke (word goal : Nat) (s : State) : Answer := .next (if revokeReady word goal s then receiveNext word s else s)

/-- R394: the acknowledgement that is next for a word in P, with the value received where there is one. -/
def ackReady (w : Nat) (data : Word) (s : State) : Bool :=
  (match s.nextMsg false w with | some (.ack _ v _) => v.all (· == data) | _ => false) &&
  (match s.fab.copy w with | some k => k.regs.head?.any (·.recorded) | none => false)

/-- R394 REGISTRATION_ACK. -/
def execRegistrationAck (word : Nat) (data : Word) (s : State) : Answer :=
  .next (if ackReady word data s then receiveNext word s else s)

/-- R393: the acknowledgement of a write-back is next. -/
def wbAckReady (w : Nat) (s : State) : Bool := s.nextMsg false w == some (.wbAck w)

/-- R393 WRITE_BACK_ACKNOWLEDGEMENT. -/
def execWriteBackAcknowledgement (word : Nat) (s : State) : Answer :=
  .next (if wbAckReady word s then s.receive (.wbAck word) else s)

/-- R392: a word in R may be evicted. -/
def evictionReady (w : Nat) (s : State) : Bool := (s.fab.copy w).any fun k => k.st == .r && k.held.isSome

/-- R392: it becomes W, and its value goes to the home. -/
def evict (w : Nat) (s : State) : State :=
  match s.fab.copy w with
  | some k =>
    match k.held with
    | some v => ({ s with fab := s.fab.setCopy w (some { k with st := .w }) } : State).send (.writeBack w v)
    | none => s
  | none => s

/-- R392 LINE_EVICTION. -/
def execLineEviction (word : Nat) (s : State) : Answer := .next (if evictionReady word s then evict word s else s)

/-! The host bridge (R397, R398). -/

/-- R397: a host port's directory entry for a host line. -/
def State.hostEntry (s : State) (port line : Nat) : Option HostEntry := s.fab.hosts.find? fun h => h.port = port ∧ h.line = line

/-- That entry replaced; none: N. -/
def State.putHost (s : State) (port line : Nat) (st : Option HostState) : State :=
  { s with fab := { s.fab with
    hosts := (st.map fun x => ⟨port, line, x⟩).toList ++ s.fab.hosts.filter fun h => ¬ (h.port = port ∧ h.line = line) } }

/-- A host port that takes accesses. -/
def State.portOpen (s : State) (port : Nat) : Bool := (s.mgmt.hosts[port]?).any fun h => h.attached && !h.fenced

/-- Another port holds the host line exclusive. -/
def State.otherHolds (s : State) (port line : Nat) : Bool :=
  s.fab.hosts.any fun h => h.port != port && h.line == line && decide (h.st ≠ .shared)

/-- R397: an address of the host's own memory. -/
def ownMemory (port addr : Nat) : Bool := decide (target addr = 2 + port)

/-- R398, R254: a host access that the home takes now: of device memory, or of the host's own, whose lines the device may cache. With
no data, a write takes the host line exclusive. No write passes a pin. -/
def hostAccessReady (port addr : Nat) (write : Bool) (data : List Byte) (s : State) : Bool :=
  let line := addr / 64
  s.portOpen port && s.populated addr && (decide (target addr < 2) || ownMemory port addr) &&
  decide (addr % 64 + data.length ≤ 64) &&
  (if inFrames addr then !(write && s.frameBusy (frameOf addr).1 (frameOf addr).2)
   else !s.otherHolds port line && (!write || s.pins (lineOf addr) == 0))

/-- R398, R393: a host's exclusive hold takes the words of its line from the core that had them registered. -/
def State.holdExclusive (s : State) (port line : Nat) : State :=
  let ws := (List.range 16).map (16 * line + ·)
  let s := ws.foldl State.surrender s
  let s : State := { s with fab := { s.fab with
    owners := s.fab.owners.filter fun o => !ws.contains o.1
    hosts := s.fab.hosts.filter fun h => h.line != line } }
  s.putHost port line (some (.excl false))

/-- R397: a word of the core's lies in a host line. -/
def inHostLine (line w : Nat) : Bool := 4 * w / 64 == line

/-- R397, R398: a host line of host memory leaves the device for its host's write: every word of it goes home, and no copy stays; the entry
stays only where a store of the core to the line is still on its way. -/
def State.yieldLine (s : State) (port line : Nat) : State :=
  let ws := span (16 * line) 16
  let s := (ws.foldl State.letGo s).dropWords (inHostLine line)
  let s : State := { s with fab := { s.fab with
    owners := s.fab.owners.filter fun o => !ws.contains o.1
    llc := s.fab.llc.filter (·.line != lineOf (64 * line))
    unsent := s.fab.unsent.filter (· != line) } }
  s.putHost port line (if s.fab.dcache.any fun k => inHostLine line k.word then some .shared else none)

/-- R397, R398: a host's access to its own memory: a line the device caches goes back from it, or, for a read, is shared. A write makes
the bytes the newest, as an agent within `.s`. -/
def State.ownAccess (s : State) (port addr : Nat) (write : Bool) (data : List Byte) : State :=
  let line := addr / 64
  if !write then (match s.hostEntry port line with
    | some _ => s.putHost port line (some .shared)
    | none => s)
  else
    let s := (s.homeWrite false ((span addr data.length).zip data)).dropStale (span addr data.length)
    s.yieldLine port line

/-- R398, R405, R417: the access: a frame's dword; the host's own memory; a read, which leaves the host a clean copy; a write in the
host line it holds, or at the home. Memory holds what the host's copy of the line holds. -/
def hostAccess (port addr : Nat) (write : Bool) (data : List Byte) (s : State) : State :=
  let line := addr / 64
  if inFrames addr then
    if write ∧ addr % 8 = 0 ∧ data.length = 8 then s.frameStore (frameOf addr).1 (frameOf addr).2 (.ofNat 64 (leNat data)) else s
  else if ownMemory port addr then s.ownAccess port addr write data
  else if !write then
    match s.hostEntry port line with
    | some _ => s
    | none => s.putHost port line (some .shared)
  else if data = [] then s.holdExclusive port line
  else match s.hostEntry port line with
    | some ⟨_, _, .excl _⟩ =>
      ({ s with fab := { s.fab with mem := writeBytes ((span addr data.length).zip data) s.fab.mem } } : State).putHost port line
        (some (.excl true))
    | _ => s.homeWrite false ((span addr data.length).zip data)

/-- R398 HOST_ACCESS. -/
def execHostAccess (port addr : Nat) (write : Bool) (data : List Byte) (s : State) : Answer :=
  .next (if hostAccessReady port addr write data s then hostAccess port addr write data s else s)

/-- R398, R254: a host may write a line of device memory back, where no pin holds it, or give up one it has not modified. -/
def hostWritebackReady (port line : Nat) (data : Option (List Byte)) (s : State) : Bool :=
  s.portOpen port && decide (target (64 * line) < 2) && (match s.hostEntry port line, data with
    | some ⟨_, _, .excl _⟩, some bs => bs.length == 64 && s.pins (lineOf (64 * line)) == 0
    | some ⟨_, _, .excl m⟩, none => !m
    | some ⟨_, _, .shared⟩, none => true
    | _, _ => false)

/-- R398: its copy is gone, and writes that waited for it proceed. -/
def hostWriteback (port line : Nat) (data : Option (List Byte)) (s : State) : State :=
  let s := s.putHost port line none
  let s := match data with
    | some bs => s.homeWrite false ((span (64 * line) 64).zip bs)
    | none => s
  s.drainWaiting

/-- R397: the device may give up a line of host memory: no core has a word of it registered or on its way, and no pin holds it. -/
def State.mayGiveBack (s : State) (line : Nat) : Bool :=
  (s.fab.dcache.all fun k => k.st == .v || !inHostLine line k.word) && (s.fab.owners.all fun o => !inHostLine line o.1) &&
  s.pins (lineOf (64 * line)) == 0

/-- R397, R398: the bridge takes a line of host memory for the device, shared or exclusive, or gives it back, with the copies of it. A
line it holds exclusive has the device's writes of it performed at `.s`. -/
def State.takeHostLine (s : State) (port line : Nat) (st : Option HostState) : State :=
  if s.portOpen port ∧ ownMemory port (64 * line) ∧ st ≠ some (.excl true) ∧ st ≠ some (.excl false) ∧
      (st.isSome ∨ s.mayGiveBack line) then
    let s := if st.isNone then s.yieldLine port line else s.putHost port line st
    let s : State := if st = some .absent then { s with fab := { s.fab with unsent := s.fab.unsent.filter (· != line) } } else s
    s.drainWaiting
  else s

/-- R401: a host answers the device's accesses to a line of its memory with an error, or does so no longer. -/
def State.hostAnswers (s : State) (line : Nat) (error : Bool) : State :=
  let l := lineOf line
  if target l < 2 then s
  else { s with fab := { s.fab with
    hostErrs := (if error then [l] else []) ++ s.fab.hostErrs.filter (· != l) } }

/-- R398 HOST_LINE_WRITEBACK. -/
def execHostLineWriteback (port line : Nat) (data : Option (List Byte)) (s : State) : Answer :=
  .next (if hostWritebackReady port line data s then hostWriteback port line data s else s)

/-! Shootdowns (R405, R406). -/

/-- R405: the virtual pages a request names: first byte and end. -/
def shootdownRange (v : Dword) : Nat × Nat :=
  if bit v 0 then (0, 2 ^ 48) else (bits v 63 16 * 65536, (bits v 63 16 + bits v 15 4 + 1) * 65536)

/-- R406 item 2: a held entry that translates an address of a range. -/
def Tlb.inRange (t : Tlb) (part : Nat) (r : Nat × Nat) : Bool := t.part = part && t.page < r.2 && r.1 < t.page + t.size

/-- R406 item 2: the leaf entries held for a partition that the discard of a range's entries reaches: in the range, or under a table
entry that translates an address of it. -/
def State.reachedLeaves (s : State) (part : Nat) (r : Nat × Nat) : List Tlb :=
  let gone := s.fab.tlb.filter (·.inRange part r)
  s.fab.tlb.filter fun t => bit t.pte 1 && gone.any fun g => t.inRange part (g.page, g.page + g.size)

/-- R406, R421: the frames that the pages of a range translate to, by leaves held or by a walk. -/
def State.rangeFrames (s : State) (part : Nat) (r : Nat × Nat) : List (Nat × Nat) :=
  let held := (s.fab.tlb.filter fun t => bit t.pte 1 && t.inRange part r).map Tlb.frame
  let walked := if r = (0, 2 ^ 48) then [] else
    ((List.range ((r.2 - r.1) / 65536)).filterMap fun k => (translate s s.coherentByte part (r.1 + 65536 * k)).toOption).map fun l =>
      (l.frame, l.size)
  held ++ walked

/-- A physical address lies in one of some frames. -/
def inSome (fs : List (Nat × Nat)) (a : Nat) : Bool := fs.any fun f => f.1 ≤ a && a < f.1 + f.2

/-- R406 item 3: no store of a queue holds a completion up: none of the partition lies in the frames. -/
def State.queueDone (s : State) (part : Nat) (fs : List (Nat × Nat)) (q : List StoreEntry) : Bool :=
  q.all fun e => !(s.partOf e.launch == part && decide (e.space = .global) && e.bytes.any fun p => inSome fs p.1)

/-- R406 item 3: a place of a slot's program order lies behind a write to SDREQ that itself waits for a completion. -/
def State.stuckBehind (s : State) (slot : Bool) (serial : Nat) : Bool :=
  (s.sq slot).any fun e => decide (e.serial < serial) && (s.frameDword e).any fun d => s.frameWaits d.1 d.2.1

/-- R406 item 3: every access of the partition that used an entry which the request discards is done: loads, fills, stores, engine
sectors. Of the loads behind a write to SDREQ that itself waits (R405), those of the frames of such entries must have returned; elsewhere
all must have (log 80). -/
def State.partQuiet (s : State) (part : Nat) (r : Nat × Nat) : Bool :=
  let wide := s.rangeFrames part r ++ (s.reachedLeaves part r).map Tlb.frame
  let calm (slot : Bool) : Bool := match s.ctx slot with
    | some c => s.partOf c.launch != part ||
      ((c.lq.all fun e => e.back || (s.stuckBehind slot e.serial && !e.addrs.any (inSome wide))) && c.vbusy == 0 &&
        c.fill.all fun f => !inSome wide f.line)
    | none => true
  calm false && calm true && s.queueDone part wide s.core.sq0 && s.queueDone part wide s.core.sq1 &&
  (s.fab.dcache.all fun k => k.regs.all (·.recorded) || !inSome wide (4 * k.word)) &&
  (s.fab.waiting.all fun w => w.bytes.all fun p => !inSome wide p.1) && (s.fab.unsent.all fun l => !inSome wide (64 * l)) &&
  s.eng.adapt.all (·.iss.part != part) && s.eng.sy.all (·.iss.part != part) &&
  s.eng.fetches.all fun f => f.iss.part != part || f.stage == .written

/-- R406: the partition's oldest request may complete. -/
def shootdownReady (part : Nat) (s : State) : Bool :=
  match (s.part part).sdreqs with
  | [] => false
  | v :: _ => s.partQuiet part (shootdownRange v)

/-- R406: its translations and instruction-cache copies are discarded, and SDDONE rises. -/
def completeShootdown (part : Nat) (s : State) : State :=
  match (s.part part).sdreqs with
  | [] => s
  | v :: rest =>
    let r := shootdownRange v
    let fs := s.rangeFrames part r
    let s : State := { s with fab := { s.fab with
      tlb := s.fab.tlb.filter fun t => !t.inRange part r
      icache := s.fab.icache.filter fun k => !bit v 0 && !inSome fs k.line } }
    s.mapPart part fun p => { p with sdreqs := rest, sddone := p.sddone + 1 }

/-- R406 SHOOTDOWN_COMPLETE. -/
def execShootdownComplete (part : Nat) (s : State) : Answer := .next (if shootdownReady part s then completeShootdown part s else s)

/-! Errors (R407, R410). -/

/-- R407: an uncorrectable error in a stored copy of a line: met and marked, or in memory and not yet met (`latent`). -/
def memoryError (line : Nat) (latent : Bool) (s : State) : State :=
  let l := lineOf line
  if latent then
    if s.fab.poison.contains l ∨ s.fab.latent.contains l then s else { s with fab := { s.fab with latent := l :: s.fab.latent } }
  else { s with fab := s.fab.spoil [l] }

/-- R407: an uncorrectable error in the words of a line that the core's coherent data cache holds: the line is marked, and the values
only the core held are gone; what it has stored and not had recorded goes on to its home. -/
def State.cacheFails (s : State) (line : Nat) : State :=
  let l := lineOf line
  let ws := (s.fab.dcache.filter fun k => lineOf (4 * k.word) == l).map (·.word)
  if ws.isEmpty then s
  else
    let s := ws.foldl State.letGo s
    { s with fab := { s.fab.spoil [l] with
      dcache := s.fab.dcache.filterMap fun k =>
        if lineOf (4 * k.word) ≠ l then some k else if k.st = .p then some { k with known := none } else none
      owners := s.fab.owners.filter fun o => !(o.2 == s.core.id && lineOf (4 * o.1) == l) } }

/-- R407 UNCORRECTABLE_ERROR. -/
def execUncorrectableError (line : Nat) (latent : Bool) (s : State) : Answer :=
  .next (if s.populated line ∧ !inFrames line then memoryError line latent s else s)

/-! Loss of an agent (R412 to R414, R324). -/

/-- The distinct sync blocks that hold a byte other than 0. -/
def State.blocks (s : State) : List Nat := ((s.sync.sram).map (blockOf ·.1)).eraseDups

/-- R324: the children that wait on an unreachable parent flip at once, poisoned, with their record. -/
def State.flipOrphans (s : State) (gone : Nat → Bool) : State :=
  (s.blocks).foldl (fun s a => match s.barrier a with
    | some b =>
      if b.us ∧ b.up = 2 ∧ gone b.mod ∧ !s.spoiledAt a then (State.settle (b.arr + 2) (s.flip a b true) a).recordUp a b.parent else s
    | none => s) s

/-- R414: the registrations that have not been recorded of the words a fence drops, each with who stored it and its line. -/
def State.lostStores (s : State) (gone : Nat → Bool) : List (Storer × Nat) :=
  ((s.fab.dcache.filter fun k => gone k.word).flatMap fun k =>
    (k.regs.filter (!·.recorded)).map fun r => (r.who, lineOf (4 * k.word))).eraseDups

/-- R413 item 1, R414, R438: the words that a fence cuts off are dropped, with the messages about them and the writes waiting there; the
writers of what has not been performed have HOSTLOST. -/
def State.cutOff (s : State) (gone : Nat → Bool) : State :=
  let lost := s.lostStores gone
  let s : State := { s with
    fab := { s.fab with
      dcache := s.fab.dcache.filter fun c => !gone c.word
      owners := s.fab.owners.filter fun o => !gone o.1 }
    inflight := s.inflight.filter fun m => match m.word? with | some w => !gone w | none => true }
  lost.foldl (fun s p => s.storerEvent p.1 false .hostlost (.ofNat 64 p.2)) s.drainWaiting

/-- R397, R398, R414: bytes of a host's memory that the device holds modified, or may: of its lines with bytes not yet performed there, of
those it holds exclusive, and of the words registered to cores. -/
def State.heldModified (s : State) (port : Nat) : List Nat :=
  (((s.fab.unsent ++ (s.fab.hosts.filter fun h => decide (h.st = .absent)).map (·.line)).eraseDups.flatMap fun l => span (64 * l) 64) ++
    (s.fab.owners.map (·.1)).flatMap fun w => span (4 * w) 4).filter (ownMemory port)

/-- R413 item 1, R414: a host port is fenced: the words and lines of its memory that the device holds are dropped, and writes waiting to
it end. What stands in such a byte once the host is attached again no rule says: a free value (log 105). -/
def State.fencePort (s : State) (port : Nat) : State :=
  let s : State := { s with
    mgmt := { s.mgmt with hosts := s.mgmt.hosts.mapFinIdx fun i h _ => if i = port then { h with fenced := true } else h }
    fab := { s.fab with
      mem := writeBytes ((s.heldModified port).map fun a => (a, Config.droppedByte s.core.now a)) s.fab.mem
      hosts := s.fab.hosts.filter fun h => !ownMemory port (64 * h.line)
      unsent := s.fab.unsent.filter fun l => !ownMemory port (64 * l) } }
  s.cutOff fun w => target (4 * w) == 2 + port

/-- R413 item 1, R324: a module is fenced. -/
def State.fenceModule (s : State) (m : Nat) : State :=
  let s : State := { s with mgmt := { s.mgmt with peers := s.mgmt.peers.map fun p => if p.mod = m then { p with fenced := true } else p } }
  s.flipOrphans (· == m)

/-- R412: an agent that is not fenced yet, whose misses have reached the limit. -/
def agentDeadReady (module : Bool) (id : Nat) (s : State) : Bool :=
  if module then s.mgmt.peers.any fun p => p.mod == id && !p.fenced && decide (s.mgmt.miss ≤ p.missed)
  else (s.mgmt.hosts[id]?).any fun h => h.attached && !h.fenced && decide (s.mgmt.miss ≤ h.missed)

/-- R413: it is fenced. -/
def State.fence (s : State) (module : Bool) (id : Nat) : State := if module then s.fenceModule id else s.fencePort id

/-- R412 AGENT_DEAD. -/
def execAgentDead (module : Bool) (id : Nat) (s : State) : Answer := .next (if agentDeadReady module id s then s.fence module id else s)

/-- R413 item 2: the Snuffer meets an entry of a dead host for a host line. -/
def scrubReady (line : Nat) (s : State) : Bool := s.fab.hosts.any fun h => h.line == line && s.portFenced h.port

/-- R413 items 2 and 3: a line whose half it held modified is marked LOST; its entries are dropped; waiting writes proceed. -/
def scrub (line : Nat) (s : State) : State :=
  let dead := s.fab.hosts.filter fun h => h.line == line && s.portFenced h.port
  let l := lineOf (64 * line)
  let lost := if dead.any fun h => decide (h.st = .excl true) then l :: s.fab.lost.filter (· != l) else s.fab.lost
  ({ s with fab := { s.fab with hosts := s.fab.hosts.filter (!dead.contains ·), lost := lost } } : State).drainWaiting

/-- R413 SNUFFER_SCRUB. -/
def execSnufferScrub (line : Nat) (s : State) : Answer := .next (if scrubReady line s then scrub line s else s)

end Sys2Proof.Machine
end

