-- ==== Sys2Proof/Machine/Tasks.lean ====
section
/-! DEFINITION. A task's life in its slot: start (R91, R296, R297, R300), urgent pre-emption (R38), the save image and its
restore (R93, R298), and the count of its end (R136, R147). -/

namespace Sys2Proof.Machine

/-! Start (R91, R297). -/

/-- R91, R297: the context a task starts with. -/
def Context.start (l : Launch) (w : Walk) (t : Task) (ctx : Nat) (held : List Held) : Context :=
  let ix (k : Nat) : Dword := .ofNat 64 ((t.idx[k]?).getD 0)
  { pc := w.nest.code, loops := []
    x := ((((((((Vector.replicate 32 0#64).set 1 (ix 0)).set 2 (ix 1)).set 3 (ix 2)).set 4 (ix 3)).set 5 (ix 4)).set 6
      (ix 5)).set 7 w.nest.addr).set 8 (zext64 l.lid)
    o := Vector.replicate 8 0, l0 := 0, l1 := 0, p := Vector.replicate 8 0
    h := (Vector.range 16).map (BitVec.ofNat 12)
    landT := [], landS := [], rrb := 0, row0 := 0, acc := 9, flags := 0, chk := 0, gen := Config.seedDefault
    prv := ⟨.task, false⟩, ctxid := .ofNat 14 ctx, lid := l.lid, taskNo := .ofNat 32 t.n, sup := Bank.reset
    sched := 0, pend := [], serial := 0, lq := [], mark := none, fbuf := [], fill := none, reach := .entry, held := held, vbusy := 0
    waiting := none, urgent := none, stopped := false, launch := t.launch, walk := t.walk, permit := true, gang := false
    claimed := 0, windows := [] }

/-- R37: a slot reserved for a gang. -/
def State.reservedSlot (s : State) (slot : Bool) : Bool := s.disp.launches.any (·.reserved.contains (s.slotNumber slot))

/-- R92: a context enters a slot; where the active slot has none that may issue, issue passes to it, with the 8 cycles of a change: a point
that R92's list does not name (DESIGN CHOICE, log 108). -/
def State.enterSlot (s : State) (slot : Bool) (c : Context) : State :=
  let idle := match s.current with
    | none => true
    | some a => a.stopped
  let s := s.setCtx slot (some c)
  if s.core.active = slot then { s with core := { s.core with since := s.core.now } }
  else if idle then s.changeSlot
  else s

/-- R55, R445: what a launch's dependences made visible: a barrier dependence is acquired before its tasks begin. -/
def Launch.acquires (l : Launch) : Bool := l.deps.any fun v => bits v 63 62 == 1

/-- R91, R133, R237, R297: a task starts in a slot with a CTXID: its context, empty engine stacks and numbers, the head of its
accumulator save area cleared, and the partition's events that waited for a task start. -/
def State.startTask (s : State) (slot : Bool) (l : Launch) (w : Walk) (t : Task) (ctx : Nat) (gang : Bool) : State :=
  let held := (s.disp.events.filter (·.1 == l.part)).map (·.2)
  let c := { Context.start l w t ctx held with gang := gang, permit := !gang }
  let s := { s with
    disp := { s.disp with live := ctx :: s.disp.live, events := s.disp.events.filter (·.1 != l.part) }
    eng := { s.eng with ctxs := s.eng.ctxs.filter (·.ctx != ctx) } }
  let s := if l.acquires then s.acquire else s
  (s.tryStore l.part (s.saveArea l.part ctx) (leBytes 24 0)).enterSlot slot c

/-- R296: what the oldest queued task needs to start in a slot: its launch, its walk, a CTXID. -/
def State.startable (s : State) (slot : Bool) : Option (Task × Launch × Walk × Nat) :=
  match s.wick.queue with
  | [] => none
  | t :: _ =>
    if (s.ctx slot).isSome ∨ s.reservedSlot slot then none
    else match s.launch t.launch, s.walkOf t.launch t.walk with
      | some l, some w => (s.freeCtx l.part).map fun k => (t, l, w, k)
      | _, _ => none

/-- R296: a task may start in a slot; its clearing of the save area does not wait at the home. -/
def taskStartReady (slot : Bool) (s : State) : Bool :=
  match s.startable slot with
  | some (_, l, _, k) => (s.tryStore l.part (s.saveArea l.part k) (leBytes 24 0)).fab.waiting.length == s.fab.waiting.length &&
    !waitsScrub (s.writeOwn l.part (s.saveArea l.part k) (leBytes 24 0)).2
  | none => false

/-- R296: it starts. -/
def startQueued (slot : Bool) (s : State) : State :=
  match s.startable slot with
  | none => s
  | some (t, l, w, k) =>
    ({ s with wick := { s.wick with queue := s.wick.queue.tail } } : State).startTask slot l w t k false

/-- R297 TASK_START. -/
def execTaskStart (slot : Bool) (s : State) : Answer := .next (if taskStartReady slot s then startQueued slot s else s)

/-! Gangs (R300). -/

/-- Numbers in ascending order. -/
def ascending (ns : List Nat) : List Nat := (sortAddr (ns.map fun n => (n, ()))).map (·.1)

/-- R300: one member handed into its reserved slot, whose permit it holds (R296): on the modelled core it starts; another of the
cluster's cores holds it. -/
def handMember (l : Launch) (w : Walk) (s : State) (m : Nat × Nat) : State :=
  let core := m.1 / 2
  let t : Task := ⟨l.key, none, m.2, w.nest.indices m.2⟩
  if core / Config.coresPerCluster ≠ s.cluster then s
  else
    let j := core % Config.coresPerCluster
    if core = s.core.id then
      match s.freeCtx l.part with
      | some k => s.startTask (m.1 % 2 == 1) l w t k true
      | none => s
    else { s with wick := { s.wick with away := s.wick.away ++ [(j, t)] } }

/-- R293, R302: a walk all of whose tasks have been handed at once. -/
def Walk.handAll (w : Walk) : Walk :=
  { w with next := w.total, handed := w.total, shares := w.shares.map fun p => (p.1, w.total + w.ranks) }

/-- R300: every member is handed, and the record's slot is free. -/
def handGang (key : Nat) (s : State) : State :=
  match s.launch key with
  | none => s
  | some l =>
    match l.walk with
    | none => s
    | some w =>
      let seats := ascending l.reserved
      let s := s.mapLaunch key fun m => { m with reserved := [], walk := some w.handAll }
      let s : State := { s with wick := { s.wick with recs := s.wick.recs.filter fun r => ¬ (r.launch = key ∧ r.walk = none) } }
      (seats.zipIdx.foldl (handMember l w) s).refreshHolds

/-- R414: the clearing of the save areas of the next n CTXIDs that tasks of the partition take waits for a scrub. -/
def State.areasAwait (s : State) (part n : Nat) : Bool :=
  (((span (part * 1024) 1024).filter fun c => !s.disp.live.contains c).take n).any fun k =>
    waitsScrub (s.writeOwn part (s.saveArea part k) (leBytes 24 0)).2

/-- R300, R237, R298: a gang placed and not yet handed, whose seats on the modelled core are empty, with CTXIDs enough, and before
which no stopped context goes here; the clearing of its save areas does not wait at the home. -/
def gangReady (key : Nat) (s : State) : Bool :=
  match s.launch key with
  | none => false
  | some l =>
    let mine := l.reserved.filter fun n => n / 2 == s.core.id
    l.st == .running && l.gang.isSome && (match l.walk with | some w => w.handed == 0 | none => false) && !l.reserved.isEmpty &&
    l.faulted.isNone && ((s.seatCores l.reserved).isEmpty || !s.savedAhead l.res.prio) && (mine.all fun n => (s.ctx (n % 2 == 1)).isNone) &&
    decide (mine.length ≤ ((span (l.part * 1024) 1024).filter fun c => !s.disp.live.contains c).length) &&
    !s.areasAwait l.part mine.length &&
    (handGang key s).fab.waiting.length == s.fab.waiting.length

/-- R300 GANG_HAND_OFF. -/
def execGangHandOff (launch : Nat) (s : State) : Answer := .next (if gangReady launch s then handGang launch s else s)

/-! The end of a task (R136, R147, R239, R255). -/

/-- R136, R147: nothing of the ended context is left to do, and its stores are performed at `.p`, in host memory at `.s`. -/
def State.spent (s : State) (ctx : Nat) : Bool :=
  (s.core.sq0 ++ s.core.sq1).all (·.ctx != ctx) && s.eng.cmds.all (·.iss.ctx != ctx) &&
  s.eng.ctxs.all (fun e => e.ctx != ctx || e.ops.isEmpty) && s.eng.mx.ops.all (·.iss.ctx != ctx) && !s.arriving ctx &&
  s.sync.pend.all (·.iss.ctx != ctx) && s.storesAt ctx .s

/-- R255 item 5: a context's fetches that have not released do so. -/
def State.releaseAll (s : State) (ctx : Nat) : State :=
  (s.eng.fetches.filter fun f => f.iss.ctx == ctx).foldl (fun s f => s.releaseFetch f) s

/-- R18, R309: tasks end: counted by their walk, and by PROGRESS where the walk is the launch's. -/
def State.countEnded (s : State) (key : Nat) (loc : Option Nat) (n : Nat) (byFault : Bool) : State :=
  let s := s.mapWalk key loc fun w => { w with ended := w.ended + n }
  match loc with
  | some _ => s
  | none =>
    let s := s.mapLaunch key fun l => { l with ended := l.ended + n, endedFault := l.endedFault + if byFault then n else 0 }
    match s.launch key with
    | some l => s.writeProgress l
    | none => s

/-- R419, R239: the context is no longer live, owns no accumulator, and its engine numbers are gone. -/
def State.dropContext (s : State) (ctx : Nat) : State :=
  let s := s.releaseAll ctx
  let s := if s.core.owner = some ctx then s.disown else s
  { s with
    disp := { s.disp with live := s.disp.live.filter (· != ctx) }
    eng := { s.eng with ctxs := s.eng.ctxs.filter (·.ctx != ctx) } }

/-- An ended task of the modelled core whose end may count. -/
def State.endingTask (s : State) (launch task : Nat) (byFault : Bool) : Option Ending :=
  s.disp.ending.find? fun e => e.launch == launch && e.task == task && e.byFault == byFault && s.spent e.ctx

/-- R298: a context of this core's that another core has taken back. -/
def State.elsewhereTask (s : State) (launch task : Nat) : Option SavedCtx :=
  s.disp.elsewhere.find? fun k => k.launch == launch && k.task == task

/-- A task on another core of the cluster. -/
def State.awayTask (s : State) (launch task : Nat) : Option (Nat × Task) :=
  s.wick.away.find? fun p => p.2.launch == launch && p.2.n == task

/-- Tasks of a launch's own walk handed and not ended that the modelled cluster holds. -/
def State.openHere (s : State) (key : Nat) : Nat :=
  let here (c : Option Context) : Nat := match c with
    | some c => if c.launch = key ∧ c.walk.isNone then 1 + c.claimed else 0
    | none => 0
  here s.core.slot0 + here s.core.slot1 + (s.wick.queue.filter fun t => t.launch == key && t.walk.isNone).length +
  (s.wick.away.filter fun p => p.2.launch == key && p.2.walk.isNone).length +
  ((s.disp.ending.filter fun e => e.launch == key && e.walk.isNone).map fun e => 1 + e.claimed).sum +
  (((s.disp.saved ++ s.disp.elsewhere).filter fun k => k.launch == key && k.walk.isNone).map fun k => 1 + k.claimed).sum

/-- A task of the launch runs in another cluster. -/
def State.openElsewhere (s : State) (key : Nat) : Bool :=
  match s.walkOf key none with
  | some w => decide (w.ended + s.openHere key < w.handed)
  | none => false

/-- R136: the named task's end may count: one of this core, one of this cluster, or one elsewhere. -/
def taskEndReady (launch task : Nat) (byFault : Bool) (s : State) : Bool :=
  (s.endingTask launch task byFault).isSome || (s.elsewhereTask launch task).isSome || (s.awayTask launch task).isSome ||
  s.openElsewhere launch

/-- R136, R147: it counts. -/
def countTask (launch task : Nat) (byFault : Bool) (s : State) : State :=
  match s.endingTask launch task byFault with
  | some e =>
    let s : State := { s with disp := { s.disp with ending := s.disp.ending.erase e } }
    ((s.dropContext e.ctx).countEnded e.launch e.walk (1 + e.claimed) byFault).refreshHolds
  | none => match s.elsewhereTask launch task with
  | some k =>
    let s : State := { s with disp := { s.disp with elsewhere := s.disp.elsewhere.erase k } }
    let s := if k.core / Config.coresPerCluster = s.cluster then s.addPermit (k.core % Config.coresPerCluster) true else s
    ((s.dropContext k.ctx).countEnded launch k.walk (1 + k.claimed) byFault).refreshHolds
  | none =>
    match s.awayTask launch task with
    | some p =>
      let s : State := { s with wick := { s.wick with away := s.wick.away.erase p } }
      ((s.addPermit p.1 true).countEnded launch p.2.walk 1 byFault).refreshHolds
    | none => s.countEnded launch none 1 byFault

/-- R136 TASK_END_COUNTED. -/
def execTaskEndCounted (launch task : Nat) (byFault : Bool) (s : State) : Answer :=
  .next (if taskEndReady launch task byFault s then countTask launch task byFault s else s)

/-! Urgent pre-emption (R38). -/

/-- R38: the slot's context may be asked to stop: its launch is pre-emptible, and no request is pending. -/
def urgentReady (slot : Bool) (s : State) : Bool :=
  match s.ctx slot with
  | some c => !c.stopped && c.urgent.isNone && (match s.launch c.launch with | some l => l.res.preempt | none => false)
  | none => false

/-- R38, R37: the request reaches the core; of a gang every member is chosen. -/
def requestStop (slot : Bool) (s : State) : State :=
  match s.ctx slot with
  | none => s
  | some c =>
    let chosen (sl : Bool) : Bool := sl == slot || (c.gang && (s.ctx sl).any fun d => d.gang && d.launch == c.launch)
    let ask (s : State) (sl : Bool) : State :=
      if chosen sl then s.setCtx sl ((s.ctx sl).map fun d =>
        if d.stopped || d.urgent.isSome then d else { d with urgent := some s.core.now }) else s
    ask (ask s false) true

/-- R38 URGENT_PREEMPTION_REQUEST. -/
def execUrgentPreemptionRequest (slot : Bool) (s : State) : Answer := .next (if urgentReady slot s then requestStop slot s else s)

/-- R38: no boundary has come within 65,536 cycles of the request. -/
def overdue (slot : Bool) (s : State) : Bool :=
  match s.ctx slot with
  | some c => !c.stopped && c.late s.core.now
  | none => false

/-- R38 PREEMPTLATE. -/
def execPreemptlate (slot : Bool) (s : State) : Answer := .next (if overdue slot s then stopLate slot s else s)

/-! The save image (R93). -/

/-- R93: a landing-buffer bank of the image: four entries of 16 bytes. -/
def bankBytes (es : List Landing) : List Byte :=
  (List.range 4).flatMap fun k => match es[k]? with
    | some e => leBytes 8 e.value.toNat ++ leBytes 1 e.dest.toNat ++ leBytes 1 e.remaining ++ leBytes 1 1 ++ leBytes 5 0
    | none => leBytes 16 0

/-- R93: an engine stack of the image: eight entries from the bottom, the depth, 8 reserved bytes. -/
def stackBytes (st : List Dword) : List Byte :=
  let up := st.reverse
  (List.range 8).flatMap (fun k => leBytes 8 ((up[k]?).getD 0).toNat) ++ leBytes 8 st.length ++ leBytes 8 0

/-- R93: the 4096 bytes of the image. -/
def Context.image (c : Context) (piles : List (List Dword)) : List Byte :=
  let dw (v : Dword) : List Byte := leBytes 8 v.toNat
  let level (k : Nat) : List Byte := match c.loops[k]? with
    | some l => leBytes 4 l.index.toNat ++ leBytes 4 l.count.toNat ++ dw l.start ++ dw l.fin
    | none => leBytes 24 0
  dw c.pc ++ leBytes 8 c.prv.bits.toNat ++ leBytes 8 c.rrb.toNat ++ dw c.vwin ++ dw c.acfg ++ leBytes 8 c.chk.toNat ++ dw c.gen ++
  leBytes 8 c.ctxid.toNat ++ dw c.taskid ++ leBytes 8 c.loops.length ++
  dw c.sup.cause ++ dw c.sup.epc ++ dw c.sup.eval ++ leBytes 8 c.sup.estat.toNat ++ dw c.sup.scratch ++ leBytes 8 0 ++
  (List.range 6).flatMap level ++ c.h.toList.flatMap (fun i => leBytes 2 i.toNat) ++ c.o.toList.flatMap dw ++ dw c.l0 ++ dw c.l1 ++
  c.x.toList.flatMap dw ++ bankBytes c.landT ++ bankBytes c.landS ++ c.p.toList.flatMap (fun v => leBytes 64 v.toNat) ++
  piles.flatMap stackBytes ++ leBytes 2176 0

/-- A number in an image. -/
def imageNum (bs : List Byte) (o n : Nat) : Nat := leNat ((bs.drop o).take n)

/-- R93: a bank read back. -/
def bankOf (bs : List Byte) (o : Nat) : List Landing :=
  (List.range 4).filterMap fun k =>
    let num (i n : Nat) : Nat := imageNum bs (o + 16 * k + i) n
    if num 10 1 % 2 = 1 then some ⟨.ofNat 64 (num 0 8), .ofNat 6 (num 8 1), num 9 1⟩ else none

/-- R93: an engine stack read back, top first. -/
def stackOf (bs : List Byte) (e : Nat) : List Dword :=
  let o := 0x500 + 80 * e
  ((List.range (min 8 (imageNum bs (o + 64) 8))).map fun k => BitVec.ofNat 64 (imageNum bs (o + 8 * k) 8)).reverse

/-- R93: the context an image holds, for a slot's context record `k`. The CTXID is the dispatcher's own. The image has no place for how
the pc was reached: its first instruction counts as reached by no way that R164 restricts (DESIGN CHOICE, log 70). -/
def SavedCtx.context (k : SavedCtx) (bs : List Byte) : Context :=
  let n (o w : Nat) : Nat := imageNum bs o w
  let dw (o : Nat) : Dword := .ofNat 64 (n o 8)
  let level (i : Nat) : LoopLevel := ⟨.ofNat 32 (n (0x80 + 24 * i) 4), .ofNat 32 (n (0x84 + 24 * i) 4), dw (0x88 + 24 * i), dw (0x90 + 24 * i)⟩
  { pc := dw 0, loops := (List.range (min 6 (n 0x48 8 % 8))).map level
    x := (Vector.range 32).map fun i => dw (0x180 + 8 * i)
    o := (Vector.range 8).map fun i => dw (0x130 + 8 * i)
    l0 := dw 0x170, l1 := dw 0x178
    p := (Vector.range 8).map fun i => .ofNat 512 (n (0x300 + 64 * i) 64)
    h := (Vector.range 16).map fun i => .ofNat 12 (n (0x110 + 2 * i) 2)
    landT := bankOf bs 0x280, landS := bankOf bs 0x2C0
    rrb := .ofNat 6 (n 0x10 8), row0 := .ofNat 7 (n 0x18 8), acc := .ofNat 4 (n 0x20 8), flags := .ofNat 4 (n 0x21 1)
    chk := .ofNat 2 (n 0x28 8), gen := dw 0x30
    prv := ⟨(Level.ofCode (n 8 8 % 4)).getD .task, (n 8 8).testBit 2⟩
    ctxid := .ofNat 14 k.ctx, lid := .ofNat 32 (n 0x44 4), taskNo := .ofNat 32 (n 0x40 4)
    sup := ⟨dw 0x50, dw 0x58, dw 0x60, .ofNat 3 (n 0x68 8), dw 0x70⟩
    sched := 0, pend := [], serial := 0, lq := [], mark := none, fbuf := [], fill := none, reach := .other, held := k.held, vbusy := 0
    waiting := none, urgent := none, stopped := false, launch := k.launch, walk := k.walk, permit := !k.gang, gang := k.gang
    claimed := k.claimed, windows := [] }

/-- R93: where a context's image lies. -/
def State.imageAt (s : State) (part ctx : Nat) : Nat := (s.part part).csbase.toNat + ctx * 4096

/-- R39, R93: a stopped context whose commands have left the core's queues, and whose memory accesses are done. -/
def State.savable (s : State) (slot : Bool) : Bool :=
  match s.ctx slot with
  | none => false
  | some c =>
    let id := c.ctxid.toNat
    c.stopped && c.quiet && s.eng.cmds.all (·.iss.ctx != id) && (s.core.sq0 ++ s.core.sq1).all (·.ctx != id) && !s.arriving id &&
    s.sync.pend.all (·.iss.ctx != id) && s.storesAt id .p

/-- R93: the save, or the failed access. -/
def State.saveImage (s : State) (c : Context) : State × Option (Cause × Dword) :=
  let id := c.ctxid.toNat
  let part := s.partOf c.launch
  s.writeOwn part (s.imageAt part id) (c.image ((List.range 8).map fun e => (s.engCtx e id).stack))

/-- R93: the save may be made now: its writes do not wait at the home. -/
def contextSaveReady (slot : Bool) (s : State) : Bool :=
  s.savable slot && (match s.ctx slot with
    | some c => (s.saveImage c).1.fab.waiting.length == s.fab.waiting.length && !waitsScrub (s.saveImage c).2
    | none => false)

/-- R93, R296, R445: the context leaves its slot for memory, with its engine stacks; its numbers, its ownership of the
accumulator and its held entries stay with its CTXID. A gang keeps no seat for the members still away (R37). A failure ends the task
by fault. -/
def saveContext (slot : Bool) (s : State) : State :=
  match s.ctx slot with
  | none => s
  | some c =>
    match s.saveImage c with
    | (s, some (cause, v)) => s.stopContext slot c cause 0 v false
    | (s, none) =>
      let id := c.ctxid.toNat
      let s := if c.permit || c.gang then s.returnPermit else s
      let s := if c.gang then s.freeSeats c.launch else s
      let k : SavedCtx := ⟨id, c.launch, c.walk, c.taskNo.toNat, c.claimed, c.gang, c.held, s.core.id⟩
      ({ s.setCtx slot none with
        disp := { s.disp with saved := s.disp.saved ++ [k] }
        eng := { s.eng with ctxs := s.eng.ctxs.map fun e => if e.ctx = id then { e with stack := [] } else e } } : State).refreshHolds

/-- R93 CONTEXT_SAVE. -/
def execContextSave (slot : Bool) (s : State) : Answer := .next (if contextSaveReady slot s then saveContext slot s else s)

/-- The modelled core's slots that are empty and reserved for no gang. -/
def State.openSlots (s : State) : List Bool := [false, true].filter fun sl => (s.ctx sl).isNone && !s.reservedSlot sl

/-- R37: the saved members of a gang whose launch and core are those of one: this core's share of it. -/
def State.membersSaved (s : State) (k : SavedCtx) : Nat := (s.disp.saved.filter fun m => m.gang && m.launch == k.launch).length

/-- R37: contexts of a gang in the modelled core's slots. -/
def State.gangInSlots (s : State) (key : Nat) : List Context :=
  ([s.core.slot0, s.core.slot1].filterMap id).filter fun c => c.gang && c.launch == key

/-- R37: a saved member of a gang may take back a seat: which of those that fit, and the seats kept for the others. The first to come
needs every member of this core's stopped and saved, and a free seat for each (log 39); while seats are kept, the others take them
unless the gang is being stopped again. -/
def State.gangBack (s : State) (k : SavedCtx) (fits : Nat → Bool) : Option (Nat × List Nat) :=
  match s.launch k.launch with
  | none => none
  | some l =>
    if l.reserved ≠ [] then
      if (s.gangInSlots k.launch).any fun c => c.stopped || c.urgent.isSome then none
      else (l.reserved.find? fits).map fun n => (n, l.reserved.erase n)
    else if s.gangInSlots k.launch ≠ [] ∨ (s.disp.elsewhere.any fun m => m.gang && m.launch == k.launch) then none
    else
      let free := s.openSeats ((clustersOf l.res.mask).filter (s.mayHold k))
      match free.find? fits with
      | none => none
      | some n =>
        let others := (free.erase n).filter (· / 2 == s.core.id) ++ (free.erase n).filter (· / 2 != s.core.id)
        let rest := others.take (s.membersSaved k - 1)
        if rest.length + 1 < s.membersSaved k then none else some (n, rest)

/-- R37, R296: a member takes a seat: the gang's first takes the permits of all, and the other seats are kept. -/
def State.takeSeat (s : State) (k : SavedCtx) (seat : Nat × List Nat) : State :=
  let s := if (s.launch k.launch).any (·.reserved.isEmpty) then s.takePermits (seat.1 :: seat.2) else s
  s.mapLaunch k.launch fun l => { l with reserved := seat.2 }

/-- R298, R37: a saved context may come back to a slot: a gang member with the rest of its gang; another where its core is the one
chosen. -/
def State.backHere (s : State) (slot : Bool) (k : SavedCtx) : Bool :=
  if k.gang then (s.gangBack k (· == s.slotNumber slot)).isSome
  else s.openSlots.contains slot && s.coreFor == some (s.core.id % Config.coresPerCluster)

/-- R298: the saved context may come back to this core. -/
def contextRestoreReady (slot : Bool) (ctx : Nat) (s : State) : Bool :=
  (s.ctx slot).isNone && s.disp.saved.any fun k => k.ctx == ctx && s.mayHold k s.cluster && s.backHere slot k &&
    !(deviceRead s s.coherentByte (s.partOf k.launch) (s.imageAt (s.partOf k.launch) ctx) 4096).awaits

/-- R298, R37: the permit, or the gang's seat, a returning context takes. -/
def State.seatBack (s : State) (slot : Bool) (k : SavedCtx) : State :=
  if !k.gang then s.addPermit (s.core.id % Config.coresPerCluster) false
  else match s.gangBack k (· == s.slotNumber slot) with
    | some seat => s.takeSeat k seat
    | none => s

/-- R93, R298, R445: the image is read back, and the bank of its level drains (R102); after a run on another core no older copy stays (R144
item 2). -/
def restoreContext (slot : Bool) (ctx : Nat) (s : State) : State :=
  match s.disp.saved.find? (·.ctx == ctx) with
  | none => s
  | some k =>
    let s := if k.core = s.core.id then s else s.acquire
    let seated := s.seatBack slot k
    let s : State := { s with disp := { s.disp with saved := s.disp.saved.filter (·.ctx != ctx) } }
    let part := s.partOf k.launch
    match deviceRead s s.coherentByte part (s.imageAt part ctx) 4096 with
    | .error (cause, v) =>
      let s := (s.recordFor k.launch cause 0 true (s.slotNumber slot) v).notify cause v
      let s := s.applyPolicy k.launch .stop cause
      { s with disp := { s.disp with ending := s.disp.ending ++ [⟨k.launch, k.walk, k.task, ctx, true, k.claimed⟩] } }
    | .ok bs =>
      let s : State := { seated with disp := { seated.disp with saved := s.disp.saved } }
      let s := (List.range 8).foldl (fun (s : State) e =>
        if (stackOf bs e).isEmpty then s else s.setEngCtx { s.engCtx e ctx with stack := stackOf bs e }) s
      (s.enterSlot slot (k.context bs).drainBank).refreshHolds

/-- R296: the permit of a core, where it is one of this cluster's, taken or returned. -/
def State.permitAt (s : State) (core : Nat) (up : Bool) : State :=
  if core / Config.coresPerCluster = s.cluster then s.addPermit (core % Config.coresPerCluster) up else s

/-- R239: the holding core performs the effect of `msave` for a context that another core is to have, and owns nothing; a context
that does not own the accumulator needs none. -/
def State.giveUp (s : State) (k : SavedCtx) : State × Option (Cause × Dword) :=
  if s.core.owner = some k.ctx then
    (match s.saveAcc (s.partOf k.launch) k.ctx with
      | (s, none) => (s.disown, none)
      | r => r)
  else (s, none)

/-- R298, R37: another core takes back a saved context: of this cluster the core chosen; a gang member with the rest of its gang. -/
def State.backAway (s : State) (k : SavedCtx) (core : Nat) : Bool :=
  if k.gang then (s.gangBack k (· / 2 == core)).isSome
  else core / Config.coresPerCluster != s.cluster || s.coreFor == some (core % Config.coresPerCluster)

/-- R298, R239: a saved context of this core's may be restored by another core, of a cluster its launch may use, once what the
accumulator holds of it is saved. -/
def restoreAwayReady (ctx core : Nat) (s : State) : Bool :=
  core != s.core.id && decide (core < Config.clusterCount * Config.coresPerCluster) &&
  s.disp.saved.any fun k => k.ctx == ctx && s.mayHold k (core / Config.coresPerCluster) &&
    s.backAway k core &&
    (s.core.owner != some ctx || s.eng.mx.ops.all (·.iss.ctx != ctx)) &&
    (s.giveUp k).1.fab.waiting.length == s.fab.waiting.length && !waitsScrub (s.giveUp k).2

/-- R239, R240, R298: it is restored there; a memory fault of the save ends the task. -/
def restoreAway (ctx core : Nat) (s : State) : State :=
  match s.disp.saved.find? (·.ctx == ctx) with
  | none => s
  | some k =>
    let part := s.partOf k.launch
    let seat := s.gangBack k (· / 2 == core)
    match s.giveUp k with
    | (s, some (c, v)) =>
      s.housekeepingFault ⟨ctx, false, part, k.launch, k.walk, k.task, .machine, Vector.replicate 16 0, 0⟩ ctx c v
    | (s, none) =>
      let s : State := { s with disp := { s.disp with
        saved := s.disp.saved.filter (·.ctx != ctx), elsewhere := s.disp.elsewhere ++ [{ k with core := core }] } }
      (if k.gang then (match seat with
        | some n => s.takeSeat k n
        | none => s)
      else s.permitAt core false).refreshHolds

/-- R38, R298: another core saves such a context, which may then come back. -/
def returnContext (ctx : Nat) (s : State) : State :=
  match s.disp.elsewhere.find? (·.ctx == ctx) with
  | none => s
  | some k =>
    let s := if k.gang then s.freeSeats k.launch else s
    let s : State := { s with disp := { s.disp with
      elsewhere := s.disp.elsewhere.filter (·.ctx != ctx), saved := s.disp.saved ++ [k] } }
    (s.permitAt k.core true).refreshHolds

/-- R93 CONTEXT_RESTORE. -/
def execContextRestore (slot : Bool) (ctx : Nat) (s : State) : Answer :=
  .next (if contextRestoreReady slot ctx s then restoreContext slot ctx s else s)

end Sys2Proof.Machine
end

