-- ==== Sys2Proof/Machine/Partitions.lean ====
section
/-! DEFINITION. The management window's partition and package registers (R415, R416, R418 to R421, R428, R432), event records
(R422), cache ways (R423, R424), resizes (R427), layer roles (R428 to R430), and bandwidth feedback (R425, R426). -/

namespace Sys2Proof.Machine

/-! Outcomes (R416). -/

/-- R416: conditions with the status each gives, in the order of checking: the first that holds; 0 where none does. -/
def firstStatus (cs : List (Bool × Nat)) : Nat := ((cs.find? (·.1)).map (·.2)).getD 0

/-- R416: a checked write to a partition block. -/
def State.partWrite (s : State) (p status : Nat) (taken : State → State) : State :=
  let s := s.mapPart p fun r => { r with pstat := .ofNat 8 status }
  if status = 0 then taken s else s

/-- R416: a checked write to the package block. -/
def State.pkWrite (s : State) (status : Nat) (taken : State → State) : State :=
  let s : State := { s with mgmt := { s.mgmt with pkstat := .ofNat 8 status } }
  if status = 0 then taken s else s

/-- R440: the management window is served from bring-up on; after a failed check only a re-flash is. -/
def State.served (s taken : State) : State := if s.mgmt.up then taken else s

/-- Every partition has EN = 0. -/
def State.allDisabled (s : State) : Bool := s.parts.toList.all fun r => !r.en

/-! Event records (R422). -/

/-- R422: the 64 bytes of an event record. -/
def eventBytes (n size kind layer role : Nat) (seq : Word) (mask : BitVec 256) : List Byte :=
  leBytes 4 n ++ leBytes 1 kind ++ leBytes 1 (decide (size < n)).toNat ++ leBytes 1 layer ++ leBytes 1 role ++ leBytes 8 seq.toNat ++
  leBytes 16 0 ++ leBytes 32 mask.toNat

/-- R422: an arrival that follows a write: it is made at once, or, where the write still waits at its home, sent once it is
performed. -/
def State.arriveAfter (before s : State) (a bytes : Nat) (src : ArrSrc) : State :=
  if s.fab.waiting.length ≤ before.fab.waiting.length then s.arrive a bytes false src
  else { s with fab := { s.fab with waiting := replyLast (.arrive a bytes false src) s.fab.waiting } }

/-- R422, R445: a record in a partition's event ring, then its arrival; one that cannot be written is dropped and notified. -/
def State.eventRecord (s : State) (p kind layer role : Nat) (seq : Word) (mask : BitVec 256) : State :=
  let r := s.part p
  let logn := bits r.evring 3 0
  if logn = 0 then s
  else
    let n := r.evcount + 1
    match s.writeRing p (bits r.evring 63 12 * 4096) (bits r.evring 63 12 * 4096 + 64 * (r.evcount % 2 ^ logn))
        (eventBytes n (2 ^ logn) kind layer role seq mask) with
    | (s, some f) => s.notify (afterScrub f).1 f.2
    | (t, none) =>
      let t := t.mapPart p fun r => { r with evcount := n }
      match barOperand r.evbar with
      | some (some a) => State.arriveAfter s t a 64 (.evbar p)
      | _ => t

/-! Partition registers (R418 to R421). -/

/-- R419: the partition's RCB is of KIND partition, below the root. -/
def State.rcbReady (s : State) (p : Nat) : Bool :=
  let a := (s.part p).prcb
  bits (readDword s.coherentByte a.toNat) 2 0 == 1 && readDword s.coherentByte (a.toNat + 0x10) == s.mgmt.root

/-- R418, R419: a window meets that of another enabled partition; an empty window meets none. -/
def State.windowMeets (s : State) (p : Nat) (w : Dword) : Bool :=
  (List.range Config.partCount).any fun q => q != p && (s.part q).en &&
    decide (bits w 31 0 < bits (s.part q).swin 63 32 ∧ bits (s.part q).swin 31 0 < bits w 63 32 ∧ bits w 31 0 < bits w 63 32 ∧
      bits (s.part q).swin 31 0 < bits (s.part q).swin 63 32)

/-- R419: work of the partition that forbids EN = 0: an unretired launch, a mapped queue, a live context. -/
def State.partBusy (s : State) (p : Nat) : Bool :=
  (s.disp.launches.any fun l => l.part == p && !l.retired) || (s.disp.slots.any (·.part == p)) ||
  s.disp.live.any fun c => c / 1024 == p

/-- R425: the rate levels of clusters that change owner are 0. -/
def State.changeOwner (s : State) (ks : List Nat) : State :=
  { s with mgmt := { s.mgmt with rates := ks.foldl (fun v k => v.setIfInBounds k 0) s.mgmt.rates } }

/-- R414: a line of the partition's RCB waits for a scrub. -/
def State.rcbAwaits (s : State) (p : Nat) : Bool := (span (s.part p).prcb.toNat 24).any fun a => s.meets a == some .none

/-- R419: PCTL; it waits for the scrub of the RCB's line (R414). -/
def writePctl (p : Nat) (v : Dword) (s : State) : State :=
  let on := bit v 0
  if s.rcbAwaits p then s
  else s.partWrite p (firstStatus [(bits v 63 1 ≠ 0, 3), (on && (!s.rcbReady p || !(s.part p).ptset), 6), (!on && s.partBusy p, 2),
    (on && s.windowMeets p (s.part p).swin, 1)]) fun s =>
      let s := if on = (s.part p).en then s else s.changeOwner (clustersOf (s.partMask p))
      let s := s.mapPart p fun r => { r with en := on }
      if on then { s with disp := { s.disp with counts := s.disp.counts.filter (·.part != p) } } else s

/-- R419 PCTL. -/
def execPctl (part : Nat) (v : Dword) (s : State) : Answer := .next (if part < Config.partCount then s.served (writePctl part v s) else s)

/-- R420: PTBASE. -/
def writePtbase (p : Nat) (v : Dword) (s : State) : State :=
  s.partWrite p (firstStatus [(bits v 63 52 ≠ 0 || bits v 11 0 ≠ 0 || decide (2 ≤ bits v 51 48), 3)]) fun s =>
    s.mapPart p fun r => { r with ptbase := v, ptset := true }

/-- R420 PTBASE. -/
def execPtbase (part : Nat) (v : Dword) (s : State) : Answer := .next (if part < Config.partCount then s.served (writePtbase part v s) else s)

/-- R418, R420: SWIN. -/
def writeSwin (p : Nat) (v : Dword) (s : State) : State :=
  let base := bits v 31 0
  let limit := bits v 63 32
  s.partWrite p (firstStatus [(base % 32 ≠ 0 || limit % 32 ≠ 0 || decide (Config.syncBytes < limit) || decide (limit < base), 3),
    (s.windowMeets p v, 1)]) fun s => s.mapPart p fun r => { r with swin := v }

/-- R420 SWIN. -/
def execSwin (part : Nat) (v : Dword) (s : State) : Answer := .next (if part < Config.partCount then s.served (writeSwin part v s) else s)

/-- R369, R371: SDESC: a non-zero value starts a fresh partition context, with both host contexts cleared; zero ends it. -/
def writeSdesc (p : Nat) (v : Dword) (s : State) : State :=
  let s := s.mapPart p fun r => { r with sdesc := v }
  let ll := s.eng.ll.filter (·.part != p)
  let ctxs := s.eng.ctxs.filter fun e => ¬ (e.ctx = 0x4000 + 2 * p ∨ e.ctx = 0x4000 + 2 * p + 1)
  if v = 0 then { s with eng := { s.eng with ll := ll } }
  else { s with eng := { s.eng with ll := ⟨p, 0, false, [], [], none, false, 0, none⟩ :: ll, ctxs := ctxs } }

/-- R369 SDESC. -/
def execSdesc (part : Nat) (v : Dword) (s : State) : Answer := .next (if part < Config.partCount then s.served (writeSdesc part v s) else s)

/-- R418, R422: EVRING: a taken write sets a new ring, numbered from 1. -/
def writeEvring (p : Nat) (v : Dword) (s : State) : State :=
  let logn := bits v 3 0
  s.partWrite p (firstStatus [(bits v 11 4 ≠ 0 || logn == 1 || decide (12 < logn), 3)]) fun s =>
    s.mapPart p fun r => { r with evring := v, evcount := 0 }

/-- R422 EVRING. -/
def execEvring (part : Nat) (v : Dword) (s : State) : Answer := .next (if part < Config.partCount then s.served (writeEvring part v s) else s)

/-! Ways (R423, R424). -/

/-- The ways a WAYMASK value names, as share or adapter ways. -/
def waysNamed (v : Dword) : BitVec 16 := .ofNat 16 (bits v 15 0) ||| .ofNat 16 (bits v 31 16)

/-- R423: a way belongs to another partition, or is still being reclaimed. -/
def State.wayTaken (s : State) (p w : Nat) : Bool :=
  (List.range Config.partCount).any fun q =>
    (q != p && (waysNamed (s.part q).waymask).getLsbD w) ||
    (match (s.part q).reclaim with | some c => c.changed.getLsbD w | none => false)

/-- R423, R424: WAYMASK: a taken write that changes the partition's ways starts the reclaim walker. -/
def writeWaymask (p : Nat) (v : Dword) (s : State) : State :=
  let old := waysNamed (s.part p).waymask
  let new := waysNamed v
  s.partWrite p (firstStatus [(bits v 63 32 ≠ 0, 3), ((s.part p).reclaim.isSome, 2),
    ((List.range 16).any fun w => (new &&& ~~~old).getLsbD w && s.wayTaken p w, 1)]) fun s =>
      s.mapPart p fun r => { r with waymask := v, reclaim := if old = new then none else some ⟨old ^^^ new⟩ }

/-- R424 WAYMASK. -/
def execWaymask (part : Nat) (v : Dword) (s : State) : Answer := .next (if part < Config.partCount then s.served (writeWaymask part v s) else s)

/-- R424: a line held in a changed way, not pinned. -/
def reclaimVisitReady (p line : Nat) (s : State) : Bool :=
  match (s.part p).reclaim with
  | some c => s.pins line == 0 && s.fab.llc.any fun l => l.line == line && c.changed.getLsbD l.way
  | none => false

/-- R424: the visit: the line is dropped from its slice; memory holds its bytes. -/
def visitLine (line : Nat) (s : State) : State := { s with fab := { s.fab with llc := s.fab.llc.filter (·.line != line) } }

/-- R424 RECLAIM_VISIT. -/
def execReclaimVisit (part line : Nat) (s : State) : Answer :=
  .next (if reclaimVisitReady part line s then visitLine line s else s)

/-- R424: no line is left in a changed way. -/
def reclaimDone (p : Nat) (s : State) : Bool :=
  match (s.part p).reclaim with
  | some c => s.fab.llc.all fun l => !c.changed.getLsbD l.way
  | none => false

/-- R424 RECLAIM_COMPLETE. -/
def execReclaimComplete (part : Nat) (s : State) : Answer :=
  .next (if reclaimDone part s then s.mapPart part fun r => { r with reclaim := none } else s)

/-! Clusters (R427 step 4, R430). -/

/-- R293, R300: a launch of the partition still has tasks to hand in a cluster that its shares or its gang's seats name. -/
def State.dueIn (s : State) (p k : Nat) : Bool :=
  s.disp.launches.any fun l => l.part == p && !l.retired &&
    ((l.reserved.any fun n => n / 2 / Config.coresPerCluster == k) ||
     (match l.walk with | some w => !w.stopped && l.faulted.isNone && (w.shares.any fun x => x.1 == k && decide (x.2 < w.total)) && !w.drained
                        | none => false))

/-- R427 step 4: a command of a core to the Lamplighter has still to write a record into a scratchpad (R389): it holds an `lstat` or an `lseq`
through a handle of scratchpad space, or one that cannot be read now. -/
def State.recordsHere (s : State) (k : Cmd) : Bool :=
  k.eng == 7 && !k.iss.host && k.words.any fun w =>
    (bits w 15 8 == 0x13 || bits w 15 8 == 0x14) &&
    (match handleOf s k.iss (bits w 3 0) 0 with
      | .ok h => h.space == .scratch
      | r => r.awaits)

/-- R427 step 4: the modelled cluster holds nothing of the partition: no record, no task or context, no command or operation of
its cores on an engine of the cluster, and no other that touches its scratchpads. Its stores have left its queues and reached
their homes (log 82). -/
def State.clearOf (s : State) (p : Nat) : Bool :=
  let of (launch : Nat) : Bool := s.partOf launch == p
  (s.wick.recs.all fun r => !of r.launch) && !s.holdsCluster p && (s.wick.locals.all fun w => !of w.launch) &&
  (s.eng.cmds.all fun k => k.iss.part != p || k.iss.host || ((k.eng == 4 || k.eng == 7) && k.spans.isEmpty && !s.recordsHere k)) &&
  s.eng.mx.ops.all (·.iss.part != p) && s.eng.fetches.all (·.iss.part != p) &&
  s.eng.adapt.all (·.iss.part != p) && s.eng.cp.all (·.iss.part != p) && (s.eng.ranges.all fun r => r.ctx / 1024 != p) &&
  ((s.core.sq0 ++ s.core.sq1).all fun e => !of e.launch) && !(s.unrecorded fun _ => true)

/-- R414: the save of the accumulator's owner waits for a scrub. -/
def State.ownerAwaits (s : State) : Bool :=
  match s.core.owner with
  | some o => waitsScrub (s.saveAcc (o / 1024) o).2
  | none => false

/-- R427 step 4: a leaving cluster may be released. What another cluster holds is outside the model. -/
def releaseReady (p k : Nat) (s : State) : Bool :=
  (s.part p).leaving.contains k && !s.dueIn p k && (k != s.cluster || (s.clearOf p && !s.ownerAwaits))

/-- The issuer that stands for a context of a device's own housekeeping. -/
def housekeeper (ctx launch : Nat) (walk : Option Nat) (task : Nat) : Issuer :=
  ⟨ctx, false, ctx / 1024, launch, walk, task, .machine, Vector.replicate 16 0, 0⟩

/-- R430: `msave` for the accumulator's owner, if there is one; R240 for its memory fault. -/
def State.saveOwner (s : State) : State :=
  match s.core.owner with
  | some o => match s.saveAcc (o / 1024) o with
    | (s', none) => s'
    | (s', some (c, v)) => s'.housekeepingFault (housekeeper o 0 none 0) o c v
  | none => s

/-- R430: a cluster is cleared; the words registered to its cores go home. -/
def State.clearCluster (s : State) (k : Nat) : State :=
  let s : State := { s with mgmt := { s.mgmt with rates := s.mgmt.rates.setIfInBounds k 0 } }
  let home (s : State) : State :=
    { s with fab := { s.fab with owners := s.fab.owners.filter fun o => o.2 / Config.coresPerCluster != k } }
  if k ≠ s.cluster then home s
  else
    let s := s.saveOwner
    let s := home ((s.fab.dcache.map (·.word)).foldl State.surrender s)
    let blank (c : Context) : Context := { c with fbuf := [], fill := none }
    { s with
      core := { s.core with acown := 0, actouch := 0, acc := [], tile := [], scratch := []
                            slot0 := s.core.slot0.map blank, slot1 := s.core.slot1.map blank }
      fab := { s.fab with dcache := [], icache := [], tlb := [] }
      wick := { s.wick with recs := [], parked := [], queue := [], permits := Vector.replicate 12 2 } }

/-- R427 step 5: the release of the last leaving cluster ends the resize. -/
def releaseCluster (p k : Nat) (s : State) : State :=
  let s := (s.clearCluster k).mapPart p fun r => { r with leaving := r.leaving.filter (· != k) }
  if (s.part p).leaving.isEmpty then
    (s.eventRecord p 2 0 0 (s.part p).rseq (s.part p).leavingMask).mapPart p fun r => { r with leavingMask := 0 }
  else s

/-- R427 CLUSTER_RELEASE. -/
def execClusterRelease (part cluster : Nat) (s : State) : Answer :=
  .next (if releaseReady part cluster s then releaseCluster part cluster s else s)

/-! Resize (R427). -/

/-- R427: the mask RMASK0 to RMASK3 hold. -/
def PartRegs.newMask (r : PartRegs) : BitVec 256 :=
  .ofNat 256 ((r.rmask[0]).toNat + (r.rmask[1]).toNat * 2 ^ 64 + (r.rmask[2]).toNat * 2 ^ 128 + (r.rmask[3]).toNat * 2 ^ 192)

/-- R427 step 1: a cluster of the mask is another enabled partition's, or one that another is still releasing. -/
def State.maskTaken (s : State) (p : Nat) (m : BitVec 256) : Bool :=
  (List.range Config.partCount).any fun q => q != p &&
    (((s.part q).en && decide (m &&& s.partMask q ≠ 0)) || (s.part q).leaving.any fun k => m.getLsbD k)

/-- R427: RGO. -/
def writeRgo (p : Nat) (s : State) : State :=
  let new := (s.part p).newMask
  s.partWrite p (firstStatus [(!(s.part p).en, 4), (!(s.part p).leaving.isEmpty, 2), (s.maskTaken p new, 1)]) fun s =>
    let out := s.partMask p &&& ~~~new
    let seq := (s.part p).rseq + 1
    let s := s.changeOwner (clustersOf (new &&& ~~~(s.partMask p)))
    let s := s.writePrcb p 0x20 (leBytes 32 new.toNat)
    let s := s.mapPart p fun r =>
      { r with rseq := seq, leaving := clustersOf out, leavingMask := out, left := (r.left ||| out) &&& ~~~new }
    let s := s.eventRecord p 1 0 0 seq new
    if out = 0 then s.eventRecord p 2 0 0 seq 0 else s

/-- R427 RGO: any value starts it. -/
def execRgo (part : Nat) (_v : Dword) (s : State) : Answer := .next (if part < Config.partCount then s.served (writeRgo part s) else s)

/-! Instruction-copy discards (R421). -/

/-- R421: ICREQ takes a request. -/
def execIcreq (part : Nat) (v : Dword) (s : State) : Answer :=
  .next (if part < Config.partCount then s.served (s.mapPart part fun r => { r with icreqs := r.icreqs ++ [shootdownRequest v] }) else s)

/-- R421: the partition's oldest request discards the copies of its lines. -/
def discardRange (p : Nat) (s : State) : State :=
  match (s.part p).icreqs with
  | [] => s
  | v :: rest =>
    let fs := s.rangeFrames p (shootdownRange v)
    let keep (ks : List FetchCopy) : List FetchCopy := ks.filter fun k => !bit v 0 && !inSome fs k.line
    let blank (c : Context) : Context :=
      { c with fbuf := keep c.fbuf, fill := c.fill.filter fun f => !bit v 0 && !inSome fs f.line }
    let s : State := { s with
      fab := { s.fab with icache := keep s.fab.icache }
      core := { s.core with slot0 := s.core.slot0.map blank, slot1 := s.core.slot1.map blank } }
    s.mapPart p fun r => { r with icreqs := rest, icdone := r.icdone + 1 }

/-- R421 ICREQ_COMPLETE. -/
def execIcreqComplete (part : Nat) (s : State) : Answer :=
  .next (if (s.part part).icreqs.isEmpty then s else discardRange part s)

/-! Bandwidth (R425, R426). -/

/-- R25: a partition RCB's resolved BWW. -/
def State.partWeight (s : State) (p : Nat) : Nat :=
  match s.readNode p s.rootNode, s.readNode p ⟨true, (s.part p).prcb⟩ with
  | .ok r, .ok n => (resolveChain [r, n]).1.bww
  | _, _ => 0

/-- The least number not below a quotient. -/
def ceilDiv (a b : Nat) : Nat := (a + b - 1) / b

/-- R426: a controller whose queue holds `held` entries of each partition publishes OVER for partition p. -/
def State.above (s : State) (held : List Nat) (p : Nat) : Bool :=
  let n (q : Nat) : Nat := (held[q]?).getD 0
  let q := ((List.range Config.partCount).map n).sum
  let holders := (List.range Config.partCount).filter fun q => 0 < n q
  let weight := (holders.map s.partWeight).sum
  decide (s.mgmt.bwHigh ≤ q) &&
    decide ((if weight = 0 then ceilDiv q holders.length else ceilDiv (q * s.partWeight p) weight) < n p)

/-- R426: the interval's new level of a cluster of the partition. -/
def nextRate (above : Bool) (l : Nat) : Nat := if above then min (l + 1) 7 else l - 1

/-- R426: an interval: the occupancies that the controllers publish, one list for each, and every cluster's step. -/
def bwStep (queues : List (List Nat)) (s : State) : State :=
  let verdict := (List.range Config.partCount).map fun p => (s.part p).en && queues.any fun h => s.above h p
  let masks := (List.range Config.partCount).map fun p => if (s.part p).en then s.partMask p else 0
  { s with mgmt := { s.mgmt with rates := s.mgmt.rates.mapFinIdx fun k l _ =>
      match (List.range Config.partCount).find? fun p => ((masks[p]?).getD 0).getLsbD k with
      | some p => nextRate ((verdict[p]?).getD false) l
      | none => l } }

/-- R426 BW_INTERVAL. -/
def execBwInterval (queues : List (List Nat)) (s : State) : Answer := .next (bwStep queues s)

/-- R418: BWLVL: the highest rate level among the partition's clusters. -/
def State.bwlvl (s : State) (p : Nat) : Nat :=
  (clustersOf (s.partMask p)).foldl (fun m k => max m ((s.mgmt.rates[k]?).getD 0)) 0

/-! Layer roles (R428 to R430). -/

/-- A layer's role. -/
def State.role (s : State) (n : Nat) : Role := (s.mgmt.roles[n]?).getD .memoryOnly

/-- The same replaced. -/
def State.setRole (s : State) (n : Nat) (r : Role) : State :=
  { s with mgmt := { s.mgmt with roles := s.mgmt.roles.setIfInBounds n r } }

/-- R428: a role change is in progress. -/
def State.roleBusy (s : State) : Bool := s.mgmt.roles.toList.any fun r => r == .draining || r == .powering

/-- R428: layers that count as compute. -/
def State.computeLayers (s : State) : Nat := (s.mgmt.roles.toList.filter (· != .memoryOnly)).length

/-- The clusters of a layer, and its islands. -/
def layerClusters (n : Nat) : List Nat := span (16 * n) 16
def layerIslands (n : Nat) : List Nat := span (8 * n) 8

/-- R2: the island of a package cluster: island m of a layer covers that layer's clusters 2m and 2m + 1. -/
def islandOf (cluster : Nat) : Nat := cluster / 16 * 8 + cluster % 16 / 2

/-- R429: an event to each partition whose resolved mask meets the layer, with those of its clusters. -/
def State.roleEvent (s : State) (kind n role : Nat) : State :=
  let layer : BitVec 256 := .ofNat 256 ((2 ^ 16 - 1) * 2 ^ (16 * n))
  (List.range Config.partCount).foldl (fun s p =>
    let m := s.partMask p &&& layer
    if m ≠ 0 then s.eventRecord p kind n role 0 m else s) s

/-- R37, R429: a gang has a member in a layer: a seat still reserved there, or a member that has not ended, which the modelled
cluster knows and any other cluster is taken to hold in its seat until every member has ended. -/
def State.gangIn (s : State) (l : Launch) (layer : Nat) : Bool :=
  let here (core : Nat) : Bool := core / Config.coresPerCluster / 16 == layer
  (l.reserved.any fun m => here (m / 2)) ||
  (here s.core.id && s.tasksHere l.key != 0) ||
  (s.disp.elsewhere.any fun k => k.launch == l.key && here k.core) ||
  (s.openElsewhere l.key && l.seats.any fun m => here (m / 2) && m / 2 / Config.coresPerCluster != s.cluster)

/-- R429 step 1: pre-emptible strided launches that hold a record in the layer, since their share there is not handed (R295), and pre-emptible
gangs with a member there are drained whole. -/
def State.drainLayer (s : State) (n : Nat) : State :=
  (s.disp.launches.filter fun l => l.drainable && ((match l.walk with
    | some w => w.shares.any fun x => x.1 / 16 == n && decide (x.2 < w.total)
    | none => false) || (l.gang.isSome && s.gangIn l n))).foldl State.startDrain s

/-- R428, R429: ROLEREQ OP 0. -/
def toMemoryOnly (n : Nat) (s : State) : State :=
  s.pkWrite (firstStatus [(decide (Config.layerCount ≤ n) || s.role n == .memoryOnly, 3), (s.roleBusy, 2)]) fun s =>
    ((s.setRole n .draining).roleEvent 3 n 0).drainLayer n

/-- R429 ROLE_TO_MEMORY_ONLY. -/
def execRoleToMemoryOnly (layer : Nat) (s : State) : Answer := .next (s.served (toMemoryOnly layer s))

/-- R439: an island powered up: its step k is open within its bounds (log 44). -/
def State.powerIslands (s : State) (is : List Nat) : State :=
  { s with
    mgmt := { s.mgmt with islands := is.foldl (fun v i => v.setIfInBounds i (7 + Config.firstStep s.free i % 14)) s.mgmt.islands }
    free := s.free + 1 }

/-- R428, R429: ROLEREQ OP 1. -/
def toCompute (n : Nat) (s : State) : State :=
  s.pkWrite (firstStatus [(decide (Config.layerCount ≤ n) || s.role n == .compute, 3), (s.roleBusy, 2),
    (decide (Config.maxComputeLayers < s.computeLayers + 1), 5)]) fun s =>
      (s.setRole n .powering).powerIslands (layerIslands n)

/-- R429 ROLE_TO_COMPUTE. -/
def execRoleToCompute (layer : Nat) (s : State) : Answer := .next (s.served (toCompute layer s))

/-- R428, R429: ROLEREQ OP 2. -/
def cancelDrain (n : Nat) (s : State) : State :=
  s.pkWrite (firstStatus [(s.role n != .draining, 3)]) fun s => s.setRole n .compute

/-- R429 ROLE_CANCEL_DRAIN. -/
def execRoleCancelDrain (layer : Nat) (s : State) : Answer := .next (s.served (cancelDrain layer s))

/-- R429 step 1: every cluster of the layer meets the release condition for every partition. -/
def drainEndReady (n : Nat) (s : State) : Bool :=
  s.role n == .draining && (List.range Config.partCount).all fun p =>
    (layerClusters n).all (fun k => !s.dueIn p k) && (!(layerClusters n).contains s.cluster || (s.clearOf p && !s.ownerAwaits))

/-- R429 steps 2 and 3: flush, power down, memory-only. -/
def endDrain (n : Nat) (s : State) : State :=
  let s := (layerClusters n).foldl State.clearCluster s
  let s : State := { s with mgmt := { s.mgmt with islands := (layerIslands n).foldl (fun v i => v.setIfInBounds i 0) s.mgmt.islands } }
  (s.setRole n .memoryOnly).roleEvent 4 n 0

/-- R429 LAYER_DRAIN_END. -/
def execLayerDrainEnd (layer : Nat) (s : State) : Answer := .next (if drainEndReady layer s then endDrain layer s else s)

/-- R429: the clusters are cleared and the layer is compute. -/
def endPowerUp (n : Nat) (s : State) : State :=
  (((layerClusters n).foldl State.clearCluster s).setRole n .compute).roleEvent 4 n 1

/-- R429 LAYER_POWER_UP_COMPLETE. -/
def execLayerPowerUpComplete (layer : Nat) (s : State) : Answer :=
  .next (if s.role layer == .powering ∧ !s.ownerAwaits then endPowerUp layer s else s)

/-! Agents (R412, R437). -/

/-- R412, R428: DEAD. -/
def writeDead (v : Dword) (s : State) : State :=
  let id := bits v 8 0
  s.pkWrite (firstStatus [(bits v 63 16 ≠ 0 || bits v 14 9 ≠ 0 || (!bit v 15 && decide (2 ≤ id)), 3)]) fun s =>
    if bit v 15 then
      let s : State := if s.mgmt.peers.any (·.mod == id) then s
        else { s with mgmt := { s.mgmt with peers := ⟨id, 0, false, false⟩ :: s.mgmt.peers } }
      s.fence true id
    else s.fence false id

/-- R412 DEAD. -/
def execDead (v : Dword) (s : State) : Answer := .next (s.served (writeDead v s))

/-- R437: the Snuffer still has entries of the port to scrub. -/
def State.scrubbing (s : State) (port : Nat) : Bool := s.portFenced port && s.fab.hosts.any (·.port == port)

/-- R437: heartbeats from the port are still missing. -/
def State.silent (s : State) (port : Nat) : Bool := (s.mgmt.hosts[port]?).any fun h => h.missed != 0 && !h.beat

/-- R437: HATTACH. -/
def writeHattach (v : Dword) (s : State) : State :=
  let port := bits v 0 0
  s.pkWrite (firstStatus [(bits v 63 1 ≠ 0, 3), (s.silent port, 4), (s.scrubbing port, 2)]) fun s =>
    { s with mgmt := { s.mgmt with hosts := s.mgmt.hosts.mapFinIdx fun i h _ =>
        if i = port then { h with attached := true, fenced := false, missed := 0 } else h } }

/-- R437 HATTACH. -/
def execHattach (v : Dword) (s : State) : Answer := .next (s.served (writeHattach v s))

/-! Registers with no behaviour of their own (R415, R418, R428, R432). -/

/-- R428, R432: a package register. -/
def writePackage (off : Nat) (v : Dword) (s : State) : State :=
  let mg := s.mgmt
  match off with
  | 0x008 => s.pkWrite (firstStatus [(bits v 7 0 ≠ 0, 3), (!s.allDisabled, 4)]) fun s => { s with mgmt := { s.mgmt with root := v } }
  | 0x018 =>
    let n := bits v 3 0
    if bits v 63 6 ≠ 0 ∨ bits v 5 4 = 3 then s.pkWrite 3 id
    else if bits v 5 4 = 0 then toMemoryOnly n s else if bits v 5 4 = 1 then toCompute n s else cancelDrain n s
  | 0x020 => s.pkWrite (firstStatus [(bits v 63 20 ≠ 0 || bits v 19 16 == 0 || bits v 15 0 == 0, 3)]) fun s =>
      { s with mgmt := { mg with pkstat := s.mgmt.pkstat, miss := bits v 19 16, per := bits v 15 0 } }
  | 0x028 => s.pkWrite (firstStatus [(bits v 63 32 ≠ 0 || bits v 31 16 == 0 || decide (bits v 15 0 < 256), 3)]) fun s =>
      { s with mgmt := { mg with pkstat := s.mgmt.pkstat, bwHigh := bits v 31 16, bwInt := bits v 15 0 } }
  | 0x030 => writeDead v s
  | 0x038 => s.pkWrite (firstStatus [(bits v 63 9 ≠ 0, 3), (!s.allDisabled, 4)]) fun s =>
      { s with mgmt := { s.mgmt with modid := .ofNat 9 v.toNat } }
  | 0x048 => s.pkWrite (firstStatus [(bits v 63 12 ≠ 0 || decide (v.toNat < 400) || decide (3200 < v.toNat), 3)]) fun s =>
      { s with mgmt := { s.mgmt with pwrcap := v.toNat } }
  | 0x050 => writeHattach v s
  | _ => s

/-- R418: a register that is written only while EN = 0. -/
def State.quietWrite (s : State) (p : Nat) (bad : Bool) (f : PartRegs → PartRegs) : State :=
  s.partWrite p (firstStatus [(bad, 3), ((s.part p).en, 4)]) fun s => s.mapPart p f

/-- R418, R432: a register of a partition block. -/
def writePartition (p off : Nat) (v : Dword) (s : State) : State :=
  match off with
  | 0x000 => writePctl p v s
  | 0x010 => s.quietWrite p (bits v 7 0 ≠ 0) fun r => { r with prcb := v }
  | 0x018 => writePtbase p v s
  | 0x020 => s.quietWrite p (bits v 15 0 ≠ 0) fun r => { r with csbase := v }
  | 0x028 => s.quietWrite p (bits v 15 0 ≠ 0) fun r => { r with asbase := v }
  | 0x030 => s.mapPart p fun r => { r with adesc := v }
  | 0x038 => writeSdesc p v s
  | 0x040 => writeSwin p v s
  | 0x048 => s.quietWrite p (bits v 11 5 ≠ 0 || (bits v 4 0 != 0 && (decide (bits v 4 0 < 8) || decide (24 < bits v 4 0))))
      fun r => { r with sovf := v }
  | 0x050 => writeEvring p v s
  | 0x058 => s.partWrite p (firstStatus [((barOperand v).isNone, 3)]) fun s => s.mapPart p fun r => { r with evbar := v }
  | 0x060 => writeWaymask p v s
  | 0x080 => s.mapPart p fun r => { r with rmask := r.rmask.set 0 v }
  | 0x088 => s.mapPart p fun r => { r with rmask := r.rmask.set 1 v }
  | 0x090 => s.mapPart p fun r => { r with rmask := r.rmask.set 2 v }
  | 0x098 => s.mapPart p fun r => { r with rmask := r.rmask.set 3 v }
  | 0x0A0 => writeRgo p s
  | 0x0B0 => s.mapPart p fun r => { r with icreqs := r.icreqs ++ [shootdownRequest v] }
  | 0x0C0 => s.quietWrite p (bits v 9 0 ≠ 0) fun r => { r with ppeer := v }
  | _ => s

/-- R415: an aligned dword written in the management window; reserved offsets discard it. -/
def writeWindow (off : Nat) (v : Dword) (s : State) : State :=
  if off % 8 ≠ 0 then s
  else if off < 0x1000 then writePackage off v s
  else if off < 0x3000 then writePartition ((off - 0x1000) / 0x200) ((off - 0x1000) % 0x200) v s
  else s

/-- R428: LROLE's code of a role. -/
def Role.code : Role → Nat
  | .memoryOnly => 0 | .compute => 1 | .draining => 2 | .powering => 3

/-- R428, R432: what a read of a package register returns; one that is only written reads 0. -/
def State.readPackage (s : State) (off : Nat) : Dword :=
  match off with
  | 0x000 => .ofNat 64 s.mgmt.pkstat.toNat
  | 0x008 => s.mgmt.root
  | 0x010 => .ofNat 64 ((List.range Config.layerCount).map fun n => (s.role n).code * 4 ^ n).sum
  | 0x020 => .ofNat 64 (s.mgmt.miss * 2 ^ 16 + s.mgmt.per)
  | 0x028 => .ofNat 64 (s.mgmt.bwHigh * 2 ^ 16 + s.mgmt.bwInt)
  | 0x038 => .ofNat 64 s.mgmt.modid.toNat
  | 0x040 => .ofNat 64 s.mgmt.linkst.toNat
  | 0x048 => .ofNat 64 s.mgmt.pwrcap
  | _ => 0

/-- R371, R418, R432: what a read of a partition register returns; one that is only written reads 0. -/
def State.readPartition (s : State) (p off : Nat) : Dword :=
  let r := s.part p
  match off with
  | 0x000 => .ofNat 64 r.en.toNat
  | 0x008 => .ofNat 64 r.pstat.toNat
  | 0x010 => r.prcb
  | 0x018 => r.ptbase
  | 0x020 => r.csbase
  | 0x028 => r.asbase
  | 0x030 => r.adesc
  | 0x038 => r.sdesc
  | 0x040 => r.swin
  | 0x048 => r.sovf
  | 0x050 => r.evring
  | 0x058 => r.evbar
  | 0x060 => r.waymask
  | 0x068 => .ofNat 64 r.reclaim.isSome.toNat
  | 0x070 => .ofNat 64 (s.bwlvl p)
  | 0x080 => r.rmask[0]
  | 0x088 => r.rmask[1]
  | 0x090 => r.rmask[2]
  | 0x098 => r.rmask[3]
  | 0x0A8 => .ofNat 64 (r.rseq.toNat * 2 ^ 32 + (!r.leaving.isEmpty).toNat)
  | 0x0B8 => r.icdone
  | 0x0C0 => r.ppeer
  | 0x0D0 => .ofNat 64 ((s.engCtx 7 (0x4000 + 2 * p + 1)).seq.toNat * 2 ^ 32 + (s.engCtx 7 (0x4000 + 2 * p)).seq.toNat)
  | _ => 0

/-- R415: what a read of the management window returns: an aligned dword of a register; any other access, and a reserved offset, 0. A
read changes nothing. -/
def State.readWindow (s : State) (off : Nat) : Dword :=
  if off % 8 ≠ 0 then 0
  else if off < 0x1000 then s.readPackage off
  else if off < 0x3000 then s.readPartition ((off - 0x1000) / 0x200) ((off - 0x1000) % 0x200)
  else 0

/-- R415 MANAGEMENT_REGISTER_WRITE. -/
def execManagementRegisterWrite (off : Nat) (v : Dword) (s : State) : Answer := .next (s.served (writeWindow off v s))

end Sys2Proof.Machine
end

