-- ==== Sys2Proof/Machine/Links.lean ====
section
/-! DEFINITION. Rilot links and flits (R433 to R436), heartbeats (R412, R436), expansion devices (R438), islands (R439, R301), the
firmware image and bring-up (R6, R440). -/

namespace Sys2Proof.Machine

/-! Reception (R433, R434). -/

/-- R413, R434: a flit of a kind that this module receives: its link is up, it names this module, and its source is not fenced. -/
def State.receives (s : State) (link kind : Nat) (f : Flit) : Bool :=
  decide (link < 36) && s.mgmt.linkst.getLsbD link && f.kind == kind && f.dstMod == s.mgmt.modid.toNat && !s.moduleFenced f.srcMod

/-- R433: the destination partition's own entry for the source module names the sending partition. -/
def State.accepts (s : State) (f : Flit) : Bool := s.peerOf f.dstPart f.srcMod == some f.srcPart

/-- An answer to a flit. -/
def State.answer (s : State) (f : Flit) (kind : Nat) (poison : Bool) (tag : Dword) (pay : List Byte) : State :=
  s.sendFlit ⟨kind, poison, s.mgmt.modid.toNat, f.srcMod, f.dstPart, f.srcPart, tag, pay⟩

/-- R363: a remote address without the op that a reduction's flit names in it (log 41). -/
def plainTag (tag : Dword) : Dword := .ofNat 64 (tag.toNat / 2 ^ 55 * 2 ^ 55 + bits tag 47 0)

/-- R433: a refusal. -/
def State.refuse (s : State) (f : Flit) : State := s.answer f 7 false (if f.kind = 1 then plainTag f.tag else f.tag) []

/-- R363: the virtual address a remote address names here. -/
def remoteVa (tag : Dword) : Nat := bits tag 47 0

/-- R363: the physical addresses of n remote bytes, or the fault of the first byte that fails, with its remote address. -/
def State.remoteBytes (s : State) (part : Nat) (tag : Dword) (n : Nat) (needs : List Need) : Check (List Nat × List Leaf) :=
  let vas := span (remoteVa tag) n
  (needs.foldlM (init := (([] : List Nat), ([] : List Leaf))) fun _ need => mapBytes s s.coherentByte part need vas).mapError fun e =>
    (e.1, remoteAt tag (e.2.toNat - remoteVa tag))

/-- R363: how a fault of remote bytes is answered (log 41). -/
def State.answerFault (s : State) (f : Flit) (c : Cause) (v : Dword) : State := s.answer f 3 true v (leBytes 2 c.code)

/-- R363: the same for bytes that are read, each of which may meet a marker too: the first byte that fails. -/
def State.remoteReading (s : State) (part : Nat) (tag : Dword) (n : Nat) : Check (List Nat × List Leaf) :=
  (mapReading s s.coherentByte part (span (remoteVa tag) n)).mapError fun e => (e.1, remoteAt tag (e.2.toNat - remoteVa tag))

/-- R363: the first of some remote bytes that meets a marker. -/
def State.remoteMeets (s : State) (tag : Dword) (as : List Nat) : Option (Cause × Dword) :=
  (as.zipIdx).findSome? fun p => (s.meets p.1).map (·, remoteAt tag p.2)

/-! Data (R365, R367). -/

/-- R363, R409, R410, R414: what bytes of a peer's put meet: a fence; POISON; in a partial write, an error of the line not met before.
A LOST line is written. -/
def State.putMeets (s : State) (tag : Dword) (as : List Nat) : Option (Cause × Dword) :=
  (as.zipIdx).findSome? fun p =>
    if s.fencedAt p.1 then some (.hostlost, remoteAt tag p.2)
    else if s.fab.poison.contains (lineOf p.1) || s.fab.hostErrs.contains (lineOf p.1) ||
        (s.fab.latent.contains (lineOf p.1) && as.length < Config.lineBytes) then some (.poison, remoteAt tag p.2)
    else none

/-- R365: a chunk of a peer's put, a whole line or what is left of a sector, is performed, or meets a fault. -/
def State.putChunk (s : State) (f : Flit) (tag : Dword) (bs : List Byte) : State × Option (Cause × Dword) :=
  match s.remoteBytes f.dstPart tag bs.length [.write] with
  | .error e => (s, some e)
  | .ok (as, ls) =>
    match s.putMeets tag as with
    | some e =>
      let bad := s.badLines (bs.length = Config.lineBytes) (as.zip bs)
      ({ s with fab := if bad.isEmpty then s.fab else s.fab.spoil bad }, some e)
    | none =>
      let lo := remoteVa tag
      (((s.homeWrite true (as.zip bs)).noteTransfer (8, f.srcMod, f.srcPart, f.dstPart) lo (lo + bs.length) (linesOf as)).holdLeaves
        f.dstPart ls, none)

/-- Bytes of a put from its k-th on, chunk by chunk up to the first that meets a fault; the fuel bounds the chunks. -/
def State.putChunks (f : Flit) : Nat → Nat → List Byte → State → State × Option (Cause × Dword)
  | 0, _, _, s => (s, none)
  | fuel + 1, k, bs, s =>
    if bs.isEmpty then (s, none)
    else
      let n := chunkAt (remoteVa f.tag + k) bs.length
      match s.putChunk f (remoteAt f.tag k) (bs.take n) with
      | (s, none) => State.putChunks f fuel (k + n) (bs.drop n) s
      | r => r

/-- R365: bytes of a peer's put: performed and acknowledged, or the first fault answered. -/
def State.remotePut (s : State) (f : Flit) : State :=
  match State.putChunks f (f.payload.length + 1) 0 f.payload s with
  | (s, none) => s.answer f 3 false f.tag []
  | (s, some (c, v)) => s.answerFault f c v

/-- R367: the op of a reduction's flit, and its element's width; none: it is a put or the data of a get. -/
def reduceOp (f : Flit) : Option (Nat × Nat) :=
  match bits f.tag 54 48 with
  | 0 => none
  | k + 1 => some (k, (redWidth k).getD 0)

/-- R367, R332: an element of a peer's reduction (log 41). -/
def State.remoteReduce (s : State) (g : Flit) (op w : Nat) : State :=
  let f := { g with tag := plainTag g.tag }
  match s.remoteBytes f.dstPart f.tag w [.read, .write] with
  | .error (c, v) => s.answerFault f c v
  | .ok (as, ls) =>
    match s.remoteMeets f.tag as with
    | some (c, v) => s.answerFault f c v
    | none =>
      let v := redValue op (s.homeValue .global as) (leNat (f.payload.take w))
      ((s.homeWrite false (bytesAt as v)).holdLeaves f.dstPart ls).answer f 3 false f.tag []

/-- R363: the tag lies in this module. -/
def State.namesUs (s : State) (tag : Dword) : Bool := remoteMod tag == s.mgmt.modid.toNat

/-- R366: the operation of this module that a data flit answers: a `crget` of the peer named. -/
def State.getFor (s : State) (f : Flit) : Option CpOp :=
  match s.awaiting f with
  | some op => (match op.kind with
    | .get _ _ _ _ => if f.payload.length = op.out then some op else none
    | _ => none)
  | none => none

/-- R349, R366: bytes a get has received, with those it held, are written where they go as far as whole chunks of its one transfer
have come; what is written is counted. -/
def State.landGet (s : State) (op : CpOp) (bs : List Byte) : State × OpRes :=
  let held := op.got ++ bs
  let (s', op', r) := { op with got := held, pos := op.pos + bs.length }.land chunkAt s
  match r with
  | .more => (s'.remoteMoved { op' with pos := op.pos } (held.length - op'.got.length), .more)
  | .ended c v => (s'.putCopy op { op' with fault := some (c, v), sent := false }, .ended c v)
  | r => (s', r)

/-- R254, R414, R53: a data flit that this module can take now: a put of at most 224 bytes, or an element of a reduction, whose bytes
wait neither at the home, nor for a scrub, nor for a load. -/
def State.dataFits (s : State) (f : Flit) : Bool :=
  if s.namesUs f.tag then
    (match reduceOp f with
      | some (op, w) => decide (op ≤ 4) && f.payload.length == w
      | none => decide (f.payload.length ≤ 224)) &&
    (span (remoteVa f.tag) f.payload.length).all fun va =>
      match translate s s.coherentByte f.dstPart va with
      | .ok l => !s.countedWaits (l.phys va) && !s.awaitsScrub [l.phys va] && ((reduceOp f).isSome || !s.transferWaits [l.phys va])
      | .error c => c != .none
  else match s.getFor f with
    | some op => (s.landGet op f.payload).2 != .stuck
    | none => false

/-- R433, R434: a data flit is received: refused, or one this module can take now. -/
def flitDataReady (link : Nat) (f : Flit) (s : State) : Bool := s.receives link 1 f && (!s.accepts f || s.dataFits f)

/-- R365 to R367: its effect. -/
def receiveData (f : Flit) (s : State) : State :=
  if !s.accepts f then s.refuse f
  else if s.namesUs f.tag then (match reduceOp f with
    | some (op, w) => s.remoteReduce f op w
    | none => s.remotePut f)
  else match s.getFor f with
    | some op => (s.landGet op f.payload).1
    | none => s

/-- R434 FLIT_DATA. -/
def execFlitData (link : Nat) (flit : Flit) (s : State) : Answer :=
  .next (if flitDataReady link flit s then receiveData flit s else s)

/-- R414: bytes of a peer's get that wait for a line's scrub. -/
def State.readAwaits (s : State) (f : Flit) : Bool :=
  (s.remoteReading f.dstPart f.tag (leNat f.payload)).awaits

/-- R366, R363: bytes a peer's get reads, up to 224 (R434): the answer, or its fault. -/
def receiveRead (f : Flit) (s : State) : State :=
  if !s.accepts f then s.refuse f
  else match s.remoteReading f.dstPart f.tag (leNat f.payload) with
    | .error (c, v) => s.answerFault f c v
    | .ok (as, ls) => (s.holdLeaves f.dstPart ls).answer f 1 false f.tag (as.map s.coherentByte)

/-- R434 FLIT_READ_REQUEST. -/
def execFlitReadRequest (link : Nat) (flit : Flit) (s : State) : Answer :=
  .next (if s.receives link 2 flit ∧ flit.payload.length = 1 ∧ leNat flit.payload ≤ 224 ∧ !s.readAwaits flit then receiveRead flit s
    else s)

/-! Answers (R363 to R368). -/

/-- R130: the causes that remote bytes can meet. -/
def remoteCause (code : Nat) : Cause :=
  match code with
  | 8 => .wperm | 9 => .rperm | 21 => .poison | 22 => .hostlost
  | _ => .page

/-- R363: the operation whose outstanding bytes a fault names. -/
def State.faulting (s : State) (f : Flit) : Option CpOp :=
  s.eng.cp.find? fun op => op.sent && !op.last && op.fault.isNone && op.isPeer f && (match op.kind.remote with
    | some r => (List.range op.out).any fun k => f.tag == remoteAt r (op.pos + k)
    | none => false)

/-- R364, R365: an operation's remote arrival has been answered. -/
def State.endRemote (s : State) (op : CpOp) (f : Option (Cause × Dword)) : State :=
  s.putCopy op { op with sent := false, last := false, fault := op.fault <|> f }

/-- R364: the value of a remote object error. -/
def CpOp.rbarFault (op : CpOp) : Cause × Dword := (.syncerr, .ofNat 64 (op.kind.rbar.getD 0))

/-- R433, R363, R365: an acknowledgement counts bytes as performed, or, poisoned, brings their fault; one of a remote arrival ends its
operation. -/
def receiveAck (f : Flit) (s : State) : State :=
  if !s.accepts f then s.refuse f
  else if f.poison then
    match s.faulting f with
    | some op => s.failRemote op (remoteCause (leNat f.payload)) f.tag
    | none => (match s.awaiting f with
      | some op => if op.last then s.endRemote op (some op.rbarFault) else s
      | none => s)
  else match s.awaiting f with
    | some op => if op.last then s.endRemote op none else (match op.kind with | .get _ _ _ _ => s | _ => s.remoteMoved op op.out)
    | none => s

/-- R365 FLIT_ACKNOWLEDGEMENT. -/
def execFlitAcknowledgement (link : Nat) (flit : Flit) (s : State) : Answer :=
  .next (if s.receives link 3 flit then receiveAck flit s else s)

/-- R433: the child whose upward arrival a refusal answers. -/
def State.refusedChild (s : State) (f : Flit) : Option Nat :=
  (s.blocks).find? fun a => match s.barrier a with
    | some b => b.us && b.up == 2 && b.mod == f.srcMod && s.inWindow f.dstPart a && barrierTag b.parent b.phase == f.tag
    | none => false

/-- R433, R326, R364: a refusal ends the operation it answers, or flips the child whose arrival it answers. -/
def receiveRefusal (f : Flit) (s : State) : State :=
  if !s.accepts f then s.refuse f
  else match s.awaiting f with
  | some op =>
    if op.last then s.endRemote op (some (.wperm, (op.kind.remote).getD 0))
    else s.failRemote op (match op.kind with | .get _ _ _ _ => .rperm | _ => .wperm) f.tag
  | none =>
    match s.refusedChild f with
    | some a => (match s.barrier a with
      | some b => (State.settle (b.arr + 2) (s.flip a b true) a).recordUp a b.parent
      | none => s)
    | none => s

/-- R433 FLIT_REFUSAL. -/
def execFlitRefusal (link : Nat) (flit : Flit) (s : State) : Answer :=
  .next (if s.receives link 7 flit then receiveRefusal flit s else s)

/-! Barriers (R364, R435). -/

/-- R364: a peer's remote arrival with its byte count: counted and acknowledged, or lost with its record. -/
def State.remoteArrival (s : State) (f : Flit) : State :=
  let a := bits f.tag 25 0
  match s.countArrival f.dstPart a (leNat f.payload) f.poison none with
  | some s' => s'.answer f 3 false f.tag []
  | none => (s.partRecord f.dstPart .syncerr 6 (.ofNat 64 a)).answer f 3 true f.tag []

/-- R435: a child's upward arrival, its payload the child's address; R364: an arrival on a remote barrier (log 41). -/
def receiveArrival (f : Flit) (s : State) : State :=
  if !s.accepts f then s.refuse f
  else if f.payload.length = 8 then
    s.arrive (bits f.tag 25 0) 0 f.poison (.remote f.srcMod (leNat f.payload) (bits f.tag 63 32) f.dstPart)
  else s.remoteArrival f

/-- R435 FLIT_BARRIER_ARRIVAL. -/
def execFlitBarrierArrival (link : Nat) (flit : Flit) (s : State) : Answer :=
  .next (if s.receives link 4 flit ∧ (flit.payload.length = 8 ∨ flit.payload.length = 4) then receiveArrival flit s else s)

/-- R435: a parent's flip. -/
def receiveFlip (f : Flit) (s : State) : State :=
  let a := bits f.tag 25 0
  if !s.accepts f then s.refuse f
  else match s.barrier a with
    | some b => if b.up = 2 ∧ b.mod = f.srcMod ∧ s.inWindow f.dstPart a then s.flipRemote a (bits f.tag 63 32) f.poison else s
    | none => s

/-- R435 FLIT_BARRIER_FLIP. -/
def execFlitBarrierFlip (link : Nat) (flit : Flit) (s : State) : Answer :=
  .next (if s.receives link 5 flit then receiveFlip flit s else s)

/-- R434: a flit that fails its check code is sent again; one of reserved kind or for another module is dropped. Neither has an
effect here but its count. -/
def execFlitCheckCodeFailure (link : Nat) (_flit : Flit) (s : State) : Answer :=
  .next (if link < 36 ∧ s.mgmt.linkst.getLsbD link then { s with mgmt := { s.mgmt with badFlits := s.mgmt.badFlits + 1 } } else s)

/-! Heartbeats (R412, R436). -/

/-- R436: a peer module's heartbeat. -/
def hearPeer (m : Nat) (s : State) : State :=
  let ps := if s.mgmt.peers.any (·.mod == m) then s.mgmt.peers else ⟨m, 0, false, false⟩ :: s.mgmt.peers
  { s with mgmt := { s.mgmt with peers := ps.map fun p => if p.mod = m then { p with beat := true } else p } }

/-- R436 FLIT_HEARTBEAT. -/
def execFlitHeartbeat (link : Nat) (flit : Flit) (s : State) : Answer :=
  .next (if s.receives link 6 flit then hearPeer flit.srcMod s else s)

/-- R436 HOST_HEARTBEAT: a host driver's heartbeat, from a fenced port too (R437). -/
def execHostHeartbeat (port : Nat) (s : State) : Answer :=
  .next { s with mgmt := { s.mgmt with hosts := s.mgmt.hosts.mapFinIdx fun i h _ => if i = port then { h with beat := true } else h } }

/-- R436: the module at a link's far end. -/
def State.farOf (s : State) (k : Nat) : Nat := ((s.mgmt.far.find? (·.1 == k)).map (·.2)).getD 0

/-- R412, R436: misses after a period. -/
def missedAfter (missed : Nat) (beat : Bool) : Nat := if beat then 0 else missed + 1

/-- R436: a period ends: one heartbeat goes out on each trained link, to the module at its far end (log 45), and misses are
counted. -/
def endPeriod (s : State) : State :=
  let up := (List.range 36).filter s.mgmt.linkst.getLsbD
  let sent := up.map fun k => (⟨6, false, s.mgmt.modid.toNat, s.farOf k, 0, 0, 0, leBytes 1 k⟩ : Flit)
  { s with mgmt := { s.mgmt with
    sent := s.mgmt.sent ++ sent
    peers := s.mgmt.peers.map fun p => { p with missed := missedAfter p.missed p.beat, beat := false }
    hosts := s.mgmt.hosts.map fun h => if h.attached then { h with missed := missedAfter h.missed h.beat, beat := false } else h } }

/-- R436 HEARTBEAT_PERIOD. -/
def execHeartbeatPeriod (s : State) : Answer := .next (if s.mgmt.up then endPeriod s else s)

/-! Devices and links lost (R436, R438, R324). -/

/-- R438, R413: an expansion device is fenced: words the core holds of its memory are dropped. -/
def loseDevice (port : Nat) (s : State) : State :=
  let s : State := { s with mgmt := { s.mgmt with
    expLost := s.mgmt.expLost.mapFinIdx fun i v _ => if i = port then true else v } }
  s.cutOff fun w => target (4 * w) == 1 && s.fencedAt (4 * w)

/-- R438 EXPANSION_DEVICE_LOST. -/
def execExpansionDeviceLost (port : Nat) (s : State) : Answer := .next (if port < 2 then loseDevice port s else s)

/-- R436, R324: a link is lost; with none left no module can be reached. -/
def loseLink (link : Nat) (s : State) : State :=
  let s : State := { s with mgmt := { s.mgmt with linkst := s.mgmt.linkst &&& ~~~(.ofNat 36 (2 ^ link)) } }
  if s.mgmt.linkst = 0 then s.flipOrphans fun _ => true else s

/-- R436 LINK_LOSS. -/
def execLinkLoss (link : Nat) (s : State) : Answer :=
  .next (if link < 36 ∧ s.mgmt.linkst.getLsbD link then loseLink link s else s)

/-! Islands (R301, R439). -/

/-- R439: the thermal rule lowers an island. -/
def runsHot (r : IslandReading) : Bool := decide (105 < r.temp) || decide (1500 < r.flux)

/-- R439: it may be raised, module power allowing. -/
def runsCool (r : IslandReading) : Bool := decide (r.temp < 95) && decide (r.flux ≤ 1500)

/-- An island's readings in the interval. -/
def readingOf (rs : List IslandReading) (i : Nat) : Option IslandReading := rs.find? (·.island == i)

/-- R439: the island that the power cap lowers in an interval: the fastest that the thermal rule does not lower and that has a
step to give, the highest number among equals (log 46). -/
def cappedIsland (v : Vector Nat 128) (rs : List IslandReading) : Option Nat :=
  (List.range 128).foldl (fun best i =>
    let k := (v[i]?).getD 0
    if k ≤ 7 ∨ (readingOf rs i).any runsHot then best
    else match best with
      | none => some i
      | some b => if (v[b]?).getD 0 ≤ k then some i else some b) none

/-- R439: an island's step after an interval. -/
def nextStep (k : Nat) (r : Option IslandReading) (capped above : Bool) : Nat :=
  if k = 0 then 0
  else if r.any runsHot || capped then max 7 (k - 1)
  else if r.any runsCool && !above then min 20 (k + 1)
  else k

/-- R439: an interval of 100 µs. -/
def islandInterval (rs : List IslandReading) (watts : Nat) (s : State) : State :=
  let v := s.mgmt.islands
  let above := decide (s.mgmt.pwrcap < watts)
  let low := if above then cappedIsland v rs else none
  { s with mgmt := { s.mgmt with islands := v.mapFinIdx fun i k _ => nextStep k (readingOf rs i) (low == some i) above } }

/-- R439 ISLAND_FREQUENCY_INTERVAL. -/
def execIslandFrequencyInterval (readings : List IslandReading) (watts : Nat) (s : State) : Answer :=
  .next (islandInterval readings watts s)

/-- R301: the gang factor in sixteenths, for the clusters that hold live members. -/
def State.gangFactor (s : State) (clusters : List Nat) : Nat :=
  16 * 35 * (clusters.foldl (fun m k => min m ((s.mgmt.islands[islandOf k]?).getD 0)) 20) / 700

/-! Start (R6, R440). -/

/-- R440 step 3: the roles an image sets, within R428's limit. Which of more than twelve layers named are refused the spec leaves open:
a DESIGN CHOICE gives the role to the first twelve distinct ones in the image's order (log 5). -/
def rolesOf (named : Option (List Nat)) : Vector Role 16 :=
  let layers := (named.getD [0, 1, 2, 3, 4, 5, 8, 9, 10, 11, 12, 13]).eraseDups.take Config.maxComputeLayers
  Vector.ofFn fun n => if layers.contains n.val then .compute else .memoryOnly

/-- R5, R401: the HBM4E, the on-module LPDDR-6 and the second-tier window at their most, 512 GB, 1536 GB and 2048 GB (R11). -/
def hbmMost : Nat := 512 * 10 ^ 9
def lpddrMost : Nat := 1536 * 10 ^ 9
def tierMost : Nat := 2048 * 10 ^ 9

/-- R436, R440 step 4: the links that train, as LINKST shows them. -/
def linkMask (ls : List (Nat × Nat)) : BitVec 36 := ls.foldl (fun m l => m ||| .ofNat 36 (2 ^ l.1)) 0

/-- R412, R436: the modules at the far ends of the links, each watched from the start. -/
def peersOf (ls : List (Nat × Nat)) : List Peer :=
  ((ls.filter (·.1 < 36)).map (·.2)).eraseDups.map fun m => ⟨m, 0, false, false⟩

/-- R440: steps 2 to 4 from an image that checks. -/
def startModule (im : Image) (s : State) : State :=
  let roles := rolesOf im.roles
  let lp := min im.lpddr lpddrMost
  let c0 := min im.cxl0 (tierMost - lp)
  let s : State := { s with mgmt := { s.mgmt with
    hbm := min im.hbm hbmMost, lpddr := lp, cxl0 := c0, cxl1 := min im.cxl1 (tierMost - lp - c0), modid := im.modid, roles := roles
    root := im.root, hash := im.hash, far := im.links, linkst := linkMask im.links, peers := peersOf im.links, up := true
    hosts := s.mgmt.hosts.map fun _ => ⟨true, 0, false, false⟩ } }
  let s := (List.range Config.layerCount).foldl (fun s n => if s.role n = .compute then s.powerIslands (layerIslands n) else s) s
  let s := (List.range Config.clusterCount).foldl State.clearCluster s
  { s with fab := { s.fab with mem := writeBytes im.cells s.fab.mem } }

/-- R440 step 1: bring-up starts from an image whose check code holds; a failed check leaves only the re-flash function. -/
def execBringUp (s : State) : Answer :=
  .next (if s.mgmt.flash.good ∧ !s.mgmt.up then startModule s.mgmt.flash s else s)

/-- R6, R440: the flash holds the new image, and the module restarts at step 1. What the restart keeps the spec leaves open: a DESIGN
CHOICE takes it as a power-on, from a module that was up too, with every register reset and memory emptied (log 5). -/
def execReFlash (image : Image) (s : State) : Answer :=
  .next { State.reset with mgmt := { State.reset.mgmt with flash := image }, script := s.script, free := s.free }

end Sys2Proof.Machine
end

