-- ==== Sys2Proof/Machine/Publish.lean ====
section
/-! DEFINITION. The publishing instructions: R174 to R178. -/

namespace Sys2Proof.Machine

/-- The first address of the range on each line it touches. -/
def lineStarts (a n : Nat) : List Nat :=
  if n = 0 then [] else a :: ((List.range ((a + n - 1) / 128 - a / 128)).map fun k => (a / 128 + 1 + k) * 128)

/-- R175: the checks of `cpub` and `cinv`, and the physical lines they name. -/
def checkPublish (s : State) (c : Context) (n : Nat) (off len : Dword) : Check (List Nat × List Leaf) :=
  if len = 0 then .ok ([], [])
  else do
    let rd := s.threadByte s.core.active
    let ac := s.access c.launch
    let h ← readHandle s rd ac n (c.slotIndex n) off
    checkBound s ac h n off len.toNat
    if h.space = .scratch ∨ h.space = .sync then failed .xperm (h.va off)
    else
      let (ps, ls) ← mapBytes s rd ac.part (if h.space = .code then .exec else .none) (lineStarts (h.va off).toNat len.toNat)
      .ok (ps.map lineOf, ls)

/-- R169, R172, R175: copies of lines in the cores that the scope covers, of which this core is one, and the context's fetch
buffer, discarded. -/
def discardCopies (sc : Scope) (lines : List Nat) (s : State) (c : Context) : State × Context :=
  (if sc.covers s.core.id s.core.id then s.discardLines lines else s, { c with fbuf := [], fill := none })

/-- R175: `cpub`: it waits as a mark at its scope. -/
def publish (n b d : Code) (sc : Scope) (s : State) (c : Context) : Res :=
  (checkPublish s c n.toNat (c.read b) (c.read d)).orTrap fun (lines, ls) =>
    if !s.storeMayGo s.core.active (c.addMark sc) then .wait c
    else
      let (s, c) := discardCopies sc lines (s.holdLeaves (s.partOf c.launch) ls) { c with mark := none }
      .done s c

/-- R175 `cpub`. -/
def execCpub (st : BitVec 2) (d n b : Code) (c : BitVec 3) (s : State) : Answer :=
  issue (.cpub st d n b c) anyLevel (publish n b d (.ofCode c.toNat)) s

/-- R176: `cinv`: no wait, no ordering. -/
def withdraw (n b d : Code) (sc : Scope) (s : State) (c : Context) : Res :=
  (checkPublish s c n.toNat (c.read b) (c.read d)).orTrap fun (lines, ls) =>
    let (s, c) := discardCopies sc lines (s.holdLeaves (s.partOf c.launch) ls) c
    .done s c

/-- R176 `cinv`. -/
def execCinv (st : BitVec 2) (d n b : Code) (c : BitVec 3) (s : State) : Answer :=
  issue (.cinv st d n b c) anyLevel (withdraw n b d (.ofCode c.toNat)) s

/-- R177: `ifence`. -/
def fenceFetch (s : State) (c : Context) : Res := if !c.loadsBack then .wait c else .done s { c with fbuf := [], fill := none }

/-- R177 `ifence`. -/
def execIfence (st : BitVec 2) (s : State) : Answer := issue (.ifence st) anyLevel fenceFetch s

/-- R178: `cprobe`: the header as a fill would read it. -/
def probe (d a : Code) (n : Nat) (i : BitVec 8) (s : State) (c : Context) : Res :=
  let off := c.read a + .ofNat 64 (i.toNat * 128)
  let rd := s.threadByte s.core.active
  let ac := s.access c.launch
  let checked : Check (Nat × List Leaf × Dword) := do
    let h ← readHandle s rd ac n (c.slotIndex n) off
    checkBound s ac h n off 128
    let va := h.va off
    if va.toNat % 128 ≠ 0 then failed .align va
    else if h.space = .scratch ∨ h.space = .sync then failed .xperm va
    else
      let leaf ← mapOne s rd ac.part .none va.toNat
      .ok (leaf.phys va.toNat, [leaf], va)
  checked.orTrap fun (line, ls, va) =>
    if !s.loadReady s.core.active c .global [] ∨ s.loadWaits c .global (span line 128) then .wait c
    else
      let c := s.spendMark s.core.active c
      let met := s.meets line
      let v := if met.isSome then 0 else readDword (s.byteUnder none) (line + 120)
      .bound (s.holdLeaves ac.part ls) ((c.write d v).pushLoad (.held c.serial)) (metAt met va)

/-- R178 `cprobe`. -/
def execCprobe (st : BitVec 2) (d a : Code) (h : BitVec 4) (i : BitVec 8) (s : State) : Answer :=
  issue (.cprobe st d a h i) anyLevel (probe d a h.toNat i) s

end Sys2Proof.Machine
end

