-- ==== Sys2Proof/Machine/Send.lean ====
section
/-! DEFINITION. The instructions that send commands and read completion numbers (R47, R48, R127 to R129, R243, R260). -/

namespace Sys2Proof.Machine

/-- The words of the head command run, at most the fuel, with no other command there. -/
def dryRun : Nat → State → State
  | 0, s => s
  | n + 1, s => match runHead s with
    | .next s' => if s'.eng.cmds.isEmpty then s' else dryRun n s'
    | _ => s

/-- The same, with the ranges that its words take. -/
def dryRanges : Nat → State → List Range → State × List Range
  | 0, s, rs => (s, rs)
  | n + 1, s, rs => match runHead { s with eng := { s.eng with ranges := [] } } with
    | .next s' =>
      let rs := rs ++ s'.eng.ranges
      if s'.eng.cmds.isEmpty then (s', rs) else dryRanges n s' rs
    | _ => (s, rs)

/-- Memory as a context's stores will leave it: those on their way to their homes, then those of the queues. -/
def State.withOwn (s : State) (ctx : Nat) : State :=
  let cached := s.fab.dcache.flatMap fun k =>
    (k.regs.filter fun r => !r.recorded && r.who.ctx == ctx).flatMap fun r => maskBytes k.word r.mask r.data
  let queued := ((s.core.sq0 ++ s.core.sq1).filter fun e => e.ctx == ctx && e.space == .global).flatMap (·.bytes)
  { s with fab := { s.fab with mem := writeBytes (cached ++ queued) s.fab.mem } }

/-- R351: the scratchpad ranges that a command's words will take, after those of the context's commands queued before it. -/
def State.spansOf (s : State) (k : Cmd) : List Range :=
  if k.eng = 4 ∨ k.eng = 5 ∨ k.eng = 6 then
    let run (s : State) (o : Cmd) : State × List Range :=
      dryRanges (o.words.length + 1) { s with eng := { s.eng with cmds := [o] } } []
    let before := s.eng.cmds.filter fun o => o.eng = k.eng ∧ o.iss.ctx = k.iss.ctx
    (run (before.foldl (fun s o => (run s o).1) (s.withOwn k.iss.ctx)) k).2
  else []

/-- A command of the context, with the stores before it (R48) and the ranges it will take. -/
def State.command (s : State) (c : Context) (eng : Nat) (param : Option Dword) (words : List Half) : Cmd :=
  let k : Cmd := ⟨eng, s.issuer c, param, words, if param.isSome then 1 else 0, c.serial, false, none, s.eng.sends, []⟩
  { k with spans := (s.setCurrent (some c)).spansOf k }

/-- R260: the first row in an open tile-fetch window that an `mgo` of the command reads. -/
def State.breach (s : State) (c : Context) (k : Cmd) : Option Nat :=
  if !bit c.chk 1 || k.eng != 0 then none
  else
    let open' := c.windows.filter fun w => w.eng == 1 && w.tile && w.write
    let s0 := s.setCurrent (some c)
    let s' := dryRun (k.words.length + 1) { s0 with eng := { s0.eng with cmds := [k] } }
    (s'.eng.mx.ops.drop s.eng.mx.ops.length).findSome? fun o => match o.kind with
      | .go fs side => (fs.reads side).find? fun r => open'.any (·.row == r)
      | _ => none

/-- R47: a command goes into its queue. -/
def State.deliver1 (s : State) (k : Cmd) : State :=
  { s with eng := { s.eng with cmds := s.eng.cmds ++ [k], sends := s.eng.sends + 1 } }

/-- R47, R48, R160, R260: a command is sent, as a store is, once its queue has room; a send to `mx` or `tf` waits for older tile
accesses; one read from memory has taken an entry of the load queue (R129, R139). -/
def sendNow (eng : Nat) (param : Option Dword) (words : List Half) (loaded : Bool) (s : State) (c : Context) : Res :=
  let k := s.command c eng param words
  match s.breach c k with
  | some r => .trap .ownbrk (.ofNat 64 (r + 2 ^ 12 + 2 ^ 16))
  | none =>
    if eng ≤ 1 ∧ (c.vbusy ≠ 0 ∨ (s.sq s.core.active).any (·.whole)) then .wait c
    else if !s.storeMayGo s.core.active c ∨ Config.cmdQueueDepth ≤ s.queuedTo eng then .wait c
    else
      let c := s.spendMark s.core.active c
      let c := if loaded then c.pushLoad (.held c.serial) else c
      .done (s.deliver1 k) { c with serial := c.serial + 1 }

/-- R238: sending to `mx` is a touch of the accumulator. -/
def sendTo (eng : Nat) (param : Option Dword) (words : List Half) (loaded : Bool) (s : State) (c : Context) : Res :=
  if eng = 0 then touching (sendNow eng param words loaded) s c
  else sendNow eng param words loaded s c

/-- The four words of a register, lowest first. -/
def fourWords (v : Dword) : List Half := (List.range 4).map fun k => .ofNat 16 (bits v (16 * k + 15) (16 * k))

/-- R127 `xsendi`. -/
def execXsendi (st : BitVec 2) (e : BitVec 4) (w0 w1 : BitVec 16) (s : State) : Answer :=
  issue (.xsendi st e w0 w1) anyLevel (sendTo e.toNat none [w0, w1] false) s

/-- R128 `xsend`: b pushed, then the four words of a. -/
def execXsend (st : BitVec 2) (e : BitVec 4) (a b : Code) (s : State) : Answer :=
  issue (.xsend st e a b) anyLevel (fun s c => sendTo e.toNat (some (c.read b)) (fourWords (c.read a)) false s c) s

/-- R128 `xsendw`: the four words of a, then those of b. -/
def execXsendw (st : BitVec 2) (e : BitVec 4) (a b : Code) (s : State) : Answer :=
  issue (.xsendw st e a b) anyLevel (fun s c => sendTo e.toNat none (fourWords (c.read a) ++ fourWords (c.read b)) false s c) s

/-- R129: the checks of `xsendm`. -/
def checkBlock (s : State) (c : Context) (n : Nat) (off : Dword) (len : Nat) : Check Mapped := do
  let rd := s.threadByte s.core.active
  let ac := s.access c.launch
  let h ← readHandle s rd ac n (c.slotIndex n) off
  if bit off 0 then failed .align (h.va off)
  else
    checkBound s ac h n off len
    match h.space with
    | .scratch | .sync => .ok ⟨h, span (h.va off).toNat len, []⟩
    | .code => refuseCode s rd ac.part .read (span (h.va off).toNat len) (h.va off)
    | .global =>
      let (as, ls) ← mapBytes s rd ac.part .read (span (h.va off).toNat len)
      .ok ⟨h, as, ls⟩

/-- R129: the first byte of a block that lies on a marked line. -/
def State.firstMet (s : State) (slot : Bool) (c : Context) (m : Mapped) : Option (Cause × Nat) :=
  (m.addrs.zipIdx).findSome? fun p =>
    if (s.forward slot m.handle.space.memory c.serial p.1).isSome then none
    else (s.loadMeets m.handle.space m.handle.policy (s.sectorLook m.addrs) [p.1]).map (·, p.2)

/-- The 16-bit words of bytes. -/
def halves : List Byte → List Half
  | a :: b :: r => .ofNat 16 (a.toNat + 256 * b.toNat) :: halves r
  | _ => []

/-- R129: `xsendm`: the block is read as a load that binds now, and its words sent. While the read waits, a send to `mx` has still to
be checked (R238, R260), and a held cause's entry waits for those checks (R133). -/
def sendBlock (eng : Nat) (a : Code) (n len : Nat) (s : State) (c : Context) : Res :=
  let off := c.read a
  (checkBlock s c n off len).orTrap fun m =>
    let slot := s.core.active
    match s.firstMet slot c m with
    | some (cause, i) => .trap cause (.ofNat 64 (lineOf ((m.handle.va off).toNat + i)))
    | none =>
      if !s.loadReady slot c m.handle.space m.addrs ∨ s.loadWaits c m.handle.space m.addrs then
        (if eng = 0 then touching (fun _ _ => .entered (s.tick 1)) s c else .wait c)
      else
        let part := s.partOf c.launch
        let (bs, _, s') := bindLoad s slot c.serial m.handle.space m.handle.policy (s.sectorLook m.addrs) (s.poolLine part m.leaves) m.addrs
        sendTo eng none (halves bs) true (s'.holdLeaves part m.leaves) c

/-- R129 `xsendm`: imm8 + 1 words. -/
def execXsendm (st : BitVec 2) (e : BitVec 4) (a : Code) (h : BitVec 4) (i : BitVec 8) (s : State) : Answer :=
  issue (.xsendm st e a h i) anyLevel (sendBlock e.toNat a h.toNat (2 * (i.toNat + 1))) s

/-- R243, R260: windows of an engine that a number covers close. -/
def Context.closeWindows (c : Context) (eng : Nat) (n : Word) : Context :=
  { c with windows := c.windows.filter fun w => !(w.eng == eng && upTo (.ofNat 32 w.upto) n) }

/-- R128 `xseq`. -/
def readNumber (eng : Nat) (a : Code) (s : State) (c : Context) : Res :=
  let n := (s.engCtx eng c.ctxid.toNat).seq
  .done s ((c.closeWindows eng n).result a (zext64 n) 1)

/-- R128 `xseq`. -/
def execXseq (st : BitVec 2) (e : BitVec 4) (a : Code) (s : State) : Answer :=
  issue (.xseq st e a) anyLevel (readNumber e.toNat a) s

/-- R128 `xwait`. -/
def waitNumber (eng : Nat) (a : Code) (s : State) (c : Context) : Res :=
  let n := (s.engCtx eng c.ctxid.toNat).seq
  if upTo ((c.read a).truncate 32) n then .done s (c.closeWindows eng n) else .wait c

/-- R128 `xwait`. -/
def execXwait (st : BitVec 2) (e : BitVec 4) (a : Code) (s : State) : Answer :=
  issue (.xwait st e a) anyLevel (waitNumber e.toNat a) s

end Sys2Proof.Machine
end

