-- ==== Sys2Proof/Machine/System.lean ====
section
/-! DEFINITION. Handle slots, control registers, traps and task end: R125, R126, R134 to R136. -/

namespace Sys2Proof.Machine

/-- R125 `hget`. -/
def execHget (st : BitVec 2) (d n : Code) (s : State) : Answer :=
  issue (.hget st d n) anyLevel (fixedResult d 1 fun c => zext64 (c.h[n.toNat]?.getD 0)) s

/-- R125 `hset`: (a + imm12)[11:0], unchecked here. -/
def execHset (st : BitVec 2) (d a : Code) (i : BitVec 12) (s : State) : Answer :=
  issue (.hset st d a i) anyLevel
    (fun s c => .done s { c with h := c.h.setIfInBounds d.toNat ((c.read a).truncate 12 + i) }) s

/-- R104: the lowest privilege that may read a control register. -/
def readLevel (n : Nat) : Level := if 8 ≤ n ∧ n ≤ 12 then .supervisor else .task

/-- R104: the lowest privilege that may write a control register. -/
def writeLevel (n : Nat) : Level :=
  if n = 4 ∨ n = 5 ∨ n = 0xE ∨ n = 0x10 then .machine
  else if n = 6 ∨ (8 ≤ n ∧ n ≤ 0xD) ∨ 0x11 ≤ n then .supervisor
  else .task

/-- R104: PRIV for an access from below the level, with the register number. -/
def levelFault (need : Level) (i : BitVec 12) (c : Context) : Option Dword :=
  if c.prv.cur.code < need.code then some (zext64 i) else none

/-- R104: the bank a banked register names at the current privilege. -/
def State.bankOf (s : State) (c : Context) : Bank := if c.prv.cur = .machine then s.core.bank else c.sup

/-- R104: the value of a control register; none for a reserved number. -/
def readControl (s : State) (c : Context) (n : Nat) : Option Dword :=
  let b := s.bankOf c
  match n with
  | 0x000 => some c.pc
  | 0x001 => some (zext64 c.rrb)
  | 0x002 => some c.vwin
  | 0x003 => some c.acfg
  | 0x004 => some (zext64 s.core.acown)
  | 0x005 => some s.core.actouch
  | 0x006 => some (zext64 c.chk)
  | 0x007 => some c.gen
  | 0x008 => some b.cause
  | 0x009 => some b.epc
  | 0x00A => some b.eval
  | 0x00B => some (zext64 b.estat)
  | 0x00C => some b.scratch
  | 0x00D => some (zext64 c.prv.bits)
  | 0x00E => some (zext64 c.ctxid)
  | 0x00F => some c.taskid
  | 0x010 => some s.core.cycle
  | 0x011 => some (zext64 (s.core.bkloss[0]))
  | 0x012 => some (zext64 (s.core.bkloss[1]))
  | 0x013 => some (zext64 (s.core.bkloss[2]))
  | 0x014 => some (zext64 (s.core.bkloss[3]))
  | _ => none

/-- R190: the registers whose access waits for older vector instructions. -/
def vectorRegister (i : BitVec 12) : Bool := i = 1 || i = 2 || i = 3

/-- R126: `sget`. -/
def getControl (st : BitVec 2) (d : Code) (i : BitVec 12) (s : State) (c : Context) : Res :=
  match readControl s c i.toNat with
  | none => .trap .illop (.ofNat 64 ((encode (.sget st d i)).headD 0))
  | some v => if vectorRegister i ∧ c.vbusy ≠ 0 then .wait c else .done s (c.result d v 1)

/-- R126 `sget`. -/
def execSget (st : BitVec 2) (d : Code) (i : BitVec 12) (s : State) : Answer :=
  issue (.sget st d i) (levelFault (readLevel i.toNat) i) (getControl st d i) s

/-- R104: the banked register written at the current privilege. -/
def setBank (f : Bank → Bank) (s : State) (c : Context) : Res :=
  if c.prv.cur = .machine then .done { s with core := { s.core with bank := f s.core.bank } } c
  else .done s { c with sup := f c.sup }

/-- R221: a written ACFG whose AT is no accumulator type, or which sets a reserved bit. -/
def badAcfg (v : Dword) : Bool := !([2, 8, 9, 10, 11].contains (bits v 3 0)) || bits v 7 4 ≠ 0 || bits v 63 12 ≠ 0

/-- R104, R105, R106: a control register written; bits a table reserves are ignored. -/
def writeControl (st : BitVec 2) (a : Code) (i : BitVec 12) (s : State) (c : Context) : Res :=
  let c := if settlesFirst i then c.settle else c
  let v := c.read a
  match i.toNat with
  | 0x001 => .done s { c with rrb := v.truncate 6 }
  | 0x002 => .done s { c with row0 := v.truncate 7 }
  | 0x003 => if badAcfg v then .trap .illopd v else .done s { c with acc := v.truncate 4, flags := .ofNat 4 (bits v 11 8) }
  | 0x004 => .done { s with core := { s.core with acown := v.truncate 15 } } c
  | 0x005 => .done { s with core := { s.core with actouch := v } } c
  | 0x006 => .done s { c with chk := v.truncate 2 }
  | 0x007 => .done s { c with gen := seeded v }
  | 0x008 => setBank (fun b => { b with cause := v &&& 0x80FFFFFF }) s c
  | 0x009 => setBank (fun b => { b with epc := v }) s c
  | 0x00A => setBank (fun b => { b with eval := v }) s c
  | 0x00B => setBank (fun b => { b with estat := v.truncate 3 }) s c
  | 0x00C => setBank (fun b => { b with scratch := v }) s c
  | 0x00D => .done s { c with prv := { c.prv with emask := bit v 2 } }
  | 0x00E => .done s { c with ctxid := v.truncate 14 }
  | 0x010 => .done { s with core := { s.core with cycle := v } } c
  | 0x011 => .done { s with core := { s.core with bkloss := s.core.bkloss.set 0 (v.truncate 32) } } c
  | 0x012 => .done { s with core := { s.core with bkloss := s.core.bkloss.set 1 (v.truncate 32) } } c
  | 0x013 => .done { s with core := { s.core with bkloss := s.core.bkloss.set 2 (v.truncate 32) } } c
  | 0x014 => .done { s with core := { s.core with bkloss := s.core.bkloss.set 3 (v.truncate 32) } } c
  | _ => .trap .illop (.ofNat 64 ((encode (.sset st a i)).headD 0))

/-- R126: `sset`. -/
def setControl (st : BitVec 2) (a : Code) (i : BitVec 12) (s : State) (c : Context) : Res :=
  match writeControl st a i s c with
  | .trap cause v => .trap cause v
  | r => if vectorRegister i ∧ c.vbusy ≠ 0 then .wait c else r

/-- R104: the PRIV fault of an `sset`; a register that no privilege may write faults ILLOP instead. -/
def writeFault (i : BitVec 12) (c : Context) : Option Dword :=
  if i = 0 ∨ i = 0xF ∨ 0x14 < i.toNat then none else levelFault (writeLevel i.toNat) i c

/-- R126 `sset`. -/
def execSset (st : BitVec 2) (a : Code) (i : BitVec 12) (s : State) : Answer :=
  issue (.sset st a i) (writeFault i) (setControl st a i) s

/-- R135: `trap`. -/
def softTrap (st : BitVec 2) (i : BitVec 12) (s : State) (c : Context) : Res :=
  let word : Dword := .ofNat 64 ((encode (.trap st i)).headD 0)
  if c.prv.cur = .machine then .trap .illop word
  else if !c.quiet then .wait c
  else
    let c' := c.passed (Instr.trap st i).form
    .entered ((s.takeTrap s.core.active c' .softtrap 0 (zext64 i) (nseq c.pc 1) none).tick (issueCycles c c'))

/-- R135 `trap`. -/
def execTrap (st : BitVec 2) (i : BitVec 12) (s : State) : Answer := issue (.trap st i) anyLevel (softTrap st i) s

/-- R134: `eret`: the checks, the wait for the level's own results, then the return; the bank of the level returned to
drains from the break's schedule cycle. -/
def returnFrom (st : BitVec 2) (s : State) (c : Context) : Res :=
  let word : Dword := .ofNat 64 ((encode (.eret st)).headD 0)
  let b := s.bankOf c
  if c.prv.cur = .task then .trap .priv word
  else match Level.ofCode (bits b.estat 1 0) with
    | none => .trap .illop word
    | some lvl =>
      if c.prv.cur.code < lvl.code then .trap .priv word
      else if !c.quiet then .wait c
      else
        let c' := c.settle.passed (Instr.eret st).form
        let back := { c' with pc := b.epc, prv := ⟨lvl, bit b.estat 2⟩, fbuf := [], fill := none, reach := .other, waiting := none }
        .left ((s.setCurrent (some back.drainBank)).tick (issueCycles c c'))

/-- R134 `eret`. -/
def execEret (st : BitVec 2) (s : State) : Answer := issue (.eret st) anyLevel (returnFrom st) s

/-- R136: `tend`: older vector instructions complete (R190), as do atomics, which are stores (R331); then the slot is free
at once; by fault above task level. -/
def finishTask (s : State) (c : Context) : Res :=
  if c.vbusy ≠ 0 ∨ (c.lq.any fun e => e.kind.stores && !e.back) then .wait c
  else .left (((s.setCurrent (some c)).endTask s.core.active (c.prv.cur != .task)).tick 1)

/-- R136 `tend`. -/
def execTend (st : BitVec 2) (s : State) : Answer := issue (.tend st) anyLevel finishTask s

/-- R136 `nop`. -/
def execNop (st : BitVec 2) (s : State) : Answer := issue (.nop st) anyLevel (fun s c => .done s c) s

/-- R109: a word of a reserved major or unassigned function: ILLOP, at the context's pc. -/
def execReservedEncoding (w : BitVec 32) (s : State) : Answer :=
  match s.current with
  | none => .fault .noContext
  | some c =>
    if c.stopped ∨ s.core.now < s.core.busyTill then .next (s.tick 1) else .next (s.precise c .illop (zext64 w))

end Sys2Proof.Machine
end

