-- ==== Sys2Proof/Machine/Lanes.lean ====
section
/-! DEFINITION. The vector unit's control word, registers, lanes and lane operations (R180 to R186, R195 to R199, R206). -/

namespace Sys2Proof.Machine

/-- R185: the operand pair, with the lane type resolved. -/
structure Ctl where
  o0 : Dword
  o1 : Dword
  t : NumType
  /-- The governing predicate's name and the repetitions. -/
  pg : BitVec 3
  reps : Nat
  deriving DecidableEq, Repr

/-- Bytes of a value of a type. -/
def NumType.bytes : NumType → Nat
  | .int _ w => w / 8
  | .flt f => f.width / 8

def NumType.isFloat : NumType → Bool
  | .flt _ => true
  | .int .. => false

/-- R182: lane width in bytes, and lanes of a row. -/
def Ctl.w (k : Ctl) : Nat := k.t.bytes
def Ctl.lanes (k : Ctl) : Nat := 512 / k.w
/-- R185: the fields. -/
def Ctl.len (k : Ctl) : Nat := bits k.o1 33 24
def Ctl.fn (k : Ctl) : Nat := bits k.o1 23 20
def Ctl.hs (k : Ctl) : Nat := bits k.o1 19 16
def Ctl.bx (k : Ctl) : Bool := bit k.o1 14
def Ctl.pm (k : Ctl) : Nat := bits k.o1 13 12
def Ctl.sati (k : Ctl) : Bool := bit k.o1 11
def Ctl.rm (k : Ctl) : Nat := bits k.o1 10 8
def Ctl.st (k : Ctl) : Nat := bits k.o1 7 4
/-- R195: L'. -/
def Ctl.used (k : Ctl) : Nat := if k.len = 0 then k.lanes else k.len
/-- R197: the low bits of o0 as a lane. -/
def Ctl.scalar (k : Ctl) : Nat := k.o0.toNat % 2 ^ (8 * k.w)

/-- R182: the lane type of VT; none is not a lane type. -/
def laneType (c : Context) (o1 : Dword) : Option NumType :=
  match bits o1 3 0 with
  | 14 => none
  | 15 => NumType.ofCode c.acc.toNat
  | n => NumType.ofCode n

/-- R186: the fields of the control word an instruction reads. -/
inductive Uses where
  /-- None. -/
  | nothing
  /-- VT. -/
  | vt
  /-- VT and LEN. -/
  | len
  /-- VT, LEN and PM. -/
  | lanes
  deriving DecidableEq, Repr

/-- R186: the named fields hold values the instruction accepts; `ok` is its own part. -/
def Ctl.accepts (k : Ctl) (u : Uses) (ok : Ctl → Bool) : Bool :=
  (match u with
    | .nothing | .vt => true
    | .len => decide (k.len ≤ k.lanes)
    | .lanes => decide (k.len ≤ k.lanes) && k.pm != 3) && ok k

/-- R192: which predicate field an instruction may hold. -/
inductive Governs where
  /-- pg governs lanes: it is read, so may be non-zero, only when PM is 1 or 2. -/
  | byMode
  /-- pg is read whatever PM is, or names nothing here. -/
  | always
  /-- pg is never read. -/
  | never
  deriving DecidableEq, Repr

def Governs.bad (g : Governs) (pm : Nat) (pg : BitVec 3) : Bool :=
  match g with
  | .byMode => pm == 0 && pg != 0
  | .always => false
  | .never => pg != 0

/-- R185: reserved bits of the control word. -/
def reservedCtl (o1 : Dword) : Bool := bits o1 63 47 ≠ 0 || bits o1 39 34 ≠ 0 || bit o1 15

/-- R97: the physical numbers a vector and a predicate name select. -/
def Context.physVector (c : Context) (n : Nat) : Nat := if 16 ≤ n then 16 + (n - 16 + c.rrb.toNat) % 16 else n
def Context.physPred (c : Context) (n : Nat) : Nat := if 4 ≤ n then 4 + (n - 4 + c.rrb.toNat) % 4 else n

/-- R180: the accumulator row of a register name. -/
def Context.vrow (c : Context) (name : Nat) : Nat := (c.row0.toNat + c.physVector name) % 128

/-- A predicate by name. -/
def Context.pred (c : Context) (name : Nat) : Pred := (c.p[c.physPred name]?).getD 0
def Context.setPred (c : Context) (name : Nat) (v : Pred) : Context := { c with p := c.p.setIfInBounds (c.physPred name) v }

/-- R195: the lane is active. -/
def Ctl.active (k : Ctl) (c : Context) (j : Nat) : Bool :=
  decide (j < k.used) && (k.pm == 0 || (c.pred k.pg.toNat).getLsbD j)

/-- R195: the lane is inactive and is written 0. -/
def Ctl.zeroed (k : Ctl) (c : Context) (j : Nat) : Bool :=
  decide (j < k.used) && k.pm == 2 && !(c.pred k.pg.toNat).getLsbD j

/-- R195: the active lanes of a register, ascending. -/
def Ctl.actives (k : Ctl) (c : Context) : List Nat := (List.range k.lanes).filter (k.active c)

/-- R183, R195: a predicate built bit by bit below N; bits N and above are cleared. -/
def buildPred (n : Nat) (f : Nat → Bool) : Pred := (List.range n).foldl (fun v j => if f j then v ||| .ofNat 512 (2 ^ j) else v) 0

/-- R186, R192, R238, R243: everything before a vector instruction's own effect, which `body` gives. `names` are the vector
registers it names, each with its repetitions. -/
def vectorBody (u : Uses) (g : Governs) (pg : BitVec 3) (reps : Nat) (names : List (BitVec 5)) (ok okO0 : Ctl → Bool)
    (body : Ctl → State → Context → Res) (s : State) (c : Context) : Res :=
  let o0 := c.read 32#6
  let o1 := c.read 33#6
  if g.bad (bits o1 13 12) pg then .trap .illopd (zext64 pg)
  else if reservedCtl o1 then .trap .illopd o1
  else match (if u = .nothing then some (.int false 8) else laneType c o1) with
    | none => .trap .illopd o1
    | some t =>
      let k : Ctl := ⟨o0, o1, t, pg, reps⟩
      if !k.accepts u ok then .trap .illopd o1
      else if !okO0 k then .trap .illopd o0
      else if names.isEmpty then body k s c
      else touching (fun s c =>
        let rows := names.flatMap fun n => (List.range reps).map fun i => c.vrow (n.toNat + i)
        match c.ownBreach false rows (·.write) with
        | some v => .trap .ownbrk v
        | none => body k s c) s c

/-- R187, R189: a vector instruction has issued. -/
def Context.issuedVector (c : Context) : Context := { c with vbusy := c.vbusy + 1 }

/-- A vector instruction's effect is whole. -/
def vectorDone (s : State) (c : Context) : Res := .done s c.issuedVector

/-- The lanes of a register. -/
def State.vlanes (s : State) (c : Context) (name w : Nat) : Nat → Nat := rowLane (s.core.accRow (c.vrow name)) w

/-- Lanes of a register written. -/
def State.setVlanes (s : State) (c : Context) (name w : Nat) (vs : List (Nat × Nat)) : State :=
  { s with core := s.core.writeLanes (c.vrow name) w vs }

/-- What a lane becomes, with the flags it raises and the generator after it. -/
abbrev LaneOut := Nat × Raised × Dword

/-- R195, R196: the active lanes below a limit computed in ascending order, inactive ones as R195 gives. -/
def Ctl.run (k : Ctl) (c : Context) (limit : Nat) (f : Nat → Dword → LaneOut) : List (Nat × Nat) × Raised × Dword :=
  (List.range limit).foldl (fun (vs, fl, g) j =>
    if k.active c j then
      let (v, r, g') := f j g
      (vs ++ [(j, v)], fl.or r, g')
    else if k.zeroed c j then (vs ++ [(j, 0)], fl, g)
    else (vs, fl, g)) ([], {}, c.gen)

/-- R196: the repetitions of a lanewise instruction: `f` gives, for repetition i, what lane j becomes. -/
def Ctl.repeat (k : Ctl) (d limit : Nat) (f : State → Nat → Nat → Dword → LaneOut) (s : State) (c : Context) : Res :=
  let (s, c) := (List.range k.reps).foldl (fun (s, c) i =>
    let (vs, fl, g) := k.run c limit (f s i)
    (s.setVlanes c (d + i) k.w vs, { c with gen := g }.raise fl)) (s, c)
  vectorDone s c

/-- An integer as a lane. -/
def laneOfInt (w : Nat) (v : Int) : Nat := (v % (2 ^ (8 * w) : Nat)).toNat

/-- R197: an exact integer result, wrapped or saturated. -/
def intLane (sg : Bool) (w : Nat) (sati : Bool) (v : Int) : Nat × Raised :=
  let (lo, hi) := intRange sg w
  if sati then let (x, r) := clampInt lo hi v; (laneOfInt (w / 8) x, r) else (laneOfInt (w / 8) v, {})

/-- R197: a rounded floating result. -/
def roundLane (F : Fmt) (rm : Nat) (x : XVal × Raised) (g : Dword) : LaneOut :=
  let (m, g) := drawMode rm g
  let (v, r) := F.encode m x.1
  (v, x.2.or r, g)

/-- A result that is not rounded. -/
def exactLane (F : Fmt) (x : XVal) (g : Dword) : LaneOut := ((F.encode .rne x).1, {}, g)

/-- R197: a lanewise operation by type: on floating values with rounding, or on integers. -/
structure Arith where
  flt : Fmt → Nat → XVal → XVal → XVal → Dword → LaneOut
  int : Bool → Nat → Int → Int → Int

/-- R197: the lane result for lane values a, b and the old d. -/
def Arith.lane (op : Arith) (k : Ctl) (a b d : Nat) (g : Dword) : LaneOut :=
  match k.t with
  | .flt F => op.flt F k.rm (F.decode a) (F.decode b) (F.decode d) g
  | .int sg w =>
    let (v, r) := intLane sg w k.sati (op.int sg w (readInt sg w a) (readInt sg w b))
    (v, r, g)

/-- A rounded floating operation of two values with its integer form. -/
def rounded (f : XVal → XVal → XVal × Raised) (i : Int → Int → Int) : Arith :=
  ⟨fun F rm a b _ g => roundLane F rm (f a b) g, fun _ _ a b => i a b⟩

/-! 2^a for `vexp2` (R197): 2^⌊a⌋ × 2^f, with 2^f by its series to 320 bits. -/

/-- ⌊ln 2 × 2^320⌋. -/
def ln2Fixed : Nat :=
  1480553391661173448385607439722553250922680800745876974795605978609098082859138712941075737848984

/-- The terms y^k/k! of a fixed-point y, from the k-th. -/
def expTerms (y : Nat) : Nat → Nat → Nat → Nat
  | 0, _, acc => acc
  | n + 1, term, acc => expTerms y n (term * y / (2 ^ 320 * (81 - n))) (acc + term)

/-- 2^(n/d) for 0 < n < d, in 320 fraction bits, made odd so that no rounding takes it for a tie or an exact value. -/
def exp2Frac (n d : Nat) : XVal := .fin false (2 * expTerms (ln2Fixed * n / d) 81 (2 ^ 320) 0 + 1) (2 ^ 321)

/-- R197: 2^a; exponents beyond ±400 are held there, outside FP32's range either way. -/
def exp2X : XVal → XVal
  | .nan => .nan
  | .inf s => if s then .fin false 0 1 else .inf false
  | .fin s n d =>
    let v : Int := if s then -(n : Int) else n
    let i := v / (d : Int)
    let f := (v % (d : Int)).toNat
    let i' := max (-400) (min 400 i)
    (if f = 0 then .scaled false 1 0 else exp2Frac f d).mul (.scaled false 1 i')

/-! Reductions (R206). -/

/-- R206: the identity of an operation. -/
def redIdentity (t : NumType) (fn : Nat) : Nat :=
  match t, fn with
  | .flt F, 0 => F.signed true 0
  | .flt F, 1 => F.infCode.getD F.maxCode
  | .flt F, 2 => F.signed true (F.infCode.getD F.maxCode)
  | .int sg w, 1 => laneOfInt (w / 8) (intRange sg w).2
  | .int sg w, 2 => laneOfInt (w / 8) (intRange sg w).1
  | t, 3 => 2 ^ (8 * t.bytes) - 1
  | _, _ => 0

/-- R206: one step of an operation on lanes. -/
def redStep (k : Ctl) (a b : Nat) (g : Dword) : LaneOut :=
  match k.t, k.fn with
  | .flt F, 0 => roundLane F k.rm (addX (F.decode a) (F.decode b)) g
  | .flt F, 1 => exactLane F (minX (F.decode a) (F.decode b)) g
  | .flt F, 2 | .flt F, 6 => exactLane F (maxX (F.decode a) (F.decode b)) g
  | .int sg w, 0 =>
    let (v, r) := intLane sg w k.sati (readInt sg w a + readInt sg w b)
    (v, r, g)
  | .int sg w, 1 => (if readInt sg w b < readInt sg w a then b else a, {}, g)
  | .int sg w, 2 => (if readInt sg w a < readInt sg w b then b else a, {}, g)
  | _, 3 => (Nat.land a b, {}, g)
  | _, 4 => (Nat.lor a b, {}, g)
  | _, 5 => (Nat.xor a b, {}, g)
  | _, _ => (a, {}, g)

/-- R206: a lane as the operation takes it: its magnitude for FN 6. -/
def redInput (k : Ctl) (v : Nat) : Nat :=
  match k.t, k.fn with
  | .flt F, 6 => (F.encode .rne (F.decode v).abs).1
  | _, _ => v

/-- R206: the operation is assigned for the lane type; the rounding code is named by a floating add. -/
def redOk (most : Nat) (k : Ctl) : Bool :=
  decide (k.fn ≤ most) && (k.fn != 6 || k.t.isFloat) && !(k.t.isFloat && k.fn == 0 && 4 < k.rm)

/-- R206: one level of the tree. -/
def treeLevel (k : Ctl) : List Nat → Raised → Dword → List Nat × Raised × Dword
  | a :: b :: rest, fl, g =>
    let (v, r, g) := redStep k a b g
    let (vs, fl, g) := treeLevel k rest (fl.or r) g
    (v :: vs, fl, g)
  | _, fl, g => ([], fl, g)

/-- R206: the tree, level by level. -/
def treeReduce (k : Ctl) : Nat → List Nat → Raised → Dword → LaneOut
  | 0, t, fl, g => (t.headD 0, fl, g)
  | n + 1, t, fl, g =>
    match t with
    | [_] | [] => (t.headD 0, fl, g)
    | _ =>
      let (t, fl, g) := treeLevel k t fl g
      treeReduce k n t fl g

end Sys2Proof.Machine
end

