-- ==== Sys2Proof/Machine/Vector.lean ====
section
/-! DEFINITION. Vector arithmetic, logic, compares, predicates, moves, permutes, reductions, quantising, `vdotb` and `vfence`
(R197 to R208, R213 to R215, R217). -/

namespace Sys2Proof.Machine

/-- R186, R197: the rounding code, named when a floating result is rounded. -/
def rmOk (k : Ctl) : Bool := !k.t.isFloat || decide (k.rm ≤ 4)
/-- A floating lane type with its rounding code. -/
def fltOk (k : Ctl) : Bool := k.t.isFloat && decide (k.rm ≤ 4)
/-- An integer lane type. -/
def intOk (k : Ctl) : Bool := !k.t.isFloat
/-- Any lane type. -/
def anyOk (_ : Ctl) : Bool := true
/-- Exactly one lane type. -/
def onlyF32 (k : Ctl) : Bool := k.t = .flt f32

/-- R197: operand b of a lane: vb, or o0 broadcast where BX is 1. -/
def operandB (k : Ctl) (b : BitVec 5) (c : Context) (s : State) (i j : Nat) : Nat :=
  if k.bx then k.scalar else s.vlanes c (b.toNat + i) k.w j

/-- R196: a lanewise instruction of three registers. -/
def lanewise3 (d a b : BitVec 5) (f : Ctl → Nat → Nat → Nat → Dword → LaneOut) (k : Ctl) (s : State) (c : Context) : Res :=
  k.repeat d.toNat k.lanes (fun s i j g =>
    f k (s.vlanes c (a.toNat + i) k.w j) (operandB k b c s i j) (s.vlanes c (d.toNat + i) k.w j) g) s c

/-- R196: a lanewise instruction of two registers; BX is not read. -/
def lanewise2 (d a : BitVec 5) (f : Ctl → Nat → Dword → LaneOut) (k : Ctl) (s : State) (c : Context) : Res :=
  k.repeat d.toNat k.lanes (fun s i j g => f k (s.vlanes c (a.toNat + i) k.w j) g) s c

/-- A lane operation on raw bits of the lane width, which sets no flag. -/
def rawLane (f : Nat → Nat → Nat → Nat) (k : Ctl) (a b _d : Nat) (g : Dword) : LaneOut :=
  (f (8 * k.w) a b % 2 ^ (8 * k.w), {}, g)

/-- R197: `vfma`. -/
def fmaLane : Arith := ⟨fun F rm a b d g => roundLane F rm (fmaX a b d) g, fun _ _ a _ => a⟩
/-- R197: `vmin`, `vmax`. -/
def minLane : Arith := ⟨fun F _ a b _ g => exactLane F (minX a b) g, fun _ _ a b => min a b⟩
def maxLane : Arith := ⟨fun F _ a b _ g => exactLane F (maxX a b) g, fun _ _ a b => max a b⟩
/-- R197: `vneg`, `vabs`. -/
def negLane : Arith := ⟨fun F _ a _ _ g => exactLane F a.neg g, fun _ _ a _ => -a⟩
def absLane : Arith := ⟨fun F _ a _ _ g => exactLane F a.abs g, fun _ _ a _ => a.natAbs⟩

/-- R197: `vmulh`: the upper half of the product, not saturated. -/
def mulhLane (k : Ctl) (a b _d : Nat) (g : Dword) : LaneOut :=
  match k.t with
  | .int sg w => (laneOfInt (w / 8) (readInt sg w a * readInt sg w b / (2 ^ w : Nat)), {}, g)
  | .flt _ => (a, {}, g)

/-- R198: `vsra`. -/
def sraLane (k : Ctl) (a b _d : Nat) (g : Dword) : LaneOut :=
  (laneOfInt k.w (readInt true (8 * k.w) a / (2 ^ (b % (8 * k.w)) : Nat)), {}, g)

/-- R198: `vclz`, `vpopc`. -/
def clzLane (w a : Nat) : Nat := if a = 0 then w else w - 1 - Nat.log2 a
def popcLane (w a : Nat) : Nat := ((List.range w).filter fun i => a.testBit i).length

/-- R197 `vadd`. -/
def execVadd (st : BitVec 2) (d a b : BitVec 5) (p : BitVec 3) (m : BitVec 2) (s : State) : Answer :=
  issue (.vadd st d a b p m) anyLevel
    (vectorBody .lanes .byMode p (reps m) [d, a, b] rmOk anyOk (lanewise3 d a b (rounded addX (· + ·)).lane)) s

/-- R197 `vsub`. -/
def execVsub (st : BitVec 2) (d a b : BitVec 5) (p : BitVec 3) (m : BitVec 2) (s : State) : Answer :=
  issue (.vsub st d a b p m) anyLevel
    (vectorBody .lanes .byMode p (reps m) [d, a, b] rmOk anyOk (lanewise3 d a b (rounded subX (· - ·)).lane)) s

/-- R197 `vmul`; an integer product saturates where SATI = 1 (DESIGN CHOICE, log 102). -/
def execVmul (st : BitVec 2) (d a b : BitVec 5) (p : BitVec 3) (m : BitVec 2) (s : State) : Answer :=
  issue (.vmul st d a b p m) anyLevel
    (vectorBody .lanes .byMode p (reps m) [d, a, b] rmOk anyOk (lanewise3 d a b (rounded mulX (· * ·)).lane)) s

/-- R197 `vfma`. -/
def execVfma (st : BitVec 2) (d a b : BitVec 5) (p : BitVec 3) (m : BitVec 2) (s : State) : Answer :=
  issue (.vfma st d a b p m) anyLevel
    (vectorBody .lanes .byMode p (reps m) [d, a, b] fltOk anyOk (lanewise3 d a b fmaLane.lane)) s

/-- R197 `vmin`. -/
def execVmin (st : BitVec 2) (d a b : BitVec 5) (p : BitVec 3) (m : BitVec 2) (s : State) : Answer :=
  issue (.vmin st d a b p m) anyLevel
    (vectorBody .lanes .byMode p (reps m) [d, a, b] anyOk anyOk (lanewise3 d a b minLane.lane)) s

/-- R197 `vmax`. -/
def execVmax (st : BitVec 2) (d a b : BitVec 5) (p : BitVec 3) (m : BitVec 2) (s : State) : Answer :=
  issue (.vmax st d a b p m) anyLevel
    (vectorBody .lanes .byMode p (reps m) [d, a, b] anyOk anyOk (lanewise3 d a b maxLane.lane)) s

/-- R197 `vdiv`. -/
def execVdiv (st : BitVec 2) (d a b : BitVec 5) (p : BitVec 3) (m : BitVec 2) (s : State) : Answer :=
  issue (.vdiv st d a b p m) anyLevel
    (vectorBody .lanes .byMode p (reps m) [d, a, b] fltOk anyOk (lanewise3 d a b (rounded divX fun a _ => a).lane)) s

/-- R197 `vsqrt`. -/
def execVsqrt (st : BitVec 2) (d a : BitVec 5) (p : BitVec 3) (m : BitVec 2) (s : State) : Answer :=
  issue (.vsqrt st d a p m) anyLevel
    (vectorBody .lanes .byMode p (reps m) [d, a] fltOk anyOk (lanewise2 d a fun k a g => (rounded (fun x _ => sqrtX x) fun x _ => x).lane k a a a g)) s

/-- R197 `vexp2`. -/
def execVexp2 (st : BitVec 2) (d a : BitVec 5) (p : BitVec 3) (m : BitVec 2) (s : State) : Answer :=
  issue (.vexp2 st d a p m) anyLevel
    (vectorBody .lanes .byMode p (reps m) [d, a] (fun k => onlyF32 k && decide (k.rm ≤ 4)) anyOk (lanewise2 d a fun k a g => roundLane f32 k.rm (exp2X (f32.decode a), {}) g)) s

/-- R197 `vneg`. -/
def execVneg (st : BitVec 2) (d a : BitVec 5) (p : BitVec 3) (m : BitVec 2) (s : State) : Answer :=
  issue (.vneg st d a p m) anyLevel
    (vectorBody .lanes .byMode p (reps m) [d, a] anyOk anyOk (lanewise2 d a fun k a g => negLane.lane k a a a g)) s

/-- R197 `vabs`. -/
def execVabs (st : BitVec 2) (d a : BitVec 5) (p : BitVec 3) (m : BitVec 2) (s : State) : Answer :=
  issue (.vabs st d a p m) anyLevel
    (vectorBody .lanes .byMode p (reps m) [d, a] anyOk anyOk (lanewise2 d a fun k a g => absLane.lane k a a a g)) s

/-- R197 `vmulh`. -/
def execVmulh (st : BitVec 2) (d a b : BitVec 5) (p : BitVec 3) (m : BitVec 2) (s : State) : Answer :=
  issue (.vmulh st d a b p m) anyLevel
    (vectorBody .lanes .byMode p (reps m) [d, a, b] intOk anyOk (lanewise3 d a b mulhLane)) s

/-- R198 `vand`. -/
def execVand (st : BitVec 2) (d a b : BitVec 5) (p : BitVec 3) (m : BitVec 2) (s : State) : Answer :=
  issue (.vand st d a b p m) anyLevel
    (vectorBody .lanes .byMode p (reps m) [d, a, b] anyOk anyOk (lanewise3 d a b (rawLane fun _ a b => Nat.land a b))) s

/-- R198 `vor`. -/
def execVor (st : BitVec 2) (d a b : BitVec 5) (p : BitVec 3) (m : BitVec 2) (s : State) : Answer :=
  issue (.vor st d a b p m) anyLevel
    (vectorBody .lanes .byMode p (reps m) [d, a, b] anyOk anyOk (lanewise3 d a b (rawLane fun _ a b => Nat.lor a b))) s

/-- R198 `vxor`. -/
def execVxor (st : BitVec 2) (d a b : BitVec 5) (p : BitVec 3) (m : BitVec 2) (s : State) : Answer :=
  issue (.vxor st d a b p m) anyLevel
    (vectorBody .lanes .byMode p (reps m) [d, a, b] anyOk anyOk (lanewise3 d a b (rawLane fun _ a b => Nat.xor a b))) s

/-- R198 `vandn`. -/
def execVandn (st : BitVec 2) (d a b : BitVec 5) (p : BitVec 3) (m : BitVec 2) (s : State) : Answer :=
  issue (.vandn st d a b p m) anyLevel
    (vectorBody .lanes .byMode p (reps m) [d, a, b] anyOk anyOk (lanewise3 d a b (rawLane fun w a b => Nat.land a (2 ^ w - 1 - b)))) s

/-- R198 `vshl`. -/
def execVshl (st : BitVec 2) (d a b : BitVec 5) (p : BitVec 3) (m : BitVec 2) (s : State) : Answer :=
  issue (.vshl st d a b p m) anyLevel
    (vectorBody .lanes .byMode p (reps m) [d, a, b] intOk anyOk (lanewise3 d a b (rawLane fun w a b => a * 2 ^ (b % w)))) s

/-- R198 `vshr`. -/
def execVshr (st : BitVec 2) (d a b : BitVec 5) (p : BitVec 3) (m : BitVec 2) (s : State) : Answer :=
  issue (.vshr st d a b p m) anyLevel
    (vectorBody .lanes .byMode p (reps m) [d, a, b] intOk anyOk (lanewise3 d a b (rawLane fun w a b => a / 2 ^ (b % w)))) s

/-- R198 `vsra`. -/
def execVsra (st : BitVec 2) (d a b : BitVec 5) (p : BitVec 3) (m : BitVec 2) (s : State) : Answer :=
  issue (.vsra st d a b p m) anyLevel
    (vectorBody .lanes .byMode p (reps m) [d, a, b] intOk anyOk (lanewise3 d a b sraLane)) s

/-- R198 `vclz`. -/
def execVclz (st : BitVec 2) (d a : BitVec 5) (p : BitVec 3) (m : BitVec 2) (s : State) : Answer :=
  issue (.vclz st d a p m) anyLevel
    (vectorBody .lanes .byMode p (reps m) [d, a] intOk anyOk (lanewise2 d a fun k a g => (clzLane (8 * k.w) a, {}, g))) s

/-- R198 `vpopc`. -/
def execVpopc (st : BitVec 2) (d a : BitVec 5) (p : BitVec 3) (m : BitVec 2) (s : State) : Answer :=
  issue (.vpopc st d a p m) anyLevel
    (vectorBody .lanes .byMode p (reps m) [d, a] intOk anyOk (lanewise2 d a fun k a g => (popcLane (8 * k.w) a, {}, g))) s

/-- R199: the outcome of a comparison on lanes: floating, or integers by VT. -/
def laneCompare (ft : XVal → XVal → Bool) (it : Int → Int → Bool) (k : Ctl) (a b : Nat) : Bool :=
  match k.t with
  | .flt F => ft (F.decode a) (F.decode b)
  | .int sg w => it (readInt sg w a) (readInt sg w b)

/-- R199: a compare, repetition i writing predicate pd + i. Where that is its own governing predicate, the later repetitions keep the value
from its issue (R196; DESIGN CHOICE, log 102). -/
def compareLanes (d a b : BitVec 5) (f : Ctl → Nat → Nat → Bool) (k : Ctl) (s : State) (c : Context) : Res :=
  vectorDone s ((List.range k.reps).foldl (fun c' i =>
    let old := c'.pred (d.toNat + i)
    c'.setPred (d.toNat + i) (buildPred k.lanes fun j =>
      if k.active c j then f k (s.vlanes c (a.toNat + i) k.w j) (operandB k b c s i j)
      else old.getLsbD j && !k.zeroed c j)) c)

/-- R199 `vceq`. -/
def execVceq (st : BitVec 2) (d a b : BitVec 5) (p : BitVec 3) (m : BitVec 2) (s : State) : Answer :=
  issue (.vceq st d a b p m) anyLevel
    (vectorBody .lanes .byMode p (reps m) [a, b] anyOk anyOk (compareLanes d a b (laneCompare XVal.eq (· == ·)))) s

/-- R199 `vclt`. -/
def execVclt (st : BitVec 2) (d a b : BitVec 5) (p : BitVec 3) (m : BitVec 2) (s : State) : Answer :=
  issue (.vclt st d a b p m) anyLevel
    (vectorBody .lanes .byMode p (reps m) [a, b] anyOk anyOk (compareLanes d a b (laneCompare XVal.lt fun a b => decide (a < b)))) s

/-- R199 `vcle`. -/
def execVcle (st : BitVec 2) (d a b : BitVec 5) (p : BitVec 3) (m : BitVec 2) (s : State) : Answer :=
  issue (.vcle st d a b p m) anyLevel
    (vectorBody .lanes .byMode p (reps m) [a, b] anyOk anyOk (compareLanes d a b (laneCompare XVal.le fun a b => decide (a ≤ b)))) s

/-- R199 `vcun`. -/
def execVcun (st : BitVec 2) (d a b : BitVec 5) (p : BitVec 3) (m : BitVec 2) (s : State) : Answer :=
  issue (.vcun st d a b p m) anyLevel
    (vectorBody .lanes .byMode p (reps m) [a, b] (fun k => k.t.isFloat) anyOk (compareLanes d a b (laneCompare (fun a b => a.isNan || b.isNan) fun _ _ => false))) s

/-- R200: `vsel`: every lane below L', by the selector. -/
def selectLanes (d a b : BitVec 5) (k : Ctl) (s : State) (c : Context) : Res :=
  let sel := c.pred k.pg.toNat
  vectorDone ((List.range k.reps).foldl (fun s i =>
    s.setVlanes c (d.toNat + i) k.w ((List.range k.used).map fun j =>
      (j, if sel.getLsbD j then s.vlanes c (a.toNat + i) k.w j else operandB k b c s i j))) s) c

/-- R200 `vsel`. -/
def execVsel (st : BitVec 2) (d a b : BitVec 5) (p : BitVec 3) (m : BitVec 2) (s : State) : Answer :=
  issue (.vsel st d a b p m) anyLevel (vectorBody .len .always p (reps m) [d, a, b] anyOk anyOk (selectLanes d a b)) s

/-- R201: a predicate combined bit by bit below L'; the rest is cleared. -/
def predLogic (d a b : BitVec 5) (f : Bool → Bool → Bool) (k : Ctl) (s : State) (c : Context) : Res :=
  let x := c.pred a.toNat
  let y := c.pred b.toNat
  vectorDone s (c.setPred d.toNat (buildPred k.used fun j => f (x.getLsbD j) (y.getLsbD j)))

/-- R201 `pand`. -/
def execPand (st : BitVec 2) (d a b : BitVec 5) (s : State) : Answer :=
  issue (.pand st d a b) anyLevel (vectorBody .len .always 0 1 [] anyOk anyOk (predLogic d a b fun a b => a && b)) s

/-- R201 `por`. -/
def execPor (st : BitVec 2) (d a b : BitVec 5) (s : State) : Answer :=
  issue (.por st d a b) anyLevel (vectorBody .len .always 0 1 [] anyOk anyOk (predLogic d a b fun a b => a || b)) s

/-- R201 `pxor`. -/
def execPxor (st : BitVec 2) (d a b : BitVec 5) (s : State) : Answer :=
  issue (.pxor st d a b) anyLevel (vectorBody .len .always 0 1 [] anyOk anyOk (predLogic d a b fun a b => a != b)) s

/-- R201 `pandn`. -/
def execPandn (st : BitVec 2) (d a b : BitVec 5) (s : State) : Answer :=
  issue (.pandn st d a b) anyLevel (vectorBody .len .always 0 1 [] anyOk anyOk (predLogic d a b fun a b => a && !b)) s

/-- R201 `pnor`. -/
def execPnor (st : BitVec 2) (d a b : BitVec 5) (s : State) : Answer :=
  issue (.pnor st d a b) anyLevel (vectorBody .len .always 0 1 [] anyOk anyOk (predLogic d a b fun a b => !(a || b))) s

/-- R201 `pnand`. -/
def execPnand (st : BitVec 2) (d a b : BitVec 5) (s : State) : Answer :=
  issue (.pnand st d a b) anyLevel (vectorBody .len .always 0 1 [] anyOk anyOk (predLogic d a b fun a b => !(a && b))) s

/-- R201 `pnot`. -/
def execPnot (st : BitVec 2) (d a : BitVec 5) (s : State) : Answer :=
  issue (.pnot st d a) anyLevel (vectorBody .len .always 0 1 [] anyOk anyOk (predLogic d a a fun a _ => !a)) s

/-- R201 `pfill`. -/
def execPfill (st : BitVec 2) (d : BitVec 5) (s : State) : Answer :=
  issue (.pfill st d) anyLevel (vectorBody .len .always 0 1 [] anyOk anyOk (predLogic d 0 0 fun _ _ => true)) s

/-- R202: the set bits of a predicate below L'. -/
def setBits (k : Ctl) (c : Context) (a : BitVec 5) : List Nat := (List.range k.used).filter fun j => (c.pred a.toNat).getLsbD j

/-- R187: a main-file register written by a vector instruction. It is written at issue, so an older fixed-latency result still pending
lands over it, which no rule settles (DESIGN CHOICE, log 101). -/
def Context.writeX (c : Context) (d : BitVec 5) (v : Dword) : Context := c.write (d.zeroExtend 6) v

/-- R202: a main-file register from one predicate. -/
def predCount (d a : BitVec 5) (f : List Nat → Dword) (k : Ctl) (s : State) (c : Context) : Res :=
  vectorDone s (c.writeX d (f (setBits k c a)))

/-- R202 `vpcnt`. -/
def execVpcnt (st : BitVec 2) (d a : BitVec 5) (s : State) : Answer :=
  issue (.vpcnt st d a) anyLevel (vectorBody .len .always 0 1 [] anyOk anyOk (predCount d a fun l => .ofNat 64 l.length)) s

/-- R202 `vplo`. -/
def execVplo (st : BitVec 2) (d a : BitVec 5) (s : State) : Answer :=
  issue (.vplo st d a) anyLevel
    (vectorBody .len .always 0 1 [] anyOk anyOk (predCount d a fun l => (l.head?.map (BitVec.ofNat 64)).getD (-1))) s

/-- R202 `vphi`. -/
def execVphi (st : BitVec 2) (d a : BitVec 5) (s : State) : Answer :=
  issue (.vphi st d a) anyLevel
    (vectorBody .len .always 0 1 [] anyOk anyOk (predCount d a fun l => (l.getLast?.map (BitVec.ofNat 64)).getD (-1))) s

/-- R203: the source type of `vcvt`. -/
def Ctl.source (k : Ctl) : Option NumType := if 14 ≤ k.st then none else NumType.ofCode k.st

/-- R203: `vcvt`. -/
def convertLanes (d a : BitVec 5) (k : Ctl) (s : State) (c : Context) : Res :=
  match k.source with
  | none => vectorDone s c
  | some src =>
    k.repeat d.toNat (min k.lanes (512 / src.bytes)) (fun s i j g =>
      let (m, g) := if k.t.rounds src then drawMode k.rm g else (.rne, g)
      let (v, r) := k.t.convert src m (s.vlanes c (a.toNat + i) src.bytes j)
      (laneOfInt k.w v, r, g)) s c

/-- R203 `vcvt`: RM is named where the conversion rounds. -/
def execVcvt (st : BitVec 2) (d a : BitVec 5) (p : BitVec 3) (m : BitVec 2) (s : State) : Answer :=
  issue (.vcvt st d a p m) anyLevel
    (vectorBody .lanes .byMode p (reps m) [d, a] (fun k => k.source.isSome && decide (k.rm ≤ 4)) anyOk (convertLanes d a)) s

/-- R204 `vmov`. -/
def execVmov (st : BitVec 2) (d a : BitVec 5) (p : BitVec 3) (m : BitVec 2) (s : State) : Answer :=
  issue (.vmov st d a p m) anyLevel
    (vectorBody .lanes .byMode p (reps m) [d, a] anyOk anyOk
      (lanewise2 d a fun k v g => (if k.bx then k.scalar else v, {}, g))) s

/-- R204 `vbcast`. -/
def execVbcast (st : BitVec 2) (d : BitVec 5) (p : BitVec 3) (m : BitVec 2) (s : State) : Answer :=
  issue (.vbcast st d p m) anyLevel
    (vectorBody .lanes .byMode p (reps m) [d] anyOk anyOk fun k => k.repeat d.toNat k.lanes fun _ _ _ g => (k.scalar, {}, g)) s

/-- R204 `viota`. -/
def execViota (st : BitVec 2) (d : BitVec 5) (p : BitVec 3) (m : BitVec 2) (s : State) : Answer :=
  issue (.viota st d p m) anyLevel
    (vectorBody .lanes .byMode p (reps m) [d] intOk anyOk fun k =>
      k.repeat d.toNat k.lanes fun _ _ j g => (j % 2 ^ (8 * k.w), {}, g)) s

/-- R204: one lane of a register in a main-file register. -/
def moveLane (d a : BitVec 5) (k : Ctl) (s : State) (c : Context) : Res :=
  let v := s.vlanes c a.toNat k.w (bits k.o0 9 0)
  vectorDone s (c.writeX d (match k.t with
    | .int sg w => .ofInt 64 (readInt sg w v)
    | .flt _ => .ofNat 64 v))

/-- R204 `vmovx`. -/
def execVmovx (st : BitVec 2) (d a : BitVec 5) (p : BitVec 3) (s : State) : Answer :=
  issue (.vmovx st d a p) anyLevel
    (vectorBody .vt .never p 1 [a] anyOk (fun k => decide (k.o0.toNat < k.lanes)) (moveLane d a)) s

/-- R205 `vperm`. -/
def execVperm (st : BitVec 2) (d a b : BitVec 5) (p : BitVec 3) (m : BitVec 2) (s : State) : Answer :=
  issue (.vperm st d a b p m) anyLevel
    (vectorBody .lanes .byMode p (reps m) [d, a, b] anyOk anyOk fun k s c =>
      k.repeat d.toNat k.lanes (fun s i j g =>
        (s.vlanes c (a.toNat + i) k.w (s.vlanes c (b.toNat + i) k.w j % k.lanes), {}, g)) s c) s

/-- R205 `vslide`. -/
def execVslide (st : BitVec 2) (d a b : BitVec 5) (p : BitVec 3) (m : BitVec 2) (s : State) : Answer :=
  issue (.vslide st d a b p m) anyLevel
    (vectorBody .lanes .byMode p (reps m) [d, a, b] anyOk (fun k => decide (k.o0.toNat ≤ k.lanes)) fun k s c =>
      k.repeat d.toNat k.lanes (fun s i j g =>
        let q := j + k.o0.toNat
        (if q < k.lanes then s.vlanes c (a.toNat + i) k.w q else s.vlanes c (b.toNat + i) k.w (q - k.lanes), {}, g)) s c) s

/-- R205: `vcompress`. -/
def compressLanes (d a : BitVec 5) (k : Ctl) (s : State) (c : Context) : Res :=
  let src := (k.actives c).map (s.vlanes c a.toNat k.w)
  let rest := if k.pm = 2 then ((List.range k.used).drop src.length).map fun j => (j, 0) else []
  vectorDone (s.setVlanes c d.toNat k.w ((List.range src.length).zip src ++ rest)) c

/-- R205 `vcompress`. -/
def execVcompress (st : BitVec 2) (d a : BitVec 5) (p : BitVec 3) (s : State) : Answer :=
  issue (.vcompress st d a p) anyLevel (vectorBody .lanes .byMode p 1 [d, a] anyOk anyOk (compressLanes d a)) s

/-- R205: `vexpand`. -/
def expandLanes (d a : BitVec 5) (k : Ctl) (s : State) (c : Context) : Res :=
  let act := k.actives c
  let zeros := ((List.range k.used).filter (k.zeroed c)).map fun j => (j, 0)
  vectorDone (s.setVlanes c d.toNat k.w (act.zipIdx.map (fun p => (p.1, s.vlanes c a.toNat k.w p.2)) ++ zeros)) c

/-- R205 `vexpand`. -/
def execVexpand (st : BitVec 2) (d a : BitVec 5) (p : BitVec 3) (s : State) : Answer :=
  issue (.vexpand st d a p) anyLevel (vectorBody .lanes .byMode p 1 [d, a] anyOk anyOk (expandLanes d a)) s

/-- R206: `vred`: lane 0 is written whatever the predicate says. -/
def reduceLanes (d a : BitVec 5) (k : Ctl) (s : State) (c : Context) : Res :=
  let (s, c) := (List.range k.reps).foldl (fun (s, c) i =>
    let leaf := (List.range k.lanes).map fun j =>
      if k.active c j then redInput k (s.vlanes c (a.toNat + i) k.w j) else redIdentity k.t k.fn
    let (v, fl, g) := treeReduce k 10 leaf {} c.gen
    (s.setVlanes c (d.toNat + i) k.w [(0, v)], { c with gen := g }.raise fl)) (s, c)
  vectorDone s c

/-- R206 `vred`. -/
def execVred (st : BitVec 2) (d a : BitVec 5) (p : BitVec 3) (m : BitVec 2) (s : State) : Answer :=
  issue (.vred st d a p m) anyLevel (vectorBody .lanes .byMode p (reps m) [d, a] (redOk 6) anyOk (reduceLanes d a)) s

/-- R207: the running results of the active lanes, ascending, with inactive lanes as R195 gives. -/
def scanFrom (k : Ctl) (c : Context) (v : Nat → Nat) : List Nat → Nat → Raised → Dword → List (Nat × Nat) × Raised × Dword
  | [], _, fl, g => ([], fl, g)
  | j :: rest, acc, fl, g =>
    if k.active c j then
      let (r, fl', g) := redStep k acc (redInput k (v j)) g
      let (vs, fl, g) := scanFrom k c v rest r (fl.or fl') g
      ((j, r) :: vs, fl, g)
    else
      let (vs, fl, g) := scanFrom k c v rest acc fl g
      (if k.zeroed c j then (j, 0) :: vs else vs, fl, g)

/-- R207: `vscan`. -/
def scanLanes (d a : BitVec 5) (k : Ctl) (s : State) (c : Context) : Res :=
  let (s, c) := (List.range k.reps).foldl (fun (s, c) i =>
    let (vs, fl, g) := scanFrom k c (s.vlanes c (a.toNat + i) k.w) (List.range k.lanes) (redIdentity k.t k.fn) {} c.gen
    (s.setVlanes c (d.toNat + i) k.w vs, { c with gen := g }.raise fl)) (s, c)
  vectorDone s c

/-- R207 `vscan`. -/
def execVscan (st : BitVec 2) (d a : BitVec 5) (p : BitVec 3) (m : BitVec 2) (s : State) : Answer :=
  issue (.vscan st d a p m) anyLevel (vectorBody .lanes .byMode p (reps m) [d, a] (redOk 6) anyOk (scanLanes d a)) s

/-- R208: `vmatch`. -/
def matchLanes (d a b : BitVec 5) (k : Ctl) (s : State) (c : Context) : Res :=
  let key := s.vlanes c a.toNat k.w
  let val := s.vlanes c b.toNat k.w
  let act := k.actives c
  let leaders := act.filter fun j => !act.any fun i => decide (i < j) && key i == key j
  let (vs, fl, g) := leaders.foldl (fun (vs, fl, g) j =>
    let (v, fl, g) := (act.filter fun i => decide (j < i) && key i == key j).foldl (fun (acc, fl, g) i =>
      let (r, fl', g) := redStep k acc (val i) g
      (r, fl.or fl', g)) (val j, fl, g)
    (vs ++ [(j, v)], fl, g)) (([] : List (Nat × Nat)), ({} : Raised), c.gen)
  let others := if k.pm = 2 then ((List.range k.used).filter fun j => !leaders.contains j).map fun j => (j, 0) else []
  let s := s.setVlanes c d.toNat k.w (vs ++ others)
  vectorDone s (({ c with gen := g }.raise fl).setPred (bits k.o0 2 0) (buildPred k.lanes leaders.contains))

/-- R208 `vmatch`. -/
def execVmatch (st : BitVec 2) (d a b : BitVec 5) (p : BitVec 3) (s : State) : Answer :=
  issue (.vmatch st d a b p) anyLevel
    (vectorBody .lanes .byMode p 1 [d, a, b] (fun k => redOk 5 k && !k.bx) (fun k => decide (k.o0.toNat < 8))
      (matchLanes d a b)) s

/-- R213: `vqn4`. -/
def quantNq4 (d a : BitVec 5) (k : Ctl) (s : State) (c : Context) : Res :=
  let S := f32.decode (bits k.o0 31 0)
  let badS := S.special || S.lt .zero
  let row := s.core.accRow (c.vrow d.toNat)
  let (bytes, fl) := (k.actives c).foldl (fun (m, fl) j =>
    let x := f32.decode (s.vlanes c a.toNat 4 j)
    let (code, r) := if x.special || badS then (7, Raised.onlyNv)
      else nq4Code x S (if j < 64 then bits k.o0 39 32 else bits k.o0 47 40) j
    let old := ((m.find? fun (p : Nat × Nat) => p.1 == j / 2).map (·.2)).getD (rowLane row 1 (j / 2))
    let new := if j % 2 = 0 then old / 16 * 16 + code else old % 16 + code * 16
    ((j / 2, new) :: m.filter fun p => p.1 != j / 2, fl.or r)) (([] : List (Nat × Nat)), ({} : Raised))
  vectorDone (s.setVlanes c d.toNat 1 bytes) (c.raise fl)

/-- R213 `vqn4`. -/
def execVqn4 (st : BitVec 2) (d a : BitVec 5) (p : BitVec 3) (s : State) : Answer :=
  issue (.vqn4 st d a p) anyLevel
    (vectorBody .lanes .byMode p 1 [d, a] onlyF32 (fun k => bits k.o0 63 48 == 0) (quantNq4 d a)) s

/-- R214: one group of `vqe8`: its scale byte and eight codes. -/
def quantGroup (k : Ctl) (g : Nat) (x : List XVal) : Nat × List Nat × Raised :=
  if k.fn = 0 then l8EncodeGroup x
  else
    let sb := bits k.o0 (15 + 8 * g) (8 + 8 * g)
    if sb = 0xFF ∨ x.any XVal.special then (0xFF, List.replicate 8 0xFFFF, .onlyNv)
    else
      let ps := (List.range 8).map fun p => l8Point ((x.drop (8 * p)).take 8) ((sb : Int) - 127)
      (sb, ps.map (·.1), ps.foldl (fun (r : Raised) p => r.or p.2) {})

/-- R214: `vqe8`. -/
def quantL8 (d a : BitVec 5) (k : Ctl) (s : State) (c : Context) : Res :=
  let (bs, fl) := (List.range 2).foldl (fun (bs, fl) g =>
    let x := (List.range 64).map fun i =>
      if k.active c (64 * g + i) then f32.decode (s.vlanes c a.toNat 4 (64 * g + i)) else .zero
    let q := 2 * bits k.o0 2 0 + g
    let (sc, codes, r) := quantGroup k g x
    (bs ++ [(q, sc)] ++ codes.zipIdx.flatMap fun p =>
      [(16 + 16 * q + 2 * p.2, p.1 % 256), (16 + 16 * q + 2 * p.2 + 1, p.1 / 256)], fl.or r))
    (([] : List (Nat × Nat)), ({} : Raised))
  vectorDone (s.setVlanes c d.toNat 1 bs) (c.raise fl)

/-- R214: the bits of o0 that `vqe8` accepts. -/
def quantL8Operand (k : Ctl) : Bool :=
  if k.fn = 0 then decide (k.o0.toNat < 8) else bits k.o0 63 24 == 0 && bits k.o0 7 3 == 0

/-- R214 `vqe8`. -/
def execVqe8 (st : BitVec 2) (d a : BitVec 5) (p : BitVec 3) (s : State) : Answer :=
  issue (.vqe8 st d a p) anyLevel
    (vectorBody .lanes .byMode p 1 [d, a] (fun k => onlyF32 k && decide (k.fn ≤ 1)) quantL8Operand (quantL8 d a)) s

/-- R215: FMT of the control word as a block-scaled format: element, block length, scale. -/
def Ctl.block (k : Ctl) : Option (Fmt × Nat × ScaleType) :=
  match PageFmt.ofCode (bits k.o1 46 40) with
  | some (.block e l st) => some (e, l, st)
  | _ => none

/-- R215: the limits on o0. -/
def dotOperand (k : Ctl) : Bool :=
  match k.block with
  | none => true
  | some (e, l, _) =>
    let n := bits k.o0 15 0
    bits k.o0 63 48 == 0 && n != 0 && decide (n ≤ 32 * l) && decide (32 + (n * e.width + 7) / 8 ≤ 512)

/-- R88, R215: an exact sum of products, with NV for ∞ × 0 and ∞ − ∞ among them. -/
def dotTerms (ps : List (XVal × XVal)) : XVal × Raised :=
  let prods := ps.map fun p => mulX p.1 p.2
  let total := XVal.sum (prods.map (·.1))
  (total, (prods.foldl (fun (r : Raised) p => r.or p.2) {}).or (invalid (prods.map (·.1)) total))

/-- R215, R88: the block-scaled dot product of two frames given by byte. -/
def dotBlocks (e : Fmt) (l : Nat) (st : ScaleType) (n : Nat) (ra rb : Nat → Nat) (ta tb : XVal) : Nat × Raised :=
  let pf : PageFmt := .block e l st
  let elem (r : Nat → Nat) (i : Nat) : XVal :=
    let v := r (pf.codeOffset i)
    e.decode (if e.width = 4 then nibble v i else v)
  let block (b : Nat) : XVal × Raised :=
    let (p, fl) := dotTerms (((span (b * l) l).filter (· < n)).map fun i => (elem ra i, elem rb i))
    let sc := mulX (st.value (ra b)) (st.value (rb b))
    let r := mulX p sc.1
    (f32.round .rne r.1, (fl.or sc.2).or r.2)
  let bs := (List.range ((n + l - 1) / l)).map block
  let (t, fl) := match bs with
    | [] => (XVal.zero, ({} : Raised))
    | b :: rest => rest.foldl (fun (t, fl) (x : XVal × Raised) => let r := addX t x.1; (f32.round .rne r.1, (fl.or x.2).or r.2)) b
  let x := mulX ta tb
  let y := mulX t x.1
  ((f32.encode .rne y.1).1, (fl.or x.2).or y.2)

/-- R215: `vdotb`. -/
def dotProduct (d a b : BitVec 5) (k : Ctl) (s : State) (c : Context) : Res :=
  match k.block with
  | none => vectorDone s c
  | some (e, l, st) =>
    let (v, fl) := dotBlocks e l st (bits k.o0 15 0) (s.vlanes c a.toNat 1) (s.vlanes c b.toNat 1)
      (bf16.decode (bits k.o0 31 16)) (bf16.decode (bits k.o0 47 32))
    vectorDone s ((c.raise { nv := fl.nv }).writeX d (.ofNat 64 v))

/-- R215 `vdotb`. -/
def execVdotb (st : BitVec 2) (d a b : BitVec 5) (p : BitVec 3) (s : State) : Answer :=
  issue (.vdotb st d a b p) anyLevel
    (vectorBody .nothing .never p 1 [a, b] (fun k => k.block.isSome) dotOperand (dotProduct d a b)) s

/-- R217: `vfence`. -/
def waitVectors (_ : Ctl) (s : State) (c : Context) : Res := if c.vbusy ≠ 0 then .wait c else .done s c

/-- R217 `vfence`. -/
def execVfence (st : BitVec 2) (s : State) : Answer :=
  issue (.vfence st) anyLevel (vectorBody .nothing .always 0 1 [] anyOk anyOk waitVectors) s

/-- R189, R216: a vector instruction of the slot completes, once the queue to `ll` holds every retire record posted: those past its 16
places wait for room at the vector unit. -/
def execVectorComplete (slot : Bool) (s : State) : Answer :=
  .next (match s.ctx slot with
    | some c => if c.vbusy = 0 ∨ Config.cmdQueueDepth < s.queuedTo 7 then s else s.setCtx slot (some { c with vbusy := c.vbusy - 1 })
    | none => s)

end Sys2Proof.Machine
end

