-- ==== Sys2Proof/Machine/VectorMem.lean ====
section
/-! DEFINITION. Vector memory instructions and `vstop`: R209 to R212, R216. -/

namespace Sys2Proof.Machine

/-- R209, R211: the control word of a memory instruction: the stored type, its lane types, the rounding of a decoding store. -/
def memoryOk (store : Bool) (k : Ctl) : Bool :=
  decide (k.st ≤ 5) &&
  (k.st == 0 || decide (k.t = .flt f64 ∨ k.t = .flt f32 ∨ k.t = .flt f16 ∨ k.t = .flt bf16)) &&
  !(store && k.st != 0 && (4 < k.rm || (4 ≤ k.st && k.rm != 0)))

/-- R196: the repetitions of an instruction's own effect, each a load or a store of its own, with the markers they meet (R150). -/
abbrev MemRun := State × Context × List (Cause × Dword)

/-- A memory instruction's answer. -/
def MemRun.res (r : MemRun) : Res := .bound r.1 r.2.1.issuedVector r.2.2

/-- R139: the queue entries an instruction's repetitions take. -/
def vectorReady (s : State) (c : Context) (store : Bool) (entries : Nat) (sp : Space) (as : List Nat) : Bool :=
  if store then s.storeReady s.core.active c sp as && decide (s.storesHeld s.core.active c + entries ≤ Config.queueDepth)
  else s.loadReady s.core.active c sp as && decide (c.lq.length + entries ≤ Config.queueDepth) && !s.loadWaits c sp as

/-- R209 for a raw span of n bytes whose bound has been checked: alignment, space, translation. -/
def checkRaw (s : State) (c : Context) (h : Handle) (off : Dword) (w n : Nat) (need : Need) : Check (List Nat × List Leaf) :=
  let va := span (h.va off).toNat n
  if h.space = .sync ∨ off.toNat % w ≠ 0 then failed .align (h.va off)
  else match h.space with
    | .code => refuseCode s (s.threadByte s.core.active) (s.partOf c.launch) need va (h.va off)
    | .global => mapBytes s (s.threadByte s.core.active) (s.partOf c.launch) need va
    | _ => .ok (va, [])

/-- The handle entry of HS. -/
def Ctl.handle (k : Ctl) (s : State) (c : Context) (off : Dword) : Check Handle :=
  readHandle s (s.threadByte s.core.active) (s.access c.launch) k.hs (c.slotIndex k.hs) off

/-- R209, R12: the byte offset or element index at which repetition i begins, exact. -/
def Ctl.start (k : Ctl) (i : Nat) : Nat := k.o0.toNat + i * k.used * (if k.st = 0 then k.w else 1)

/-- R212, R12: the byte offset or element index of a lane by its index u, exact. -/
def Ctl.indexed (k : Ctl) (u : Nat) : Nat := k.o0.toNat + u * (if k.st = 0 then k.w else 1)

/-- R42 check 3 for an exact offset; one above 64 bits lies past every bound. -/
def checkExact (s : State) (ac : Access) (h : Handle) (slot off n : Nat) : Check Unit :=
  if 2 ^ 64 ≤ off then failed .bound (boundValue slot (.ofNat 64 off)) else checkBound s ac h slot (.ofNat 64 off) n

/-- R210, R211: the checks of a raw access, step by step over the repetitions. -/
def checkRawRuns (k : Ctl) (s : State) (c : Context) (h : Handle) (need : Need) : Check (List (List Nat) × List Leaf) := do
  let n := k.used * k.w
  let starts := (List.range k.reps).map k.start
  starts.forM fun off => checkExact s (s.access c.launch) h k.hs off n
  starts.foldlM (init := (([] : List (List Nat)), ([] : List Leaf))) (fun acc off => do
    let (as, ls) ← checkRaw s c h (.ofNat 64 off) k.w n need
    .ok (acc.1 ++ [as], acc.2 ++ ls))

/-- R212: the checks of a raw gather or scatter, lane by lane; with no active lane, R209's alignment and space alone, on o0. -/
def checkRawLanes (k : Ctl) (s : State) (c : Context) (h : Handle) (need : Need) (offs : List Nat) :
    Check (List (List Nat) × List Leaf) := do
  if offs.isEmpty then
    let _ ← checkRaw s c h k.o0 k.w 0 need
  offs.foldlM (init := (([] : List (List Nat)), ([] : List Leaf))) (fun acc off => do
    checkExact s (s.access c.launch) h k.hs off k.w
    let (as, ls) ← checkRaw s c h (.ofNat 64 off) k.w k.w need
    .ok (acc.1 ++ [as], acc.2 ++ ls))

/-- The w addresses, or bytes, of lane j of a span. -/
def laneAddrs {α : Type} (as : List α) (w j : Nat) : List α := (as.drop (w * j)).take w

/-- The markers a vector access meets, with one more. -/
def MemRun.add (s : State) (c : Context) (mets : List (Cause × Dword)) (met : Option Cause) (va : Dword) : MemRun :=
  (s, c.pushLoad (.held c.serial), mets ++ metAt met va)

/-- R210, R150: raw lanes loaded into a register: the active lanes, each with its addresses; 0 in all where one met a marker. -/
def loadRaw (k : Ctl) (h : Handle) (ls : List Leaf) (d : Nat) (lanes : List (Nat × List Nat)) (va : Dword) (zeros : List Nat)
    (r : MemRun) : MemRun :=
  let (s, c, mets) := r
  let (bs, met, s') := bindLoad s s.core.active c.serial h.space h.policy (s.sectorLook (lanes.flatMap (·.2)))
    (s.poolLine (s.partOf c.launch) ls) (lanes.flatMap (·.2))
  let vs := lanes.zipIdx.map fun p => (p.1.1, if met.isSome then 0 else leNat (laneAddrs bs k.w p.2))
  MemRun.add (s'.setVlanes c d k.w (vs ++ zeros.map fun j => (j, 0))) c mets met va

/-- R195: the lanes PM = 2 writes 0. -/
def Ctl.zeroLanes (k : Ctl) (c : Context) : List Nat := (List.range k.used).filter (k.zeroed c)

/-- R210: a raw `vld`. -/
def vldRaw (k : Ctl) (d : BitVec 5) (h : Handle) (s : State) (c : Context) : Res :=
  (checkRawRuns k s c h .read).orTrap fun (runs, ls) =>
    if !vectorReady s c false k.reps h.space runs.flatten then .wait c
    else
      let c := s.spendMark s.core.active c
      let s := s.holdLeaves (s.partOf c.launch) ls
      (runs.zipIdx.foldl (fun r p =>
        loadRaw k h ls (d.toNat + p.2) ((k.actives c).map fun j => (j, laneAddrs p.1 k.w j)) (h.va (.ofNat 64 (k.start p.2)))
          (k.zeroLanes c) r)
        ((s, c, []) : MemRun)).res

/-- The stored type that ST names. -/
def Ctl.stored (k : Ctl) : Stored := (Stored.ofCode (k.st - 1)).getD .nq4

/-- R210: decoded lanes loaded into a register: each active lane with its element. -/
def loadElems (k : Ctl) (e : Elems) (d : Nat) (lanes : List (Nat × Nat)) (va : Dword) (zeros : List Nat) (r : MemRun) : MemRun :=
  let (s, c, mets) := r
  let offs := ((lanes.filter fun p => !e.handle.past p.2).flatMap fun p => e.fmt.bytesOf p.2).eraseDups
  let (bs, met, s') := bindLoad s s.core.active c.serial .global e.handle.policy (s.sectorLook (offs.map e.addr))
    (s.poolLine (s.partOf c.launch) e.leaves) (offs.map e.addr)
  let rd := readerOf (offs.zip bs)
  let value (i : Nat) : Nat :=
    if met.isSome ∨ e.handle.past i then 0
    else match k.t with
      | .flt F => (F.encode .rne (e.fmt.decodeElem e.scale rd i)).1
      | .int .. => 0
  MemRun.add (s'.setVlanes c d k.w (lanes.map (fun p => (p.1, value p.2)) ++ zeros.map fun j => (j, 0))) c mets met va

/-- R443: the checks of a decoding vector access of the elements given. -/
def checkVectorElems (k : Ctl) (s : State) (c : Context) (h : Handle) (off : Dword) (store : Bool) (touch : PageFmt → List Nat) :
    Check Elems :=
  checkElems s (s.threadByte s.core.active) (s.access c.launch) h k.hs off k.stored store true touch

/-- R210: the elements of repetition i, by lane. -/
def Ctl.elemsOf (k : Ctl) (i : Nat) (lanes : List Nat) : List (Nat × Nat) :=
  lanes.map fun j => (j, k.start i + j)

/-- The address a decoding load reports: its first element's. -/
def elemsVa (e : Elems) (lanes : List (Nat × Nat)) : Dword :=
  .ofNat 64 (e.handle.base + ((lanes.head?.map fun p => e.fmt.codeOffset p.2).getD 0))

/-- R210: a decoding `vld`. -/
def vldElems (k : Ctl) (d : BitVec 5) (h : Handle) (s : State) (c : Context) : Res :=
  let all := ((List.range k.reps).flatMap fun i => (k.elemsOf i (List.range k.used)).map (·.2)).filter fun i => !h.past i
  (checkVectorElems k s c h k.o0 false fun pf => all.flatMap pf.bytesOf).orTrap fun e =>
    if !vectorReady s c false k.reps .global (e.addrs.map (·.2)) then .wait c
    else
      let c := s.spendMark s.core.active c
      let s := s.holdLeaves (s.partOf c.launch) e.leaves
      ((List.range k.reps).foldl (fun r i =>
        let lanes := k.elemsOf i (k.actives c)
        loadElems k e (d.toNat + i) lanes (elemsVa e lanes) (k.zeroLanes c) r) ((s, c, []) : MemRun)).res

/-- R210: `vld`. -/
def vectorLoad (d : BitVec 5) (k : Ctl) (s : State) (c : Context) : Res :=
  (k.handle s c k.o0).orTrap fun h => if k.st = 0 then vldRaw k d h s c else vldElems k d h s c

/-- R210 `vld`. -/
def execVld (st : BitVec 2) (d : BitVec 5) (p : BitVec 3) (m : BitVec 2) (s : State) : Answer :=
  issue (.vld st d p m) anyLevel (vectorBody .lanes .byMode p (reps m) [d] (memoryOk false) (fun _ => true) (vectorLoad d)) s

/-- A store of bytes of the thread, if there are any. -/
def pushStore (h : Handle) (ls : List Leaf) (bytes : List (Nat × Byte)) (r : MemRun) : MemRun :=
  let (s, c, met) := r
  if bytes.isEmpty then r
  else (s.setSq s.core.active (s.sq s.core.active ++ [c.entry h.space.memory h.policy bytes none false
      (s.poolLines (s.partOf c.launch) ls (bytes.map (·.1)))]),
    { c with serial := c.serial + 1 }, met)

/-- R211: a raw `vst`. -/
def vstRaw (k : Ctl) (d : BitVec 5) (h : Handle) (s : State) (c : Context) : Res :=
  (checkRawRuns k s c h .write).orTrap fun (runs, ls) =>
    if !vectorReady s c true k.reps h.space runs.flatten then .wait c
    else
      let c := s.spendMark s.core.active c
      let v := s
      (runs.zipIdx.foldl (fun r p =>
        pushStore h ls ((k.actives c).flatMap fun j =>
          (laneAddrs p.1 k.w j).zip (leBytes k.w (v.vlanes c (d.toNat + p.2) k.w j))) r)
        ((s.holdLeaves (s.partOf c.launch) ls, c, []) : MemRun)).res

/-- R211: a lane's value as it is stored: rounded to FP32 first for NQ4 and L8. -/
def Ctl.storedValue (k : Ctl) (v : Nat) : XVal :=
  match k.t with
  | .flt F => if 4 ≤ k.st then f32.round .rne (F.decode v) else F.decode v
  | .int .. => .zero

/-- A decoding store added to what a marker met. -/
def MemRun.place (k : Ctl) (e : Elems) (xs : List (Nat × XVal)) (r : MemRun) : MemRun :=
  if xs.isEmpty then r
  else
    let (s, c, mets) := placeElems e k.rm xs r.1 r.2.1
    (s, c, r.2.2 ++ mets)

/-- R211, R82: a decoding `vst`: the elements of every repetition are one decoding store, in which whole blocks are judged. -/
def vstElems (k : Ctl) (d : BitVec 5) (h : Handle) (s : State) (c : Context) : Res :=
  let runs := (List.range k.reps).map fun i => k.elemsOf i (k.actives c)
  (checkVectorElems k s c h k.o0 true fun pf => (pf.reached h.elen (runs.flatten.map (·.2))).flatMap pf.bytesOf).orTrap fun e =>
    if !s.editReady s.core.active c (e.addrs.map (·.2)) then .wait c
    else
      let c := s.spendMark s.core.active c
      let v := s
      let xs := runs.zipIdx.flatMap fun p => p.1.map fun q => (q.2, k.storedValue (v.vlanes c (d.toNat + p.2) k.w q.1))
      (MemRun.place k e xs (s.holdLeaves (s.partOf c.launch) e.leaves, c, [])).res

/-- R211: `vst`. -/
def vectorStore (d : BitVec 5) (k : Ctl) (s : State) (c : Context) : Res :=
  (k.handle s c k.o0).orTrap fun h => if k.st = 0 then vstRaw k d h s c else vstElems k d h s c

/-- R211 `vst`. -/
def execVst (st : BitVec 2) (d : BitVec 5) (p : BitVec 3) (m : BitVec 2) (s : State) : Answer :=
  issue (.vst st d p m) anyLevel (vectorBody .lanes .byMode p (reps m) [d] (memoryOk true) (fun _ => true) (vectorStore d)) s

/-- R212: o0 is a multiple of the lane width for a raw access: checked as each lane's offset, R209. -/
def Ctl.gathered (k : Ctl) (s : State) (c : Context) (b : BitVec 5) : List (Nat × Nat) :=
  (k.actives c).map fun j => (j, k.indexed (s.vlanes c b.toNat k.w j))

/-- R212, R443: the checks of a decoding gather or scatter, lane by lane, then of all together. -/
def checkLaneElems (k : Ctl) (s : State) (c : Context) (h : Handle) (store : Bool) (is : List Nat) : Check Elems := do
  let touch (i : Nat) (pf : PageFmt) : List Nat :=
    if store then (pf.reached h.elen [i]).flatMap pf.bytesOf else if h.past i then [] else pf.bytesOf i
  is.forM fun i => do let _ ← checkVectorElems k s c h (.ofNat 64 i) store (touch i)
  checkVectorElems k s c h k.o0 store fun pf => is.flatMap fun i => touch i pf

/-- The offset the handle checks of a gather or scatter report: its first lane's. -/
def firstOffset (k : Ctl) (lanes : List (Nat × Nat)) : Dword := .ofNat 64 ((lanes.head?.map (·.2)).getD k.o0.toNat)

/-- R212: `vldg`. -/
def vectorGather (d b : BitVec 5) (k : Ctl) (s : State) (c : Context) : Res :=
  let lanes := k.gathered s c b
  (k.handle s c (firstOffset k lanes)).orTrap fun h =>
    if k.st = 0 then
      (checkRawLanes k s c h .read (lanes.map (·.2))).orTrap fun (runs, ls) =>
        if !vectorReady s c false 1 h.space runs.flatten then .wait c
        else
          let c := s.spendMark s.core.active c
          let hit := (lanes.zip runs).find? fun p => (s.loadMeets h.space h.policy (s.sectorLook runs.flatten)
            (s.unforwarded s.core.active c.serial h.space p.2)).isSome
          let va := h.va ((hit.map fun p => .ofNat 64 p.1.2).getD (firstOffset k lanes))
          (loadRaw k h ls d.toNat ((lanes.map (·.1)).zip runs) va (k.zeroLanes c)
            (s.holdLeaves (s.partOf c.launch) ls, c, [])).res
    else
      let es := lanes
      (checkLaneElems k s c h false (es.map (·.2))).orTrap fun e =>
        if !vectorReady s c false 1 .global (e.addrs.map (·.2)) then .wait c
        else
          let c := s.spendMark s.core.active c
          (loadElems k e d.toNat es (elemsVa e es) (k.zeroLanes c)
            (s.holdLeaves (s.partOf c.launch) e.leaves, c, [])).res

/-- R212 `vldg`. -/
def execVldg (st : BitVec 2) (d b : BitVec 5) (p : BitVec 3) (s : State) : Answer :=
  issue (.vldg st d b p) anyLevel (vectorBody .lanes .byMode p 1 [d, b] (memoryOk false) (fun _ => true) (vectorGather d b)) s

/-- R212: `vstg`: lanes in ascending order. -/
def vectorScatter (d b : BitVec 5) (k : Ctl) (s : State) (c : Context) : Res :=
  let lanes := k.gathered s c b
  let v := s
  (k.handle s c (firstOffset k lanes)).orTrap fun h =>
    if k.st = 0 then
      (checkRawLanes k s c h .write (lanes.map (·.2))).orTrap fun (runs, ls) =>
        if !vectorReady s c true 1 h.space runs.flatten then .wait c
        else
          let c := s.spendMark s.core.active c
          (pushStore h ls ((lanes.zip runs).flatMap fun p => p.2.zip (leBytes k.w (v.vlanes c d.toNat k.w p.1.1)))
            ((s.holdLeaves (s.partOf c.launch) ls, c, []) : MemRun)).res
    else
      (checkLaneElems k s c h true (lanes.map (·.2))).orTrap fun e =>
        if !s.editReady s.core.active c (e.addrs.map (·.2)) then .wait c
        else
          let c := s.spendMark s.core.active c
          (lanes.foldl (fun r q => MemRun.place k e [(q.2, k.storedValue (v.vlanes c d.toNat k.w q.1))] r)
            ((s.holdLeaves (s.partOf c.launch) e.leaves, c, []) : MemRun)).res

/-- R212 `vstg`. -/
def execVstg (st : BitVec 2) (d b : BitVec 5) (p : BitVec 3) (s : State) : Answer :=
  issue (.vstg st d b p) anyLevel (vectorBody .lanes .byMode p 1 [d, b] (memoryOk true) (fun _ => true) (vectorScatter d b)) s

/-! `vstop` (R216). -/

/-- R216: the lanes below 128 that are active, with their tokens and sequence slots. -/
def stopLanes (k : Ctl) (s : State) (c : Context) (a b : BitVec 5) : List (Nat × Nat × Nat) :=
  (k.actives c).map fun j => (j, s.vlanes c a.toNat 4 j, s.vlanes c b.toNat 4 j)

/-- R216: the addresses of every active lane's entry. -/
def checkStops (k : Ctl) (s : State) (c : Context) (h : Handle) (lanes : List (Nat × Nat × Nat)) :
    Check (List (List Nat) × List Leaf) :=
  lanes.foldlM (init := (([] : List (List Nat)), ([] : List Leaf))) (fun acc p => do
    let off : Dword := .ofNat 64 (64 * p.2.2)
    checkBound s (s.access c.launch) h k.hs off 64
    let (as, ls) ← checkRaw s c h off 4 64 .read
    .ok (acc.1 ++ [as], acc.2 ++ ls))

/-- R216: the command that carries a retire record. -/
def retireCmd (iss : Issuer) (after order : Nat) (r : RetireRec) : Cmd := ⟨7, iss, none, [0], 0, after, false, some r, order, []⟩

/-- R216, R189: a lane's test against its entry, whose read binds and brings in lines as a load's does: the state after it, the hit, and
what the read of a line of it met, with the line's virtual address. -/
def stopTest (s : State) (c : Context) (h : Handle) (ls : List Leaf) (tok : Nat) (off : Nat) (as : List Nat) :
    State × Bool × Option (Cause × Dword) :=
  let pool := s.poolLine (s.partOf c.launch) ls
  let (bs, _, s') := bindLoad s s.core.active c.serial h.space h.policy (s.sectorLook as) pool as
  let rest := s.unforwarded s.core.active c.serial h.space as
  let met := (as.zipIdx.filter fun p => rest.contains p.1).findSome? fun p =>
    (s.loadMeets h.space h.policy (s.sectorLook as) [p.1]).map fun m => (m, BitVec.ofNat 64 (lineOf (h.base + off + p.2)))
  let toks := (List.range 16).map fun i => leNat ((bs.drop (4 * i)).take 4)
  (s', met.isNone && tok != 0xFFFFFFFF && toks.contains tok, met)

/-- R216: the tests of the lanes, in order, each with the addresses of its entry: the state after them, and each lane's hit and marker. -/
def stopTests (s : State) (c : Context) (h : Handle) (ls : List Leaf) (ps : List ((Nat × Nat × Nat) × List Nat)) :
    State × List ((Nat × Nat × Nat) × Bool × Option (Cause × Dword)) :=
  ps.foldl (fun r p =>
    let (s', t) := stopTest r.1 c h ls p.1.2.1 (64 * p.1.2.2) p.2
    (s', r.2 ++ [(p.1, t)])) (s, [])

/-- R216: `vstop`. -/
def stopTokens (d a b : BitVec 5) (k : Ctl) (s : State) (c : Context) : Res :=
  let lanes := stopLanes k s c a b
  (k.handle s c (.ofNat 64 ((lanes.head?.map fun p => 64 * p.2.2).getD 0))).orTrap fun h =>
    (checkStops k s c h lanes).orTrap fun (runs, ls) =>
      if !vectorReady s c false 1 h.space runs.flatten then .wait c
      else
        let c := s.spendMark s.core.active c
        let (s, tests) := stopTests s c h ls (lanes.zip runs)
        let hits := (tests.filter fun t => t.2.1).map (·.1)
        let old := c.pred d.toNat
        let c' := c.setPred d.toNat (buildPred 128 fun j =>
          if k.active c j then hits.any fun p => p.1 == j else old.getLsbD j && !k.zeroed c j)
        let met := tests.findSome? (·.2.2)
        let cmds := hits.zipIdx.map fun p =>
          retireCmd (s.issuer c) c.serial (s.eng.sends + p.2) ⟨p.1.2.2, .ofNat 32 p.1.2.1, c.lid, p.1.1, 1⟩
        let s := s.holdLeaves (s.partOf c.launch) ls
        let s : State := { s with eng := { s.eng with cmds := s.eng.cmds ++ cmds, sends := s.eng.sends + cmds.length } }
        MemRun.res (s, c'.pushLoad (.held c.serial), met.toList)

/-- R216: the partition has a Lamplighter partition context. -/
def State.serving (s : State) (part : Nat) : Bool := s.eng.ll.any (·.part == part)

/-- R216: `vstop` in a partition without a partition context faults ILLOP. -/
def stopOrIllop (st : BitVec 2) (d a b : BitVec 5) (p : BitVec 3) (s : State) (c : Context) : Res :=
  if !s.serving (s.partOf c.launch) then .trap .illop (.ofNat 64 ((encode (.vstop st d a b p)).headD 0))
  else vectorBody .lanes .byMode p 1 [a, b] (fun k => k.t = .int false 32) (fun _ => true) (stopTokens d a b) s c

/-- R216 `vstop`. -/
def execVstop (st : BitVec 2) (d a b : BitVec 5) (p : BitVec 3) (s : State) : Answer :=
  issue (.vstop st d a b p) anyLevel (stopOrIllop st d a b p) s

end Sys2Proof.Machine
end

