-- ==== Sys2Proof/Machine/Dispatch.lean ====
section
/-! DEFINITION. The one dispatch over instructions: every row of the opcode table, and its meaning. -/

namespace Sys2Proof.Machine

/-- The meaning of an instruction, engine word, operation or event. -/
def exec (i : Instr) (s : State) : Host.Outcome State Fault Refusal :=
  match i with
  | .add st d a b => Sys2Proof.Machine.execAdd st d a b s
  | .sub st d a b => Sys2Proof.Machine.execSub st d a b s
  | .and st d a b => Sys2Proof.Machine.execAnd st d a b s
  | .or st d a b => Sys2Proof.Machine.execOr st d a b s
  | .xor st d a b => Sys2Proof.Machine.execXor st d a b s
  | .andn st d a b => Sys2Proof.Machine.execAndn st d a b s
  | .shl st d a b => Sys2Proof.Machine.execShl st d a b s
  | .shr st d a b => Sys2Proof.Machine.execShr st d a b s
  | .sra st d a b => Sys2Proof.Machine.execSra st d a b s
  | .rotr st d a b => Sys2Proof.Machine.execRotr st d a b s
  | .min st d a b => Sys2Proof.Machine.execMin st d a b s
  | .max st d a b => Sys2Proof.Machine.execMax st d a b s
  | .minn st d a b => Sys2Proof.Machine.execMinn st d a b s
  | .maxn st d a b => Sys2Proof.Machine.execMaxn st d a b s
  | .seq st d a b => Sys2Proof.Machine.execSeq st d a b s
  | .sne st d a b => Sys2Proof.Machine.execSne st d a b s
  | .slt st d a b => Sys2Proof.Machine.execSlt st d a b s
  | .sltn st d a b => Sys2Proof.Machine.execSltn st d a b s
  | .sle st d a b => Sys2Proof.Machine.execSle st d a b s
  | .slen st d a b => Sys2Proof.Machine.execSlen st d a b s
  | .adds st d a b => Sys2Proof.Machine.execAdds st d a b s
  | .subs st d a b => Sys2Proof.Machine.execSubs st d a b s
  | .clz st d a => Sys2Proof.Machine.execClz st d a s
  | .ctz st d a => Sys2Proof.Machine.execCtz st d a s
  | .popc st d a => Sys2Proof.Machine.execPopc st d a s
  | .bswap st d a => Sys2Proof.Machine.execBswap st d a s
  | .sxb st d a => Sys2Proof.Machine.execSxb st d a s
  | .sxh st d a => Sys2Proof.Machine.execSxh st d a s
  | .sxw st d a => Sys2Proof.Machine.execSxw st d a s
  | .zxb st d a => Sys2Proof.Machine.execZxb st d a s
  | .zxh st d a => Sys2Proof.Machine.execZxh st d a s
  | .zxw st d a => Sys2Proof.Machine.execZxw st d a s
  | .sel st d a b => Sys2Proof.Machine.execSel st d a b s
  | .addi st d a imm => Sys2Proof.Machine.execAddi st d a imm s
  | .andi st d a imm => Sys2Proof.Machine.execAndi st d a imm s
  | .ori st d a imm => Sys2Proof.Machine.execOri st d a imm s
  | .xori st d a imm => Sys2Proof.Machine.execXori st d a imm s
  | .shli st d a imm => Sys2Proof.Machine.execShli st d a imm s
  | .shri st d a imm => Sys2Proof.Machine.execShri st d a imm s
  | .srai st d a imm => Sys2Proof.Machine.execSrai st d a imm s
  | .slti st d a imm => Sys2Proof.Machine.execSlti st d a imm s
  | .sltni st d a imm => Sys2Proof.Machine.execSltni st d a imm s
  | .li st d imm => Sys2Proof.Machine.execLi st d imm s
  | .lhi st d a imm => Sys2Proof.Machine.execLhi st d a imm s
  | .addl st d a imm => Sys2Proof.Machine.execAddl st d a imm s
  | .mul st d a b => Sys2Proof.Machine.execMul st d a b s
  | .mulh st d a b => Sys2Proof.Machine.execMulh st d a b s
  | .mulhn st d a b => Sys2Proof.Machine.execMulhn st d a b s
  | .div st d a b => Sys2Proof.Machine.execDiv st d a b s
  | .divn st d a b => Sys2Proof.Machine.execDivn st d a b s
  | .rem st d a b => Sys2Proof.Machine.execRem st d a b s
  | .remn st d a b => Sys2Proof.Machine.execRemn st d a b s
  | .fadd st t d a b r => Sys2Proof.Machine.execFadd st t d a b r s
  | .fsub st t d a b r => Sys2Proof.Machine.execFsub st t d a b r s
  | .fmul st t d a b r => Sys2Proof.Machine.execFmul st t d a b r s
  | .fdiv st t d a b r => Sys2Proof.Machine.execFdiv st t d a b r s
  | .fsqrt st t d a r => Sys2Proof.Machine.execFsqrt st t d a r s
  | .fmin st t d a b => Sys2Proof.Machine.execFmin st t d a b s
  | .fmax st t d a b => Sys2Proof.Machine.execFmax st t d a b s
  | .fma st t d a b r => Sys2Proof.Machine.execFma st t d a b r s
  | .feq st d a b t => Sys2Proof.Machine.execFeq st d a b t s
  | .flt st d a b t => Sys2Proof.Machine.execFlt st d a b t s
  | .fle st d a b t => Sys2Proof.Machine.execFle st d a b t s
  | .fun st d a b t => Sys2Proof.Machine.execFun st d a b t s
  | .fclass st d a t => Sys2Proof.Machine.execFclass st d a t s
  | .fneg st d a t => Sys2Proof.Machine.execFneg st d a t s
  | .fabs st d a t => Sys2Proof.Machine.execFabs st d a t s
  | .cvt st d a e u r => Sys2Proof.Machine.execCvt st d a e u r s
  | .br st imm => Sys2Proof.Machine.execBr st imm s
  | .beqz st a imm => Sys2Proof.Machine.execBeqz st a imm s
  | .bnez st a imm => Sys2Proof.Machine.execBnez st a imm s
  | .bltz st a imm => Sys2Proof.Machine.execBltz st a imm s
  | .bgez st a imm => Sys2Proof.Machine.execBgez st a imm s
  | .bgtz st a imm => Sys2Proof.Machine.execBgtz st a imm s
  | .blez st a imm => Sys2Proof.Machine.execBlez st a imm s
  | .call st a imm => Sys2Proof.Machine.execCall st a imm s
  | .jr st a => Sys2Proof.Machine.execJr st a s
  | .jalr st d a => Sys2Proof.Machine.execJalr st d a s
  | .loop st a imm => Sys2Proof.Machine.execLoop st a imm s
  | .endl st => Sys2Proof.Machine.execEndl st s
  | .yield st => Sys2Proof.Machine.execYield st s
  | .eret st => Sys2Proof.Machine.execEret st s
  | .tend st => Sys2Proof.Machine.execTend st s
  | .hget st d n => Sys2Proof.Machine.execHget st d n s
  | .nop st => Sys2Proof.Machine.execNop st s
  | .lexit st => Sys2Proof.Machine.execLexit st s
  | .sget st d imm => Sys2Proof.Machine.execSget st d imm s
  | .sset st a imm => Sys2Proof.Machine.execSset st a imm s
  | .hset st d a imm => Sys2Proof.Machine.execHset st d a imm s
  | .trap st imm => Sys2Proof.Machine.execTrap st imm s
  | .xsendi st e w0 w1 => Sys2Proof.Machine.execXsendi st e w0 w1 s
  | .xsend st e a b => Sys2Proof.Machine.execXsend st e a b s
  | .xsendw st e a b => Sys2Proof.Machine.execXsendw st e a b s
  | .xseq st e a => Sys2Proof.Machine.execXseq st e a s
  | .xwait st e a => Sys2Proof.Machine.execXwait st e a s
  | .xsendm st e a h imm => Sys2Proof.Machine.execXsendm st e a h imm s
  | .ldI64 st d a h imm => Sys2Proof.Machine.execLdI64 st d a h imm s
  | .ldI32 st d a h imm => Sys2Proof.Machine.execLdI32 st d a h imm s
  | .stI64 st d a h imm => Sys2Proof.Machine.execStI64 st d a h imm s
  | .stI32 st d a h imm => Sys2Proof.Machine.execStI32 st d a h imm s
  | .ldI8 st d n b => Sys2Proof.Machine.execLdI8 st d n b s
  | .ldN8 st d n b => Sys2Proof.Machine.execLdN8 st d n b s
  | .ldI16 st d n b => Sys2Proof.Machine.execLdI16 st d n b s
  | .ldN16 st d n b => Sys2Proof.Machine.execLdN16 st d n b s
  | .ldI32Reg st d n b => Sys2Proof.Machine.execLdI32Reg st d n b s
  | .ldN32 st d n b => Sys2Proof.Machine.execLdN32 st d n b s
  | .ldI64Reg st d n b => Sys2Proof.Machine.execLdI64Reg st d n b s
  | .stI8 st d n b => Sys2Proof.Machine.execStI8 st d n b s
  | .stI16 st d n b => Sys2Proof.Machine.execStI16 st d n b s
  | .stI32Reg st d n b => Sys2Proof.Machine.execStI32Reg st d n b s
  | .stI64Reg st d n b => Sys2Proof.Machine.execStI64Reg st d n b s
  | .ldAcqN32 st d n b c => Sys2Proof.Machine.execLdAcqN32 st d n b c s
  | .ldAcqI64 st d n b c => Sys2Proof.Machine.execLdAcqI64 st d n b c s
  | .stRelI32 st d n b c => Sys2Proof.Machine.execStRelI32 st d n b c s
  | .stRelI64 st d n b c => Sys2Proof.Machine.execStRelI64 st d n b c s
  | .mark st c => Sys2Proof.Machine.execMark st c s
  | .pfDc st n b => Sys2Proof.Machine.execPfDc st n b s
  | .pfLlc st n b => Sys2Proof.Machine.execPfLlc st n b s
  | .dld st d n b t u => Sys2Proof.Machine.execDld st d n b t u s
  | .dst st d n b t r => Sys2Proof.Machine.execDst st d n b t r s
  | .tld st d n b k => Sys2Proof.Machine.execTld st d n b k s
  | .tst st d n b k => Sys2Proof.Machine.execTst st d n b k s
  | .cpub st d n b c => Sys2Proof.Machine.execCpub st d n b c s
  | .cinv st d n b c => Sys2Proof.Machine.execCinv st d n b c s
  | .ifence st => Sys2Proof.Machine.execIfence st s
  | .cprobe st d a h imm => Sys2Proof.Machine.execCprobe st d a h imm s
  | .aswp st d n b w => Sys2Proof.Machine.execAswp st d n b w s
  | .aadd st d n b w => Sys2Proof.Machine.execAadd st d n b w s
  | .aand st d n b w => Sys2Proof.Machine.execAand st d n b w s
  | .aor st d n b w => Sys2Proof.Machine.execAor st d n b w s
  | .axor st d n b w => Sys2Proof.Machine.execAxor st d n b w s
  | .amin st d n b w => Sys2Proof.Machine.execAmin st d n b w s
  | .amax st d n b w => Sys2Proof.Machine.execAmax st d n b w s
  | .aminn st d n b w => Sys2Proof.Machine.execAminn st d n b w s
  | .amaxn st d n b w => Sys2Proof.Machine.execAmaxn st d n b w s
  | .acas st d n b w => Sys2Proof.Machine.execAcas st d n b w s
  | .afadd st d n b w => Sys2Proof.Machine.execAfadd st d n b w s
  | .barrive st d n b => Sys2Proof.Machine.execBarrive st d n b s
  | .bwait st d n b => Sys2Proof.Machine.execBwait st d n b s
  | .btest st d n b => Sys2Proof.Machine.execBtest st d n b s
  | .rres st d n b => Sys2Proof.Machine.execRres st d n b s
  | .rpost st d n b => Sys2Proof.Machine.execRpost st d n b s
  | .rwfree st d n b => Sys2Proof.Machine.execRwfree st d n b s
  | .rtfree st d n b => Sys2Proof.Machine.execRtfree st d n b s
  | .rtake st d n b => Sys2Proof.Machine.execRtake st d n b s
  | .rfree st d n b => Sys2Proof.Machine.execRfree st d n b s
  | .rwfill st d n b => Sys2Proof.Machine.execRwfill st d n b s
  | .rtfill st d n b => Sys2Proof.Machine.execRtfill st d n b s
  | .vadd st d a b p m => Sys2Proof.Machine.execVadd st d a b p m s
  | .vsub st d a b p m => Sys2Proof.Machine.execVsub st d a b p m s
  | .vmul st d a b p m => Sys2Proof.Machine.execVmul st d a b p m s
  | .vfma st d a b p m => Sys2Proof.Machine.execVfma st d a b p m s
  | .vmin st d a b p m => Sys2Proof.Machine.execVmin st d a b p m s
  | .vmax st d a b p m => Sys2Proof.Machine.execVmax st d a b p m s
  | .vdiv st d a b p m => Sys2Proof.Machine.execVdiv st d a b p m s
  | .vsqrt st d a p m => Sys2Proof.Machine.execVsqrt st d a p m s
  | .vexp2 st d a p m => Sys2Proof.Machine.execVexp2 st d a p m s
  | .vneg st d a p m => Sys2Proof.Machine.execVneg st d a p m s
  | .vabs st d a p m => Sys2Proof.Machine.execVabs st d a p m s
  | .vcvt st d a p m => Sys2Proof.Machine.execVcvt st d a p m s
  | .vmulh st d a b p m => Sys2Proof.Machine.execVmulh st d a b p m s
  | .vdotb st d a b p => Sys2Proof.Machine.execVdotb st d a b p s
  | .vqe8 st d a p => Sys2Proof.Machine.execVqe8 st d a p s
  | .vqn4 st d a p => Sys2Proof.Machine.execVqn4 st d a p s
  | .vand st d a b p m => Sys2Proof.Machine.execVand st d a b p m s
  | .vor st d a b p m => Sys2Proof.Machine.execVor st d a b p m s
  | .vxor st d a b p m => Sys2Proof.Machine.execVxor st d a b p m s
  | .vandn st d a b p m => Sys2Proof.Machine.execVandn st d a b p m s
  | .vshl st d a b p m => Sys2Proof.Machine.execVshl st d a b p m s
  | .vshr st d a b p m => Sys2Proof.Machine.execVshr st d a b p m s
  | .vsra st d a b p m => Sys2Proof.Machine.execVsra st d a b p m s
  | .vclz st d a p m => Sys2Proof.Machine.execVclz st d a p m s
  | .vpopc st d a p m => Sys2Proof.Machine.execVpopc st d a p m s
  | .vceq st d a b p m => Sys2Proof.Machine.execVceq st d a b p m s
  | .vclt st d a b p m => Sys2Proof.Machine.execVclt st d a b p m s
  | .vcle st d a b p m => Sys2Proof.Machine.execVcle st d a b p m s
  | .vcun st d a b p m => Sys2Proof.Machine.execVcun st d a b p m s
  | .vsel st d a b p m => Sys2Proof.Machine.execVsel st d a b p m s
  | .pand st d a b => Sys2Proof.Machine.execPand st d a b s
  | .por st d a b => Sys2Proof.Machine.execPor st d a b s
  | .pxor st d a b => Sys2Proof.Machine.execPxor st d a b s
  | .pandn st d a b => Sys2Proof.Machine.execPandn st d a b s
  | .pnor st d a b => Sys2Proof.Machine.execPnor st d a b s
  | .pnand st d a b => Sys2Proof.Machine.execPnand st d a b s
  | .pnot st d a => Sys2Proof.Machine.execPnot st d a s
  | .pfill st d => Sys2Proof.Machine.execPfill st d s
  | .vpcnt st d a => Sys2Proof.Machine.execVpcnt st d a s
  | .vplo st d a => Sys2Proof.Machine.execVplo st d a s
  | .vphi st d a => Sys2Proof.Machine.execVphi st d a s
  | .vmov st d a p m => Sys2Proof.Machine.execVmov st d a p m s
  | .vbcast st d p m => Sys2Proof.Machine.execVbcast st d p m s
  | .viota st d p m => Sys2Proof.Machine.execViota st d p m s
  | .vmovx st d a p => Sys2Proof.Machine.execVmovx st d a p s
  | .vperm st d a b p m => Sys2Proof.Machine.execVperm st d a b p m s
  | .vslide st d a b p m => Sys2Proof.Machine.execVslide st d a b p m s
  | .vcompress st d a p => Sys2Proof.Machine.execVcompress st d a p s
  | .vexpand st d a p => Sys2Proof.Machine.execVexpand st d a p s
  | .vred st d a p m => Sys2Proof.Machine.execVred st d a p m s
  | .vscan st d a p m => Sys2Proof.Machine.execVscan st d a p m s
  | .vmatch st d a b p => Sys2Proof.Machine.execVmatch st d a b p s
  | .vstop st d a b p => Sys2Proof.Machine.execVstop st d a b p s
  | .vfence st => Sys2Proof.Machine.execVfence st s
  | .vld st d p m => Sys2Proof.Machine.execVld st d p m s
  | .vst st d p m => Sys2Proof.Machine.execVst st d p m s
  | .vldg st d b p => Sys2Proof.Machine.execVldg st d b p s
  | .vstg st d b p => Sys2Proof.Machine.execVstg st d b p s
  | .engPush v => Sys2Proof.Machine.execEngPush v s
  | .engLit8 n => Sys2Proof.Machine.execEngLit8 n s
  | .engShl n => Sys2Proof.Machine.execEngShl n s
  | .engPick n => Sys2Proof.Machine.execEngPick n s
  | .mset f => Sys2Proof.Machine.execMset f s
  | .mfmt b a => Sys2Proof.Machine.execMfmt b a s
  | .mtr t => Sys2Proof.Machine.execMtr t s
  | .mcos c => Sys2Proof.Machine.execMcos c s
  | .mlev l => Sys2Proof.Machine.execMlev l s
  | .mstr g => Sys2Proof.Machine.execMstr g s
  | .mepi e => Sys2Proof.Machine.execMepi e s
  | .mgo st => Sys2Proof.Machine.execMgo st s
  | .mstat c => Sys2Proof.Machine.execMstat c s
  | .mgrp g => Sys2Proof.Machine.execMgrp g s
  | .msfm f => Sys2Proof.Machine.execMsfm f s
  | .msds g => Sys2Proof.Machine.execMsds g s
  | .fget e r h => Sys2Proof.Machine.execFget e r h s
  | .fwarm h => Sys2Proof.Machine.execFwarm h s
  | .aget w h => Sys2Proof.Machine.execAget w h s
  | .apin w h => Sys2Proof.Machine.execApin w h s
  | .aunpin h => Sys2Proof.Machine.execAunpin h s
  | .aalloc h => Sys2Proof.Machine.execAalloc h s
  | .apub h => Sys2Proof.Machine.execApub h s
  | .aabort h => Sys2Proof.Machine.execAabort h s
  | .wclaim h => Sys2Proof.Machine.execWclaim h s
  | .wstat h => Sys2Proof.Machine.execWstat h s
  | .wlaunch h => Sys2Proof.Machine.execWlaunch h s
  | .yarv p => Sys2Proof.Machine.execYarv p s
  | .yred o h => Sys2Proof.Machine.execYred o h s
  | .yadd w h => Sys2Proof.Machine.execYadd w h s
  | .lret c => Sys2Proof.Machine.execLret c s
  | .lhold h => Sys2Proof.Machine.execLhold h s
  | .lstat h => Sys2Proof.Machine.execLstat h s
  | .lseq h => Sys2Proof.Machine.execLseq h s
  | .engNop => Sys2Proof.Machine.execEngNop s
  | .engDup => Sys2Proof.Machine.execEngDup s
  | .engDrop => Sys2Proof.Machine.execEngDrop s
  | .engSwap => Sys2Proof.Machine.execEngSwap s
  | .engOver => Sys2Proof.Machine.execEngOver s
  | .engCat => Sys2Proof.Machine.execEngCat s
  | .engAdd => Sys2Proof.Machine.execEngAdd s
  | .engSub => Sys2Proof.Machine.execEngSub s
  | .engMul => Sys2Proof.Machine.execEngMul s
  | .engAnd => Sys2Proof.Machine.execEngAnd s
  | .engOr => Sys2Proof.Machine.execEngOr s
  | .mswp => Sys2Proof.Machine.execMswp s
  | .mcpy => Sys2Proof.Machine.execMcpy s
  | .mrst => Sys2Proof.Machine.execMrst s
  | .mgeo => Sys2Proof.Machine.execMgeo s
  | .msra => Sys2Proof.Machine.execMsra s
  | .msrb => Sys2Proof.Machine.execMsrb s
  | .mdst => Sys2Proof.Machine.execMdst s
  | .mssr => Sys2Proof.Machine.execMssr s
  | .mbsf => Sys2Proof.Machine.execMbsf s
  | .mtsc => Sys2Proof.Machine.execMtsc s
  | .mzero => Sys2Proof.Machine.execMzero s
  | .msave => Sys2Proof.Machine.execMsave s
  | .mload => Sys2Proof.Machine.execMload s
  | .mgclr => Sys2Proof.Machine.execMgclr s
  | .msar => Sys2Proof.Machine.execMsar s
  | .msdb => Sys2Proof.Machine.execMsdb s
  | .frel => Sys2Proof.Machine.execFrel s
  | .fdrop => Sys2Proof.Machine.execFdrop s
  | .wrel => Sys2Proof.Machine.execWrel s
  | .wstop => Sys2Proof.Machine.execWstop s
  | .wdrain => Sys2Proof.Machine.execWdrain s
  | .ccopy st d => Sys2Proof.Machine.execCcopy st d s
  | .c2d st d => Sys2Proof.Machine.execC2d st d s
  | .cfill d => Sys2Proof.Machine.execCfill d s
  | .cgath st d => Sys2Proof.Machine.execCgath st d s
  | .cscat st d => Sys2Proof.Machine.execCscat st d s
  | .czip st d => Sys2Proof.Machine.execCzip st d s
  | .cunz st d => Sys2Proof.Machine.execCunz st d s
  | .cdf st d => Sys2Proof.Machine.execCdf st d s
  | .crput st => Sys2Proof.Machine.execCrput st s
  | .crget d => Sys2Proof.Machine.execCrget d s
  | .crred st => Sys2Proof.Machine.execCrred st s
  | .lstep => Sys2Proof.Machine.execLstep s
  | .mxOperationComplete => Sys2Proof.Machine.execMxOperationComplete s
  | .fetchPinsTaken ctx => Sys2Proof.Machine.execFetchPinsTaken ctx s
  | .fetchComplete ctx => Sys2Proof.Machine.execFetchComplete ctx s
  | .fetchRelease ctx num => Sys2Proof.Machine.execFetchRelease ctx num s
  | .fwarmComplete ctx => Sys2Proof.Machine.execFwarmComplete ctx s
  | .adapterAction ctx => Sys2Proof.Machine.execAdapterAction ctx s
  | .localWalkComplete walk => Sys2Proof.Machine.execLocalWalkComplete walk s
  | .syOperationComplete ctx => Sys2Proof.Machine.execSyOperationComplete ctx s
  | .copyOperationStart eng ctx => Sys2Proof.Machine.execCopyOperationStart eng ctx s
  | .copyOperationComplete eng ctx => Sys2Proof.Machine.execCopyOperationComplete eng ctx s
  | .lstepResume part => Sys2Proof.Machine.execLstepResume part s
  | .retireRecord => Sys2Proof.Machine.execRetireRecord s
  | .llcmd part port words => Sys2Proof.Machine.execLlcmd part port words s
  | .resultLanding slot => Sys2Proof.Machine.execResultLanding slot s
  | .loadReturn slot idx fresh => Sys2Proof.Machine.execLoadReturn slot idx fresh s
  | .storePerformed slot => Sys2Proof.Machine.execStorePerformed slot s
  | .vectorComplete slot => Sys2Proof.Machine.execVectorComplete slot s
  | .fetchFill slot line => Sys2Proof.Machine.execFetchFill slot line s
  | .asyncEntry => Sys2Proof.Machine.execAsyncEntry s
  | .urgentPreemptionRequest slot => Sys2Proof.Machine.execUrgentPreemptionRequest slot s
  | .preemptlate slot => Sys2Proof.Machine.execPreemptlate slot s
  | .contextSave slot => Sys2Proof.Machine.execContextSave slot s
  | .contextRestore slot ctx => Sys2Proof.Machine.execContextRestore slot ctx s
  | .taskEndCounted launch task byFault => Sys2Proof.Machine.execTaskEndCounted launch task byFault s
  | .queueNotify part queue tail => Sys2Proof.Machine.execQueueNotify part queue tail s
  | .queueSlotRelease qslot => Sys2Proof.Machine.execQueueSlotRelease qslot s
  | .launchActivation qslot => Sys2Proof.Machine.execLaunchActivation qslot s
  | .dependencesMet launch => Sys2Proof.Machine.execDependencesMet launch s
  | .timeSliceEnd part => Sys2Proof.Machine.execTimeSliceEnd part s
  | .launchRetirement launch => Sys2Proof.Machine.execLaunchRetirement launch s
  | .wickTakeLaunch launch => Sys2Proof.Machine.execWickTakeLaunch launch s
  | .taskHandOff => Sys2Proof.Machine.execTaskHandOff s
  | .claimGrant launch cluster => Sys2Proof.Machine.execClaimGrant launch cluster s
  | .gangHandOff launch => Sys2Proof.Machine.execGangHandOff launch s
  | .taskStart slot => Sys2Proof.Machine.execTaskStart slot s
  | .drainComplete launch => Sys2Proof.Machine.execDrainComplete launch s
  | .arrival addr bytes poison src => Sys2Proof.Machine.execArrival addr bytes poison src s
  | .childFlip child phase poison => Sys2Proof.Machine.execChildFlip child phase poison s
  | .ringSpanApplied idx => Sys2Proof.Machine.execRingSpanApplied idx s
  | .waitSatisfied slot => Sys2Proof.Machine.execWaitSatisfied slot s
  | .syncSramError addr => Sys2Proof.Machine.execSyncSramError addr s
  | .homeRead word from_ => Sys2Proof.Machine.execHomeRead word from_ s
  | .homeRegistration word from_ mask data => Sys2Proof.Machine.execHomeRegistration word from_ mask data s
  | .homeWriteBack word from_ data => Sys2Proof.Machine.execHomeWriteBack word from_ data s
  | .forwardedRead word for_ => Sys2Proof.Machine.execForwardedRead word for_ s
  | .revoke word goal => Sys2Proof.Machine.execRevoke word goal s
  | .registrationAck word data => Sys2Proof.Machine.execRegistrationAck word data s
  | .lineEviction word => Sys2Proof.Machine.execLineEviction word s
  | .hostAccess port addr write data => Sys2Proof.Machine.execHostAccess port addr write data s
  | .hostLineWriteback port line data => Sys2Proof.Machine.execHostLineWriteback port line data s
  | .uncorrectableError line latent => Sys2Proof.Machine.execUncorrectableError line latent s
  | .sdreq part v => Sys2Proof.Machine.execSdreq part v s
  | .shootdownComplete part => Sys2Proof.Machine.execShootdownComplete part s
  | .agentDead module id => Sys2Proof.Machine.execAgentDead module id s
  | .snufferScrub line => Sys2Proof.Machine.execSnufferScrub line s
  | .pctl part v => Sys2Proof.Machine.execPctl part v s
  | .ptbase part v => Sys2Proof.Machine.execPtbase part v s
  | .swin part v => Sys2Proof.Machine.execSwin part v s
  | .sdesc part v => Sys2Proof.Machine.execSdesc part v s
  | .evring part v => Sys2Proof.Machine.execEvring part v s
  | .waymask part v => Sys2Proof.Machine.execWaymask part v s
  | .reclaimVisit part line => Sys2Proof.Machine.execReclaimVisit part line s
  | .reclaimComplete part => Sys2Proof.Machine.execReclaimComplete part s
  | .rgo part v => Sys2Proof.Machine.execRgo part v s
  | .clusterRelease part cluster => Sys2Proof.Machine.execClusterRelease part cluster s
  | .icreq part v => Sys2Proof.Machine.execIcreq part v s
  | .icreqComplete part => Sys2Proof.Machine.execIcreqComplete part s
  | .roleToMemoryOnly layer => Sys2Proof.Machine.execRoleToMemoryOnly layer s
  | .roleToCompute layer => Sys2Proof.Machine.execRoleToCompute layer s
  | .roleCancelDrain layer => Sys2Proof.Machine.execRoleCancelDrain layer s
  | .layerDrainEnd layer => Sys2Proof.Machine.execLayerDrainEnd layer s
  | .layerPowerUpComplete layer => Sys2Proof.Machine.execLayerPowerUpComplete layer s
  | .dead v => Sys2Proof.Machine.execDead v s
  | .hattach v => Sys2Proof.Machine.execHattach v s
  | .managementRegisterWrite off v => Sys2Proof.Machine.execManagementRegisterWrite off v s
  | .bwInterval queues => Sys2Proof.Machine.execBwInterval queues s
  | .islandFrequencyInterval readings watts => Sys2Proof.Machine.execIslandFrequencyInterval readings watts s
  | .heartbeatPeriod => Sys2Proof.Machine.execHeartbeatPeriod s
  | .hostHeartbeat port => Sys2Proof.Machine.execHostHeartbeat port s
  | .flitData link flit => Sys2Proof.Machine.execFlitData link flit s
  | .flitReadRequest link flit => Sys2Proof.Machine.execFlitReadRequest link flit s
  | .flitAcknowledgement link flit => Sys2Proof.Machine.execFlitAcknowledgement link flit s
  | .flitBarrierArrival link flit => Sys2Proof.Machine.execFlitBarrierArrival link flit s
  | .flitBarrierFlip link flit => Sys2Proof.Machine.execFlitBarrierFlip link flit s
  | .flitHeartbeat link flit => Sys2Proof.Machine.execFlitHeartbeat link flit s
  | .flitRefusal link flit => Sys2Proof.Machine.execFlitRefusal link flit s
  | .bringUp => Sys2Proof.Machine.execBringUp s
  | .reFlash image => Sys2Proof.Machine.execReFlash image s
  | .expansionDeviceLost port => Sys2Proof.Machine.execExpansionDeviceLost port s
  | .linkLoss link => Sys2Proof.Machine.execLinkLoss link s
  | .writeBackAcknowledgement word => Sys2Proof.Machine.execWriteBackAcknowledgement word s
  | .flitCheckCodeFailure link flit => Sys2Proof.Machine.execFlitCheckCodeFailure link flit s
  | .reservedEncoding w => Sys2Proof.Machine.execReservedEncoding w s
  | .unassignedEngineOpcode w => Sys2Proof.Machine.execUnassignedEngineOpcode w s

end Sys2Proof.Machine
end

