-- ==== Sys2Proof/Machine/Schedule.lean ====
section
/-! DEFINITION. What a step does: the issue of the instruction at pc (R108, R166), the turns of a script, the order taken where
there is none (log 2), and an instruction placed where it is fetched next. -/

namespace Sys2Proof.Machine

/-! Issue. -/

/-- What the active slot does this cycle. -/
inductive Front where
  /-- It holds no context, its context is stopped, or a change of slot is not over (R92): a cycle passes. -/
  | idle
  /-- A check of R166 fails: its cause and value. -/
  | fault (c : Context) (cause : Cause) (v : Dword)
  /-- The words at pc are no instruction (R108 step 1): a reserved encoding, or reserved bits of a known one. -/
  | reserved (s : State) (w : Word)
  | bits (s : State) (c : Context) (v : Dword)
  /-- The instruction at pc, in the state with its line held. -/
  | instr (s : State) (i : Instr)

/-- R108 step 1, R166: the fetch and decode of the instruction at pc. -/
def State.front (s : State) : Front :=
  match s.current with
  | none => .idle
  | some c =>
    if c.stopped ∨ s.core.now < s.core.busyTill then .idle
    else match fetchNext s c s.core.active with
      | .error (cause, v) => .fault c cause v
      | .ok (s', c', w, w2) =>
        let s' := s'.setCurrent (some c')
        match decodeSeq w.toNat w2.toNat with
        | .error .illop => .reserved s' w
        | .error (.illopd v) => .bits s' c' v
        | .ok i => .instr s' i

/-- The active slot issues. -/
def issueTurn (s : State) : Answer :=
  match s.front with
  | .idle => .next (s.tick 1)
  | .fault c cause v => .next (s.precise c cause v)
  | .reserved s w => execReservedEncoding w s
  | .bits s c v => .next (s.precise c .illopd v)
  | .instr s i => exec i s

/-! Turns of a script. -/

/-- An event of the table happens. An entry for a held cause comes with the issue of the instruction at pc, whose own
precise cause goes first (R133); an instruction or engine word is no event. -/
def eventTurn (e : Instr) (s : State) : Answer :=
  match e with
  | .asyncEntry => issueTurn s
  | e => if (encode e).isEmpty then exec e s else .next s

/-- R241, R343, R349: updates an engine makes before its running operation completes. -/
def workTurn (eng ctx n : Nat) (s : State) : State :=
  match eng with
  | 0 => s.mxAdvance n
  | 4 => syncAdvance n ctx s
  | 5 | 6 => copyAdvance n eng ctx s
  | _ => s

/-- R169, R172: what another core publishes or withdraws leaves this core's instruction cache where the scope covers it. -/
def published (line core : Nat) (sc : Scope) (s : State) : State :=
  if core ≠ s.core.id ∧ sc.covers core s.core.id then s.discardLines [lineOf line] else s

/-- R169: the copy of a line gives way to another. -/
def dropCode (line : Nat) (s : State) : State := { s with fab := { s.fab with icache := s.fab.icache.filter (·.line != lineOf line) } }

/-- R403, R404: another walk of a partition's page table for an address: the entries it reads are held. -/
def State.walkedTo (s : State) (part va : Nat) : State :=
  match translate s s.coherentByte part va with
  | .ok l => s.holdLeaves part [l]
  | .error _ => s

/-- What an agent outside does. -/
def outsideTurn (o : Outside) (s : State) : State :=
  match o with
  | .published line core sc => published line core sc s
  | .dropCode line => dropCode line s
  | .hostLine port line st => s.takeHostLine port line st
  | .hostError line error => s.hostAnswers line error
  | .cacheError line => s.cacheFails line
  | .walked part va => s.walkedTo part va
  | .restored ctx core => if restoreAwayReady ctx core s then restoreAway ctx core s else s
  | .returned ctx => returnContext ctx s

/-- One turn. -/
def turn (t : Turn) (s : State) : Answer :=
  match t with
  | .issue => issueTurn s
  | .event e => eventTurn e s
  | .word k => runCommand k s
  | .work eng ctx n => .next (workTurn eng ctx n s)
  | .pass n => .next (s.tick n)
  | .outside o => .next (outsideTurn o s)

/-! The order taken where the script is empty (log 2): what has been sent arrives, what can complete completes, what is ready
starts, and then the active slot issues. -/

/-- Words that commands have still to run, and commands. -/
def State.wordsLeft (s : State) : Nat := (s.eng.cmds.map fun k => k.words.length + 1).sum

/-- A command's next word, where it runs now. -/
def wordMove (k : Nat) (s : State) : Answer :=
  match runCommand k s with
  | .next t => .next (if t.wordsLeft < s.wordsLeft then t else s)
  | a => a

/-- The arrival of a message. -/
def messageMove (m : Msg) (s : State) : Answer :=
  match m with
  | .register w mask => execHomeRegistration w s.core.id mask 0 s
  | .ack w v _ => execRegistrationAck w (v.getD (s.fab.home w)) s
  | .writeBack w v => execHomeWriteBack w s.core.id v s
  | .wbAck w => execWriteBackAcknowledgement w s
  | .forward w who => execForwardedRead w who s
  | .revoke w goal _ => execRevoke w goal s
  | .arrive a n p src => execArrival a n p src s
  | .flip _ c ph p => execChildFlip c ph p s

/-- What a slot's context, its queues and its vector instructions do between issues. -/
def slotMoves (s : State) (slot : Bool) : List (State → Answer) :=
  ((List.range (((s.ctx slot).map (·.lq.length)).getD 0)).map fun k => execLoadReturn slot k true) ++
  [execResultLanding slot, execVectorComplete slot, execStorePerformed slot, execPreemptlate slot, execContextSave slot]

/-- What the engines do. -/
def engineMoves (s : State) : List (State → Answer) :=
  ((List.range s.eng.cmds.length).map wordMove) ++ [execMxOperationComplete] ++
  (s.eng.fetches.flatMap fun f => [execFetchPinsTaken f.iss.ctx, execFetchComplete f.iss.ctx, execFetchRelease f.iss.ctx f.num,
    execFwarmComplete f.iss.ctx]) ++
  (s.eng.adapt.map fun o => execAdapterAction o.iss.ctx) ++
  (s.wick.locals.map fun w => execLocalWalkComplete w.id) ++
  (s.eng.sy.map fun o => execSyOperationComplete o.iss.ctx) ++
  (s.eng.cp.flatMap fun o => [execCopyOperationStart o.eng o.iss.ctx, execCopyOperationComplete o.eng o.iss.ctx]) ++
  (s.eng.ll.map fun p => execLstepResume p.part) ++ [execRetireRecord] ++
  ((List.range s.sync.pend.length).map execRingSpanApplied)

/-- What the dispatcher, the Wick and the management window do. -/
def dispatcherMoves (s : State) : List (State → Answer) :=
  (s.disp.ending.map fun e => if (s.endingTask e.launch e.task e.byFault).isSome then execTaskEndCounted e.launch e.task e.byFault
    else fun s => .next s) ++
  (s.disp.launches.flatMap fun l => [execDrainComplete l.key, execLaunchRetirement l.key, execDependencesMet l.key,
    execWickTakeLaunch l.key, execGangHandOff l.key]) ++
  (s.disp.slots.flatMap fun h => [execLaunchActivation h.slot, execQueueSlotRelease h.slot]) ++
  (s.disp.saved.flatMap fun k => [execContextRestore false k.ctx, execContextRestore true k.ctx]) ++
  [execTaskHandOff, execTaskStart false, execTaskStart true] ++
  ((List.range Config.partCount).flatMap fun p => [execShootdownComplete p, execIcreqComplete p, execReclaimComplete p])

/-- Every such move, in the order they are tried. -/
def moves (s : State) : List (State → Answer) :=
  s.inflight.map messageMove ++ slotMoves s false ++ slotMoves s true ++ engineMoves s ++ dispatcherMoves s

/-- The first of some moves that changes the state. -/
def firstMove (s : State) : List (State → Answer) → Option State
  | [] => none
  | m :: ms => match m s with
    | .next t => if t = s then firstMove s ms else some t
    | _ => firstMove s ms

/-- A step with no script. -/
def defaultTurn (s : State) : Answer :=
  match firstMove s (moves s) with
  | some t => .next t
  | none => issueTurn s

/-! Placing an instruction (log 5). -/

/-- The physical lines that `placeCode` writes: three table entries, and the line of the instruction. -/
def placedLines : List Nat := [0x1000, 0x2000, 0x3000, 0x8000]

/-- A store-queue entry that touches none of those lines. -/
def StoreEntry.clear (e : StoreEntry) : Bool := e.bytes.all fun p => !placedLines.contains (lineOf p.1)

/-- The fabric with nothing of those lines anywhere but at the home, and no translation or fetch copy held. -/
def Fabric.clearPlaced (f : Fabric) : Fabric :=
  { f with
    dcache := f.dcache.filter fun c => !placedLines.contains (lineOf (4 * c.word))
    owners := f.owners.filter fun o => !placedLines.contains (lineOf (4 * o.1))
    icache := f.icache.filter fun k => !placedLines.contains k.line
    tlb := []
    poison := f.poison.filter (!placedLines.contains ·), lost := f.lost.filter (!placedLines.contains ·)
    latent := f.latent.filter (!placedLines.contains ·)
    hostErrs := f.hostErrs.filter (!placedLines.contains ·)
    waiting := f.waiting.filter fun w => w.bytes.all fun p => !placedLines.contains (lineOf p.1)
    hosts := f.hosts.filter fun h => !placedLines.contains (lineOf (64 * h.line)) }

/-- A sealed line (R162) with START bit 0 whose first two words are given, and the tables that map its page and itself. -/
def placedBytes (w w2 : Nat) : List (Nat × Byte) :=
  leWrites 0x1000 8 (0x2000 + 1) ++ leWrites 0x2000 8 (0x3000 + 1) ++ leWrites 0x3000 8 0x17 ++
  leWrites 0x8000 4 w ++ leWrites 0x8004 4 w2 ++ leWrites 0x8008 112 0 ++ leWrites 0x8078 4 (2 * 2 ^ 30 + 1) ++ leWrites 0x807C 4 0

/-- Memory with a sequencer instruction placed at virtual and physical 0x8000, which partition p maps. -/
def State.placeCode (s : State) (p w w2 : Nat) : State :=
  let fab := s.fab.clearPlaced
  let s' : State := { s with
    fab := { fab with mem := writeBytes (placedBytes w w2) fab.mem }
    core := { s.core with sq0 := s.core.sq0.filter (·.clear), sq1 := s.core.sq1.filter (·.clear) }
    mgmt := { s.mgmt with hbm := max s.mgmt.hbm 0x20000 }
    inflight := s.inflight.filter fun m => match m.word? with
      | some k => !placedLines.contains (lineOf (4 * k))
      | none => true }
  s'.mapPart p fun r => { r with ptbase := 0x1000, ptset := true }

/-- The launch whose task runs the placed instruction: the active context's own, if the dispatcher holds it; else one added with
that key, of partition 0. -/
def State.placeLaunch (s : State) (key : Nat) : State :=
  match s.launch key with
  | some l => if l.part < Config.partCount then s else s.mapLaunch key fun m => { m with part := 0 }
  | none => { s with disp := { s.disp with
      launches := { Launch.fresh key 0 0 0 0 none with st := .running } :: s.disp.launches } }

/-- A context at its start, for a slot that holds none. -/
def freshContext : Context :=
  Context.start (Launch.fresh 0 0 0 0 0 none) (.start ⟨0, 0, .lex, 1, 0, 0, [1]⟩ 0 []) ⟨0, none, 0, []⟩ 0 []

/-- The context that runs the placed instruction: the active one, or a fresh one, at the placed line, with nothing that would
keep it from issuing. -/
def State.placedContext (s : State) : Context :=
  { (s.current).getD freshContext with
    pc := 0x8000, fbuf := [], fill := none, reach := .other, stopped := false, held := [], waiting := none }

/-- The sequencer instruction of the words w and w2 placed where the next step fetches and runs it. -/
def State.withCode (s : State) (w w2 : Nat) : State :=
  let c := s.placedContext
  let s := s.placeLaunch c.launch
  let s := (s.placeCode (s.partOf c.launch) w w2).setCurrent (some c)
  { s with core := { s.core with busyTill := s.core.now }, script := .issue :: s.script }

/-- The first engine, in identifier order, that assigns the word, as `firstEngine` names it. -/
def placedEngine (w : Nat) : Nat :=
  if (decodeMx w).isSome ∨ w % 0x10000 < 0x1000 ∨ 0x8000 ≤ w % 0x10000 then 0
  else if (decodeTf w).isSome then 1
  else if (decodeAt w).isSome then 2
  else if (decodeWk w).isSome then 3
  else if (decodeSy w).isSome then 4
  else if 0x10 ≤ w / 256 % 256 ∧ w / 256 % 256 ≤ 0x1A ∧
      (w / 256 % 256 ∉ [0x12, 0x18, 0x19, 0x1A] ∨ w % 256 < 16) then 5
  else if (decodeLl w).isSome then 7
  else 0

/-- The engine word w placed as the next command that runs, at its engine, for the active context or a fresh one. -/
def State.withWord (s : State) (w : Nat) : State :=
  let c := (s.current).getD freshContext
  let i := s.issuer c
  let k : Cmd := ⟨placedEngine w, i, none, [.ofNat 16 w], 0, 0, true, none, 0, []⟩
  { s with
    eng := { s.eng with
      cmds := k :: s.eng.cmds
      fetches := s.eng.fetches.filter fun f => !(f.iss.ctx = i.ctx && !f.warm && f.stage == .waiting)
      ll := s.eng.ll.map fun p => if p.part = i.part then { p with waiting := none } else p }
    wick := { s.wick with locals := s.wick.locals.filter fun w => !(w.iss.ctx = i.ctx && w.waiting) }
    script := .word 0 :: s.script }

/-- An instruction whose bits are w placed so that the next step runs it. -/
def State.placeWord (s : State) (nbits w : Nat) : State :=
  if nbits ≤ 16 then s.withWord w else s.withCode (w % 2 ^ 32) (w / 2 ^ 32 % 2 ^ 32)

end Sys2Proof.Machine
end

