-- ==== Sys2Proof/Machine/Step.lean ====
section
/-! DEFINITION. The step of the machine. -/

namespace Sys2Proof.Machine

/-- One step: the script's next turn, or, with no script, the order of log 2. -/
def step (s : State) : Host.Outcome State Fault Refusal :=
  match s.script with
  | t :: r => turn t { s with script := r }
  | [] => defaultTurn s

/-- s with the instruction whose bits are w placed where the next step runs it (log 5). -/
def State.withFetchWord (s : State) (nbits w : Nat) : State := s.placeWord nbits w

end Sys2Proof.Machine
end

