-- ==== Sys2Proof/Safety.lean ====
section
/-! DEFINITION. What claims say of a run: a step that completes, an invariant that steps keep, the model's own invariants, and
when an instruction or an engine word has nothing before its own effect. -/

namespace Sys2Proof

open Machine

/-- The machine takes a step from s. -/
def Steps (s t : State) : Prop := step s = .next t

/-- A run of any length. -/
inductive Runs : State → State → Prop where
  | refl (s : State) : Runs s s
  | step {s t u : State} : Runs s t → Steps t u → Runs s u

/-- Every step from a state that has the property leads to one. -/
def Kept (inv : State → Prop) : Prop := ∀ s t, inv s → Steps s t → inv t

/-- Every sparse array is in canonical form: memory, scratchpad, sync space, accumulator and tile file. -/
def Machine.State.canonical (s : State) : Prop :=
  Memory.wf s.fab.mem = true ∧ Memory.wf s.core.scratch = true ∧ Memory.wf s.sync.sram = true ∧
  Memory.wf s.core.acc = true ∧ Memory.wf s.core.tile = true

/-- Home memory, the scratchpad and the sync space read the same at every address. -/
def sameBytes (s t : State) : Prop :=
  ∀ a, cellGet t.fab.mem a = cellGet s.fab.mem a ∧ cellGet t.core.scratch a = cellGet s.core.scratch a ∧
    cellGet t.sync.sram a = cellGet s.sync.sram a

/-- The context an instruction's own effect runs in: moved to the first landing where four results are pending (R100). -/
def Machine.Context.atIssue (c : Context) (i : Instr) : Context := c.limited i.form.lat

/-- Nothing stands before the own effect of a sequencer instruction: the active slot's context c may issue (R92), no window of
check mode is pending (R243), the operand fields are good (R108), no register it names awaits a load and no result is held up by one (R99), check mode finds no
breach (R138), in an `sset` once the results it waits for have landed (R126), and no held cause is due (R133). A privileged form asks for its privilege beside this. -/
structure Issues (i : Instr) (s : State) (c : Context) : Prop where
  active : s.current = some c
  running : c.stopped = false
  slotReady : s.core.busyTill ≤ s.core.now
  windows : s.windowsPending c = false
  fields : i.form.fault = none
  free : c.interlocked (i.form.readCodes ++ i.form.writeCodes) = false
  landed : (Instr.settled i (c.atIssue i)).heldUp = false
  schedule : bit c.chk 0 = false ∨ (Instr.settled i (c.atIssue i)).stallBreach i.form = none
  notDue : c.held = [] ∨ c.prv.emask = true

/-- The state once an instruction has issued from context c: c' is the context its effect left, pc and how say where the next
instruction lies; cycles, bank losses and deficits have moved as R96, R98 and R35 say. -/
def afterIssue (i : Instr) (c : Context) (s' : State) (c' : Context) (pc : Dword) (how : Reach) : State :=
  s'.issued i.form c { c'.passed i.form with pc := pc, reach := how, waiting := none }

/-- The instruction completes: exec answers the next state that its own effect r gives; the asynchronous causes of markers that a
load met as it issued are raised after it (R150). -/
def Finishes (i : Instr) (s : State) (c : Context) (r : Res) : Prop :=
  match r with
  | .done s' c' => exec i s = .next (afterIssue i c s' c' (nseq c.pc i.form.words) .fall)
  | .bound s' c' mets => exec i s = .next (mets.foldl (fun t m => t.asyncFault s.core.active m.1 m.2)
      (afterIssue i c s' c' (nseq c.pc i.form.words) .fall))
  | .goto s' c' pc how => exec i s = .next (afterIssue i c s' c' pc how)
  | .boundary s' c' pc how change => exec i s = .next ((afterIssue i c s' c' pc how).atBoundary change s.core.now)
  | .left s' | .entered s' => exec i s = .next s'
  | .trap _ _ | .wait _ => False

/-- From every state in which nothing stands before it and its own conditions hold, the instruction completes with the effect. -/
def Completes (i : Instr) (ready : State → Context → Prop) (effect : State → Context → Res) : Prop :=
  ∀ s c, Issues i s c → ready s (c.atIssue i) → Finishes i s c (effect s (c.atIssue i))

/-- No condition of its own. -/
def always (_ : State) (_ : Context) : Prop := True

/-- An instruction whose effect is a fixed-latency result of its operands (R99, R101). -/
def Results (i : Instr) (d : Code) (lat : Nat) (f : Context → Dword) : Prop :=
  Completes i always fun s c => .done s (c.result d (f c) lat)

/-- Nothing stands before an engine word: k is the head command, its unit holds nothing back, and its stack with the pushed
value has at most eight entries (R44, R46, R47). -/
structure WordRuns (s : State) (k : Cmd) (st : List Dword) : Prop where
  head : s.eng.cmds.head? = some k
  free : s.heldBack k = false
  stack : st = k.pushed (s.engCtx k.eng k.iss.ctx).stack
  depth : st.length ≤ 8

/-- The state once an engine word has run: the context's stack, and the command without the word. -/
def afterWord (k : Cmd) (rest : List Cmd) (s' : State) (st' : List Dword) : State :=
  let k' := { k with words := k.words.tail, index := k.index + 1, running := true, param := none }
  let t := s'.setEngCtx { s'.engCtx k.eng k.iss.ctx with stack := st' }
  { t with eng := { t.eng with cmds := if k'.words.isEmpty then rest else k' :: rest } }

/-- An engine word that pops the values vs, top first, and pushes others completes: from every state in which nothing stands before
it, its stack has room, and its own conditions hold, exec answers the state with its effect and its stack. -/
def Pops (i : Instr) (vs push : List Dword) (ready : State → Cmd → Prop) (effect : State → Cmd → State) : Prop :=
  ∀ s k rest, WordRuns s k (vs ++ rest) → (push ++ rest).length ≤ 8 → ready s k →
    exec i s = .next (afterWord k s.eng.cmds.tail (effect s k) (push ++ rest))

/-- No condition of the word's own, and no effect beyond the stack. -/
def anyCmd (_ : State) (_ : Cmd) : Prop := True
def sameState (s : State) (_ : Cmd) : State := s

/-- An operation or event completes: from every state in which it can happen, exec answers the state after it. -/
def Happens (i : Instr) (ready : State → Prop) (effect : State → State → Prop) : Prop :=
  ∀ s, ready s → ∃ t, exec i s = .next t ∧ effect s t

end Sys2Proof
end

