-- ==== Sys2Proof/Certificates/Slice0/Obligations.lean ====
section
/-! DEFINITION. The statements. Each formalises what its docstring cites of spec/; where one rests on a choice of the model it says so. -/

namespace Sys2Proof

open Machine

/-- The control word of a vector instruction is accepted (R185, R186, R192), its rows are the context's to touch (R238), and check
mode is off: k is the operand pair with its lane type. -/
structure Controls (u : Uses) (g : Governs) (pg : BitVec 3) (n : Nat) (names : List (BitVec 5)) (ok okO0 : Ctl → Bool) (k : Ctl)
    (s : State) (c : Context) : Prop where
  o0 : k.o0 = c.read 32
  o1 : k.o1 = c.read 33
  name : k.pg = pg
  times : k.reps = n
  reserved : reservedCtl k.o1 = false
  governed : g.bad k.pm pg = false
  typed : if u = .nothing then k.t = .int false 8 else laneType c k.o1 = some k.t
  accepts : k.accepts u ok = true
  operand : okO0 k = true
  rows : names ≠ [] → c.chk = 0 ∧ s.moving = false ∧ (c.prv.cur = .machine ∨ s.core.owner = some c.ctxid.toNat)

/-- A vector instruction whose control word is accepted completes with the effect `body` gives. -/
def VectorCompletes (i : Instr) (u : Uses) (g : Governs) (pg : BitVec 3) (n : Nat) (names : List (BitVec 5)) (ok okO0 : Ctl → Bool)
    (body : Ctl → State → Context → Res) : Prop :=
  ∀ s c k, Issues i s c → Controls u g pg n names ok okO0 k s c → Finishes i s c (body k s c)

/-- A lane's result by type: a floating operation, or an integer one wrapped or saturated (R197). -/
def byType (flt : Fmt → Nat → XVal → XVal → XVal → Dword → LaneOut) (int : Int → Int → Int) (k : Ctl) (a b d : Nat) (g : Dword) : LaneOut :=
  match k.t with
  | .flt F => flt F k.rm (F.decode a) (F.decode b) (F.decode d) g
  | .int sg w => let r := intLane sg w k.sati (int (readInt sg w a) (readInt sg w b)); (r.1, r.2, g)


/-- A command that ends at a word: it is gone, its context's stack for the engine is empty, its cause is recorded with the word's index. -/
def endedWith (s : State) (k : Cmd) (cause : Cause) : State :=
  let t : State := { s with eng := { s.eng with cmds := s.eng.cmds.tail } }
  (t.setEngCtx { t.engCtx k.eng k.iss.ctx with stack := [] }).engineFault k.iss k.eng cause (.ofNat 64 k.index)

/-- The words of the engines: every instruction of R45 and of an engine's own table. -/
def isEngineWord : Instr → Bool
  | .engPush _ | .engNop | .engDup | .engDrop | .engSwap | .engOver | .engCat | .engLit8 _ | .engAdd | .engSub | .engMul | .engShl _ | .engAnd
  | .engOr | .engPick _ | .mset _ | .mswp | .mcpy | .mrst | .mgeo | .msra | .msrb | .mdst | .mssr | .mfmt _ _ | .mbsf | .mtr _ | .mcos _ | .mlev _
  | .mstr _ | .mepi _ | .mtsc | .mgo _ | .mzero | .mstat _ | .msave | .mload | .mgrp _ | .mgclr | .msfm _ | .msar | .msdb | .msds _ | .fget _ _ _
  | .fwarm _ | .frel | .fdrop | .aget _ _ | .apin _ _ | .aunpin _ | .aalloc _ | .apub _ | .aabort _ | .wclaim _ | .wstat _ | .wlaunch _ | .wrel
  | .wstop | .wdrain | .yarv _ | .yred _ _ | .yadd _ _ | .ccopy _ _ | .c2d _ _ | .cfill _ | .cgath _ _ | .cscat _ _ | .czip _ _ | .cunz _ _
  | .cdf _ _ | .crput _ | .crget _ | .crred _ | .lstep | .lret _ | .lhold _ | .lstat _ | .lseq _ => true
  | _ => false

end Sys2Proof

open Sys2Proof Sys2Proof.Machine

/-- R111 (with the latency of R101): every row of major 0x01 completes with a latency-1 result, modulo 2^64: two operands, one operand, and `sel`; `adds` and `subs`
hold the exact value to the signed range and set SAT when they held it. Functions 33 to 63 are ILLOP; a unary form whose b field is not 42,
and whose d and a are good, is ILLOPD with that field (R108). -/
def Obligations.IntegerRegisterResults : Prop :=
  (∀ (st : BitVec 2) (d a b : Code),
   Results (.add st d a b) d 1 (fun c => c.read a + c.read b) ∧
   Results (.sub st d a b) d 1 (fun c => c.read a - c.read b) ∧
   Results (.and st d a b) d 1 (fun c => c.read a &&& c.read b) ∧
   Results (.or st d a b) d 1 (fun c => c.read a ||| c.read b) ∧
   Results (.xor st d a b) d 1 (fun c => c.read a ^^^ c.read b) ∧
   Results (.andn st d a b) d 1 (fun c => c.read a &&& ~~~(c.read b)) ∧
   Results (.shl st d a b) d 1 (fun c => c.read a <<< ((c.read b).toNat % 64)) ∧
   Results (.shr st d a b) d 1 (fun c => c.read a >>> ((c.read b).toNat % 64)) ∧
   Results (.sra st d a b) d 1 (fun c => (c.read a).sshiftRight ((c.read b).toNat % 64)) ∧
   Results (.rotr st d a b) d 1 (fun c => (c.read a).rotateRight ((c.read b).toNat % 64)) ∧
   Results (.min st d a b) d 1 (fun c => if (c.read a).toInt ≤ (c.read b).toInt then c.read a else c.read b) ∧
   Results (.max st d a b) d 1 (fun c => if (c.read a).toInt ≤ (c.read b).toInt then c.read b else c.read a) ∧
   Results (.minn st d a b) d 1 (fun c => if (c.read a).toNat ≤ (c.read b).toNat then c.read a else c.read b) ∧
   Results (.maxn st d a b) d 1 (fun c => if (c.read a).toNat ≤ (c.read b).toNat then c.read b else c.read a) ∧
   Results (.seq st d a b) d 1 (fun c => if c.read a = c.read b then 1 else 0) ∧
   Results (.sne st d a b) d 1 (fun c => if c.read a ≠ c.read b then 1 else 0) ∧
   Results (.slt st d a b) d 1 (fun c => if (c.read a).toInt < (c.read b).toInt then 1 else 0) ∧
   Results (.sltn st d a b) d 1 (fun c => if (c.read a).toNat < (c.read b).toNat then 1 else 0) ∧
   Results (.sle st d a b) d 1 (fun c => if (c.read a).toInt ≤ (c.read b).toInt then 1 else 0) ∧
   Results (.slen st d a b) d 1 (fun c => if (c.read a).toNat ≤ (c.read b).toNat then 1 else 0)) ∧
  (∀ (st : BitVec 2) (d a b : Code),
   Completes (.adds st d a b) always (fun s c =>
     let v := (c.read a).toInt + (c.read b).toInt
     if v < -(2 ^ 63) then .done s ((c.raise Raised.onlySat).result d (.ofInt 64 (-(2 ^ 63))) 1)
     else if 2 ^ 63 ≤ v then .done s ((c.raise Raised.onlySat).result d (.ofInt 64 (2 ^ 63 - 1)) 1)
     else .done s (c.result d (.ofInt 64 v) 1)) ∧
   Completes (.subs st d a b) always (fun s c =>
     let v := (c.read a).toInt - (c.read b).toInt
     if v < -(2 ^ 63) then .done s ((c.raise Raised.onlySat).result d (.ofInt 64 (-(2 ^ 63))) 1)
     else if 2 ^ 63 ≤ v then .done s ((c.raise Raised.onlySat).result d (.ofInt 64 (2 ^ 63 - 1)) 1)
     else .done s (c.result d (.ofInt 64 v) 1))) ∧
  (∀ (st : BitVec 2) (d a b : Code),
   Results (.clz st d a) d 1 (fun c => .ofNat 64 (if (c.read a) = 0 then 64 else 63 - Nat.log2 (c.read a).toNat)) ∧
   Results (.ctz st d a) d 1 (fun c => .ofNat 64 (((List.range 64).find? (c.read a).getLsbD).getD 64)) ∧
   Results (.popc st d a) d 1 (fun c => .ofNat 64 ((List.range 64).filter (c.read a).getLsbD).length) ∧
   Results (.bswap st d a) d 1 (fun c => .ofNat 64 (leNat (leBytes 8 (c.read a).toNat).reverse)) ∧
   Results (.sxb st d a) d 1 (fun c => ((c.read a).truncate 8).signExtend 64) ∧
   Results (.sxh st d a) d 1 (fun c => ((c.read a).truncate 16).signExtend 64) ∧
   Results (.sxw st d a) d 1 (fun c => ((c.read a).truncate 32).signExtend 64) ∧
   Results (.zxb st d a) d 1 (fun c => ((c.read a).truncate 8).zeroExtend 64) ∧
   Results (.zxh st d a) d 1 (fun c => ((c.read a).truncate 16).zeroExtend 64) ∧
   Results (.zxw st d a) d 1 (fun c => ((c.read a).truncate 32).zeroExtend 64) ∧
   Results (.sel st d a b) d 1 (fun c => if c.read d ≠ 0 then c.read a else c.read b)) ∧
  (∀ w w2 : Nat, w / 2 ^ 24 % 64 = 1 →
    (33 ≤ w % 64 → decodeSeq w w2 = .error .illop) ∧
    (22 ≤ w % 64 → w % 64 ≤ 31 → writable (.ofNat 6 (w / 2 ^ 18)) = true → readable (.ofNat 6 (w / 2 ^ 12)) = true →
      w / 2 ^ 6 % 64 ≠ 42 → decodeSeq w w2 = .error (.illopd (.ofNat 64 (w / 2 ^ 6 % 64)))))

/-- R112, R113 (with the latency of R101): the immediate forms complete with a latency-1 result; imm12 is sign-extended, imm32 as R113 says. A shift immediate with
imm12[11:6] not zero is ILLOP; so is a long form whose first word's bits[11:0] are not zero; `li` with a not 42 and a good d
is ILLOPD with that field (R108). A long form has
two words and takes one schedule cycle. -/
def Obligations.IntegerImmediateResults : Prop :=
  ∀ (st : BitVec 2) (d a : Code) (i : BitVec 12) (n : BitVec 6) (v : BitVec 32),
  Results (.addi st d a i) d 1 (fun c => (c.read a) + i.signExtend 64) ∧
  Results (.andi st d a i) d 1 (fun c => (c.read a) &&& i.signExtend 64) ∧
  Results (.ori st d a i) d 1 (fun c => (c.read a) ||| i.signExtend 64) ∧
  Results (.xori st d a i) d 1 (fun c => (c.read a) ^^^ i.signExtend 64) ∧
  Results (.shli st d a n) d 1 (fun c => (c.read a) <<< n.toNat) ∧
  Results (.shri st d a n) d 1 (fun c => (c.read a) >>> n.toNat) ∧
  Results (.srai st d a n) d 1 (fun c => (c.read a).sshiftRight n.toNat) ∧
  Results (.slti st d a i) d 1 (fun c => if (c.read a).toInt < (i.signExtend 64).toInt then 1 else 0) ∧
  Results (.sltni st d a i) d 1 (fun c => if (c.read a).toNat < (i.signExtend 64).toNat then 1 else 0) ∧
  Results (.li st d v) d 1 (fun _ => v.signExtend 64) ∧
  Results (.lhi st d a v) d 1 (fun c => (v.zeroExtend 64 <<< 32) ||| ((c.read a).truncate 32).zeroExtend 64) ∧
  Results (.addl st d a v) d 1 (fun c => (c.read a) + v.signExtend 64) ∧
  (∀ w w2 : Nat, 6 ≤ w / 2 ^ 24 % 64 → w / 2 ^ 24 % 64 ≤ 8 → w / 2 ^ 6 % 64 ≠ 0 → decodeSeq w w2 = .error .illop) ∧
  (∀ w w2 : Nat, 0x31 ≤ w / 2 ^ 24 % 64 → w / 2 ^ 24 % 64 ≤ 0x33 → w % 2 ^ 12 ≠ 0 → decodeSeq w w2 = .error .illop) ∧
  (∀ w w2 : Nat, w / 2 ^ 24 % 64 = 0x31 → w % 2 ^ 12 = 0 → writable (.ofNat 6 (w / 2 ^ 18)) = true → w / 2 ^ 12 % 64 ≠ 42 →
    decodeSeq w w2 = .error (.illopd (.ofNat 64 (w / 2 ^ 12 % 64)))) ∧
  (∀ i ∈ [Instr.li st d v, .lhi st d a v, .addl st d a v], i.form.words = 2 ∧ ∀ c : Context, (c.passed i.form).sched = c.sched + 1 + st.toNat)

/-- R114 (with the latencies of R101): products, quotients and remainders, with their corners; functions 7 to 63 are ILLOP. -/
def Obligations.MultiplyDivideResults : Prop :=
  ∀ (st : BitVec 2) (d a b : Code),
  Results (.mul st d a b) d 3 (fun c => c.read a * c.read b) ∧
  Results (.mulh st d a b) d 4 (fun c => .ofInt 64 ((c.read a).toInt * (c.read b).toInt / 2 ^ 64)) ∧
  Results (.mulhn st d a b) d 4 (fun c => .ofNat 64 ((c.read a).toNat * (c.read b).toNat / 2 ^ 64)) ∧
  Results (.div st d a b) d 16 (fun c => if c.read b = 0 then .allOnes 64 else .ofInt 64 ((c.read a).toInt.tdiv (c.read b).toInt)) ∧
  Results (.divn st d a b) d 16 (fun c => if c.read b = 0 then .allOnes 64 else .ofNat 64 ((c.read a).toNat / (c.read b).toNat)) ∧
  Results (.rem st d a b) d 16 (fun c => if c.read b = 0 then c.read a else .ofInt 64 ((c.read a).toInt.tmod (c.read b).toInt)) ∧
  Results (.remn st d a b) d 16 (fun c => if c.read b = 0 then c.read a else .ofNat 64 ((c.read a).toNat % (c.read b).toNat)) ∧
  (∀ w w2 : Nat, w / 2 ^ 24 % 64 = 0x0B → 7 ≤ w % 64 → decodeSeq w w2 = .error .illop)

/-- R115: floating arithmetic rounds the exact result once, draws as R65 says, and sets the flags of R57. The result
lands at its latency (R101); that the flags and the generator change as the instruction issues is log 101. -/
def Obligations.FloatArithmeticResults : Prop :=
  ∀ (st t : BitVec 2) (d a b : Code) (r : BitVec 3),
  let F := scalarFmt t
  let lat := if t = 0 then 20 else if t = 1 then 12 else 8
  Completes (.fadd st t d a b r) always (roundedResult F r d 4 fun c => addX (c.float F a) (c.float F b)) ∧
  Completes (.fsub st t d a b r) always (roundedResult F r d 4 fun c => addX (c.float F a) (c.float F b).neg) ∧
  Completes (.fmul st t d a b r) always (roundedResult F r d 4 fun c => mulX (c.float F a) (c.float F b)) ∧
  Completes (.fdiv st t d a b r) always (roundedResult F r d lat fun c => divX (c.float F a) (c.float F b)) ∧
  Completes (.fsqrt st t d a r) always (roundedResult F r d lat fun c => sqrtX (c.float F a)) ∧
  Completes (.fma st t d a b r) always (roundedResult F r d 5 fun c => fmaX (c.float F a) (c.float F b) (c.float F d)) ∧
  Results (.fmin st t d a b) d 4 (fun c => .ofNat 64 (F.encode .rne (minX (c.float F a) (c.float F b))).1) ∧
  Results (.fmax st t d a b) d 4 (fun c => .ofNat 64 (F.encode .rne (maxX (c.float F a) (c.float F b))).1)

/-- R116, R117: comparisons answer 1 or 0 and 0 on NaN, `fclass` a one-hot class, `fneg` and `fabs` the changed sign; `cvt` converts,
its flags and its draw changing as it issues (log 101). -/
def Obligations.FloatComparisonResults : Prop :=
  ∀ (st t : BitVec 2) (d a b : Code) (e u : BitVec 4) (r : BitVec 3),
  let F := scalarFmt t
  Results (.feq st d a b t) d 2 (fun c => if (c.float F a).eq (c.float F b) then 1 else 0) ∧
  Results (.flt st d a b t) d 2 (fun c => if (c.float F a).lt (c.float F b) then 1 else 0) ∧
  Results (.fle st d a b t) d 2 (fun c => if (c.float F a).le (c.float F b) then 1 else 0) ∧
  Results (.fun st d a b t) d 2 (fun c => if c.float F a = .nan ∨ c.float F b = .nan then 1 else 0) ∧
  (∀ x : XVal, XVal.nan.eq x = false ∧ x.eq .nan = false ∧ XVal.nan.lt x = false ∧ x.lt .nan = false ∧
    XVal.nan.le x = false ∧ x.le .nan = false) ∧
  Results (.fclass st d a t) d 2 (fun c => .ofNat 64 (2 ^ classBit F (c.read a).toNat)) ∧
  (∀ v, classBit F v ≤ 8 ∧ (classBit F v = 8 ↔ F.decode v = .nan)) ∧
  Results (.fneg st d a t) d 1 (fun c => .ofNat 64 (F.encode .rne (c.float F a).neg).1) ∧
  Results (.fabs st d a t) d 1 (fun c => .ofNat 64 (F.encode .rne (c.float F a).abs).1) ∧
  (∀ dt src, NumType.ofCode e.toNat = some dt → NumType.ofCode u.toNat = some src →
    Completes (.cvt st d a e u r) always fun s c =>
      let m := if dt.rounds src then drawMode r.toNat c.gen else (.rne, c.gen)
      let v := dt.convert src m.1 (c.read a).toNat
      .done s (({ c with gen := m.2 }.raise v.2).result d (.ofInt 64 v.1) 3))

/-- R118: a branch whose condition fails falls through; one that is taken, its target having passed the checks of R120, goes to
its own address + 4 × the displacement. -/
def Obligations.BranchesTakenAndNot : Prop :=
  ∀ (st : BitVec 2) (a : Code) (i : BitVec 18),
  let branch (b : Instr) (taken : Context → Prop) : Prop :=
    Completes b (fun _ c => ¬ taken c) (fun s c => .done s c) ∧
    (∀ s c s' c', Issues b s c → taken (c.atIssue b) →
      checkTransfer s (c.atIssue b) s.core.active false (c.pc + 4 * i.signExtend 64) = .ok (s', c') →
      Finishes b s c (.goto s' c' (c.pc + 4 * i.signExtend 64) .other))
  branch (.br st i) (fun _ => True) ∧ branch (.beqz st a i) (fun c => c.read a = 0) ∧
  branch (.bnez st a i) (fun c => c.read a ≠ 0) ∧ branch (.bltz st a i) (fun c => (c.read a).toInt < 0) ∧
  branch (.bgez st a i) (fun c => 0 ≤ (c.read a).toInt) ∧ branch (.bgtz st a i) (fun c => 0 < (c.read a).toInt) ∧
  branch (.blez st a i) (fun c => (c.read a).toInt ≤ 0)

/-- R119: `call`, `jr` and `jalr` go to their targets, once those have passed the checks of R120; the link is the next sequential
address, a latency-1 result, and the target is read before it. -/
def Obligations.CallsAndJumps : Prop :=
  ∀ (st : BitVec 2) (d a : Code) (i : BitVec 18) (s : State) (c : Context) (s' : State) (c' : Context),
  (Issues (.call st a i) s c →
    checkTransfer s (c.atIssue (.call st a i)) s.core.active true (c.pc + 4 * i.signExtend 64) = .ok (s', c') →
    Finishes (.call st a i) s c (.goto s' (c'.result a (nseq c.pc 1) 1) (c.pc + 4 * i.signExtend 64) .other)) ∧
  (Issues (.jr st a) s c →
    checkTransfer s (c.atIssue (.jr st a)) s.core.active false ((c.atIssue (.jr st a)).read a) = .ok (s', c') →
    Finishes (.jr st a) s c (.goto s' c' ((c.atIssue (.jr st a)).read a) .other)) ∧
  (Issues (.jalr st d a) s c →
    checkTransfer s (c.atIssue (.jalr st d a)) s.core.active true ((c.atIssue (.jalr st d a)).read a) = .ok (s', c') →
    Finishes (.jalr st d a) s c (.goto s' (c'.result d (nseq c.pc 1) 1) ((c.atIssue (.jalr st d a)).read a) .other))

/-- R121 to R124: `loop` pushes a level, or skips the body when the count is 0; `endl` counts, goes back or leaves, and steps the
rotating base down; `lexit` pops; `yield` passes issue to the other slot where that holds a context that is not stopped (that any such counts as
ready to issue is log 97). -/
def Obligations.LoopsCountAndLeave : Prop :=
  ∀ (st : BitVec 2) (a : Code) (i : BitVec 18),
  Completes (.loop st a i) (fun _ c => c.loops.length < 6 ∧ (c.read a).truncate 32 ≠ 0#32) (fun s c =>
    .done s { c with loops := ⟨0, (c.read a).truncate 32, nseq c.pc 1, c.pc + 4 * i.zeroExtend 64⟩ :: c.loops }) ∧
  Completes (.loop st a i) (fun _ c => c.loops.length < 6 ∧ (c.read a).truncate 32 = 0#32) (fun s c =>
    .goto s c (nseq (c.pc + 4 * i.zeroExtend 64) 1) .other) ∧
  (∀ s c l rest, Issues (.endl st) s c → c.loops = l :: rest → c.pc = l.fin → c.vbusy = 0 → c.urgent = none →
    (l.index.toNat + 1 < l.count.toNat → Finishes (.endl st) s c
      (.boundary s { c with rrb := c.rrb - 1, loops := { l with index := l.index + 1 } :: rest } l.start .other (endlChanges s))) ∧
    (l.count.toNat ≤ l.index.toNat + 1 → l.index.toNat + 1 < 2 ^ 32 → Finishes (.endl st) s c
      (.boundary s { c with rrb := c.rrb - 1, loops := rest } (nseq c.pc 1) .fall (endlChanges s)))) ∧
  (∀ s c l rest, Issues (.lexit st) s c → c.loops = l :: rest → Finishes (.lexit st) s c (.done s { c with loops := rest })) ∧
  Completes (.yield st) (fun _ c => c.vbusy = 0 ∧ c.urgent = none) (fun s c =>
    .boundary s c (nseq c.pc 1) .fall (s.ctx !s.core.active).isSome)

/-- R125, R136: `hget` reads a handle slot, `hset` writes (a + imm12)[11:0] to one, `nop` does nothing. -/
def Obligations.HandleSlotInstructions : Prop :=
  ∀ (st : BitVec 2) (d a n : Code) (i : BitVec 12),
  Results (.hget st d n) d 1 (fun c => ((c.h[n.toNat]?).getD 0).zeroExtend 64) ∧
  Completes (.hset st d a i) always (fun s c => .done s { c with h := c.h.setIfInBounds d.toNat ((c.read a + i.zeroExtend 64).truncate 12) }) ∧
  Completes (.nop st) always (fun s c => .done s c)

/-- R104, R126: what `sget` reads of every control register, at the privilege that may read it. Below the privilege a register needs, `sget`
and `sset` take PRIV with the register's number. -/
def Obligations.ControlRegisterReads : Prop :=
  (∀ (st : BitVec 2) (d : Code),
   let get (n : BitVec 12) (ready : State → Context → Prop) (f : State → Context → Dword) : Prop :=
     Completes (.sget st d n) ready (fun s c => .done s (c.result d (f s c) 1))
   let upper (_ : State) (c : Context) : Prop := c.prv.cur ≠ .task
   let quiet (_ : State) (c : Context) : Prop := c.vbusy = 0
   let bank (s : State) (c : Context) : Bank := if c.prv.cur = .machine then s.core.bank else c.sup
   get 0x000 always (fun _ c => c.pc) ∧
   get 0x001 quiet (fun _ c => c.rrb.zeroExtend 64) ∧
   get 0x002 quiet (fun _ c => c.row0.zeroExtend 64) ∧
   get 0x003 quiet (fun _ c => .ofNat 64 (256 * c.flags.toNat + c.acc.toNat)) ∧
   get 0x004 always (fun s _ => s.core.acown.zeroExtend 64) ∧
   get 0x005 always (fun s _ => s.core.actouch) ∧
   get 0x006 always (fun _ c => c.chk.zeroExtend 64) ∧
   get 0x007 always (fun _ c => c.gen) ∧
   get 0x008 upper (fun s c => (bank s c).cause) ∧ get 0x009 upper (fun s c => (bank s c).epc) ∧
   get 0x00A upper (fun s c => (bank s c).eval) ∧ get 0x00B upper (fun s c => (bank s c).estat.zeroExtend 64) ∧
   get 0x00C upper (fun s c => (bank s c).scratch) ∧
   get 0x00D always (fun _ c => c.prv.bits.zeroExtend 64) ∧
   get 0x00E always (fun _ c => c.ctxid.zeroExtend 64) ∧
   get 0x00F always (fun _ c => .ofNat 64 (c.lid.toNat * 2 ^ 32 + c.taskNo.toNat)) ∧
   get 0x010 always (fun s _ => s.core.cycle) ∧
   get 0x011 always (fun s _ => s.core.bkloss[0].zeroExtend 64) ∧ get 0x012 always (fun s _ => s.core.bkloss[1].zeroExtend 64) ∧
   get 0x013 always (fun s _ => s.core.bkloss[2].zeroExtend 64) ∧ get 0x014 always (fun s _ => s.core.bkloss[3].zeroExtend 64)) ∧
  (∀ (st : BitVec 2) (d : Code) (n : BitVec 12) (s : State) (c : Context),
   (Issues (.sget st d n) s c → 8 ≤ n.toNat → n.toNat ≤ 12 → c.prv.cur = .task →
     exec (.sget st d n) s = .next (s.precise c .priv (n.zeroExtend 64))) ∧
   (Issues (.sset st d n) s c → n.toNat ∈ [4, 5, 0x0E, 0x10] → c.prv.cur ≠ .machine →
     exec (.sset st d n) s = .next (s.precise c .priv (n.zeroExtend 64))) ∧
   (Issues (.sset st d n) s c → n.toNat ∈ [6, 8, 9, 10, 11, 12, 13, 0x11, 0x12, 0x13, 0x14] → c.prv.cur = .task →
     exec (.sset st d n) s = .next (s.precise c .priv (n.zeroExtend 64))))

/-- R104, R105, R126, R221: `sset` completes for every control register that some privilege may write, at each privilege that may write it,
and leaves there what the table says; of ACFG, any of the five accumulator types. It reads its source after the pending results that CHK, PRV
and CTXID wait for. -/
def Obligations.ControlRegisterWrites : Prop :=
  ∀ (st : BitVec 2) (a : Code),
  let put (n : BitVec 12) (ready : State → Context → Prop) (f : Dword → State → Context → Res) : Prop :=
    Completes (.sset st a n) ready (fun s c => f (c.read a) s c)
  let puts (n : BitVec 12) (ready : State → Context → Prop) (f : Dword → Context → Context) : Prop :=
    Completes (.sset st a n) ready (fun s c => .done s (f (c.settle.read a) c.settle))
  let upper (_ : State) (c : Context) : Prop := c.prv.cur ≠ .task
  let machine (_ : State) (c : Context) : Prop := c.prv.cur = .machine
  let quiet (_ : State) (c : Context) : Prop := c.vbusy = 0
  let bank (f : Dword → Bank → Bank) (v : Dword) (s : State) (c : Context) : Res :=
    if c.prv.cur = .machine then .done { s with core := { s.core with bank := f v s.core.bank } } c
    else .done s { c with sup := f v c.sup }
  put 0x001 quiet (fun v s c => .done s { c with rrb := v.truncate 6 }) ∧
  put 0x002 quiet (fun v s c => .done s { c with row0 := v.truncate 7 }) ∧
  put 0x003 (fun _ c => c.vbusy = 0 ∧ bits (c.read a) 3 0 ∈ [2, 8, 9, 10, 11] ∧ bits (c.read a) 7 4 = 0 ∧ bits (c.read a) 63 12 = 0)
    (fun v s c => .done s { c with acc := v.truncate 4, flags := .ofNat 4 (bits v 11 8) }) ∧
  put 0x004 machine (fun v s c => .done { s with core := { s.core with acown := v.truncate 15 } } c) ∧
  put 0x005 machine (fun v s c => .done { s with core := { s.core with actouch := v } } c) ∧
  puts 0x006 upper (fun v c => { c with chk := v.truncate 2 }) ∧
  put 0x007 always (fun v s c => .done s { c with gen := if v = 0 then Config.seedDefault else v }) ∧
  put 0x008 upper (bank fun v b => { b with cause := v &&& 0x80FFFFFF }) ∧ put 0x009 upper (bank fun v b => { b with epc := v }) ∧
  put 0x00A upper (bank fun v b => { b with eval := v }) ∧ put 0x00B upper (bank fun v b => { b with estat := v.truncate 3 }) ∧
  put 0x00C upper (bank fun v b => { b with scratch := v }) ∧
  puts 0x00D upper (fun v c => { c with prv := ⟨c.prv.cur, v.getLsbD 2⟩ }) ∧
  puts 0x00E machine (fun v c => { c with ctxid := v.truncate 14 }) ∧
  put 0x010 machine (fun v s c => .done { s with core := { s.core with cycle := v } } c) ∧
  put 0x011 upper (fun v s c => .done { s with core := { s.core with bkloss := s.core.bkloss.set 0 (v.truncate 32) } } c) ∧
  put 0x012 upper (fun v s c => .done { s with core := { s.core with bkloss := s.core.bkloss.set 1 (v.truncate 32) } } c) ∧
  put 0x013 upper (fun v s c => .done { s with core := { s.core with bkloss := s.core.bkloss.set 2 (v.truncate 32) } } c) ∧
  put 0x014 upper (fun v s c => .done { s with core := { s.core with bkloss := s.core.bkloss.set 3 (v.truncate 32) } } c)

/-- R108 steps 2 and 3, for every sequencer instruction: a reserved field value faults ILLOP with the word, an operand code that may
not stand in its field ILLOPD with the field's value, before anything else the instruction does. -/
def Obligations.StaticChecksComeFirst : Prop :=
  ∀ (i : Instr) (s : State) (c : Context), i.shape.isSome → s.current = some c → c.stopped = false →
  s.core.busyTill ≤ s.core.now → s.windowsPending c = false →
  (i.form.fault = some .illop → exec i s = .next (s.precise c .illop (.ofNat 64 ((encode i).headD 0)))) ∧
  (∀ v, i.form.fault = some (.illopd v) → exec i s = .next (s.precise c .illopd v))

/-- R131, R132: an entry to supervisor privilege for the context in a slot: the supervisor bank holds the cause, address, value and former
privilege, EMASK is set, pc is the vector, and the registers stand. The same for an entry to machine privilege, which the core's machine
bank saves. -/
def Obligations.EntriesSave : Prop :=
  (∀ (s : State) (slot : Bool) (c : Context) (cause : Cause) (src : Nat) (v epc vec : Dword) (async : Option Level),
   s.route c cause async = .supervisor vec →
   ∃ t, (s.takeTrap slot c cause src v epc async).ctx slot = some t ∧
     t.sup.cause = .ofNat 64 (async.isSome.toNat * 2 ^ 31 + src % 256 * 2 ^ 16 + cause.code) ∧ t.sup.epc = epc ∧ t.sup.eval = v ∧
     t.sup.estat = .ofNat 3 (4 * c.prv.emask.toNat + c.prv.cur.code) ∧ t.sup.scratch = c.sup.scratch ∧
     t.prv = ⟨.supervisor, true⟩ ∧ t.pc = vec ∧ t.x = c.x ∧ t.o = c.o ∧ t.p = c.p ∧ t.h = c.h ∧ t.loops = c.loops ∧
     t.l0 = c.l0 ∧ t.l1 = c.l1 ∧ t.rrb = c.rrb ∧ t.flags = c.flags ∧ t.gen = c.gen ∧ t.pend = [] ∧
     (s.takeTrap slot c cause src v epc async).core.bank = s.core.bank) ∧
  (∀ (s : State) (slot : Bool) (c : Context) (cause : Cause) (src : Nat) (v epc vec : Dword) (async : Option Level),
   s.route c cause async = .machine vec →
   ∃ t, (s.takeTrap slot c cause src v epc async).ctx slot = some t ∧
     (s.takeTrap slot c cause src v epc async).core.bank =
       ⟨.ofNat 64 (async.isSome.toNat * 2 ^ 31 + src % 256 * 2 ^ 16 + cause.code), epc, v,
         .ofNat 3 (4 * c.prv.emask.toNat + c.prv.cur.code), s.core.bank.scratch⟩ ∧
     t.prv = ⟨.machine, true⟩ ∧ t.pc = vec ∧ t.sup = c.sup ∧ t.x = c.x ∧ t.o = c.o ∧ t.p = c.p ∧ t.h = c.h ∧ t.loops = c.loops)

/-- R131: where an entry of each level and cause goes; an asynchronous cause held at task privilege has had its policy applied. -/
def Obligations.EntriesAreRouted : Prop :=
  ∀ (s : State) (c : Context) (cause : Cause) (l : Launch), s.launch c.launch = some l →
  let machine := if s.machineVector = 0 then Route.stops else .machine s.machineVector
  let supervisor := if l.res.trapv = 0 then machine else .supervisor l.res.trapv
  (c.prv.cur = .machine → s.route c cause none = .stops) ∧
  (c.prv.cur = .supervisor → s.route c cause none = machine) ∧
  (c.prv.cur = .task → cause = .accfirst → s.route c cause none = machine) ∧
  (c.prv.cur = .task → cause = .softtrap ∨ cause = .qstarve → s.route c cause none = supervisor) ∧
  (c.prv.cur = .task → cause ∉ [.accfirst, .softtrap, .qstarve] → l.res.policy = .trap → s.route c cause none = supervisor) ∧
  (c.prv.cur = .task → cause ∉ [.accfirst, .softtrap, .qstarve] → l.res.policy ≠ .trap → s.route c cause none = .ends) ∧
  (c.prv.cur = .task → cause ≠ .accfirst → s.route c cause (some .task) = supervisor)

/-- R135: `trap` from task or supervisor takes SOFTTRAP with its immediate, EPC naming the next instruction; at machine it is ILLOP. -/
def Obligations.SoftTrapTaken : Prop :=
  ∀ (st : BitVec 2) (i : BitVec 12),
  Completes (.trap st i) (fun _ c => c.prv.cur ≠ .machine ∧ c.loadsBack = true ∧ c.vbusy = 0) (fun s c =>
    .entered ((s.takeTrap s.core.active (c.passed (Instr.trap st i).form) .softtrap 0 (i.zeroExtend 64) (nseq c.pc 1) none).tick
      (issueCycles c (c.passed (Instr.trap st i).form)))) ∧
  ∀ s c, Issues (.trap st i) s c → c.prv.cur = .machine →
    exec (.trap st i) s = .next (s.precise c .illop (.ofNat 64 ((encode (.trap st i)).headD 0)))

/-- R134: `eret` returns to EPC with the privilege ESTAT holds, once nothing is outstanding; its checks fault PRIV, ILLOP, PRIV. -/
def Obligations.ExceptionReturn : Prop :=
  ∀ (st : BitVec 2) (s : State) (c : Context), Issues (.eret st) s c →
  let b := if c.prv.cur = .machine then s.core.bank else c.sup
  let word : Dword := .ofNat 64 ((encode (.eret st)).headD 0)
  (c.prv.cur = .task → exec (.eret st) s = .next (s.precise c .priv word)) ∧
  (c.prv.cur ≠ .task → bits b.estat 1 0 = 3 → exec (.eret st) s = .next (s.precise c .illop word)) ∧
  (c.prv.cur = .supervisor → bits b.estat 1 0 = 2 → exec (.eret st) s = .next (s.precise c .priv word)) ∧
  (c.prv.cur ≠ .task → bits b.estat 1 0 ≤ c.prv.cur.code → c.loadsBack = true → c.vbusy = 0 →
    ∃ t c', exec (.eret st) s = .next t ∧ t.current = some c' ∧ c'.pc = b.epc ∧ c'.prv.cur.code = bits b.estat 1 0 ∧
      c'.prv.emask = b.estat.getLsbD 2 ∧ c'.fbuf = [] ∧ c'.sup = c.sup ∧ t.core.bank = s.core.bank ∧ sameBytes s t)

/-- R136, R190, R296, R331: `tend`, with no vector instruction and no atomic of its context outstanding, frees the slot at once: the permit that
the task or its gang's seat holds returns to the core, and the task waits to count as ended, by fault above task privilege. What it has sent runs
on, and no byte changes. With one outstanding it waits, and a cycle passes. -/
def Obligations.TaskEndFreesSlot : Prop :=
  ∀ (st : BitVec 2) (s : State) (c : Context), Issues (.tend st) s c →
  (c.vbusy = 0 → c.atomics = 0 →
    ∃ t, exec (.tend st) s = .next t ∧ t.ctx s.core.active = none ∧ t.ctx (!s.core.active) = s.ctx (!s.core.active) ∧
      (∀ j : Nat, t.wick.permits[j]? = if (c.permit = true ∨ c.gang = true) ∧ j = s.core.id % 12 then (s.wick.permits[j]?).map (· + 1)
        else s.wick.permits[j]?) ∧
      t.disp.ending = s.disp.ending ++ [⟨c.launch, c.walk, c.taskNo.toNat, c.ctxid.toNat, c.prv.cur != .task, c.claimed⟩] ∧
      t.disp.launches = s.disp.launches ∧ t.disp.live = s.disp.live ∧ t.eng = s.eng ∧ t.fab = s.fab ∧ t.sync = s.sync ∧
      t.inflight = s.inflight ∧ t.core.sq0 = s.core.sq0 ∧ t.core.sq1 = s.core.sq1 ∧ sameBytes s t) ∧
  (c.vbusy ≠ 0 ∨ c.atomics ≠ 0 → exec (.tend st) s = .next (s.tick 1))

/-- R47, R127 to R129: a sending instruction puts one command, with the issuer's fields and its place in the thread's stores, at the end
of its engine's queue, once the queue has room and no mark holds it back; the command carries the scratchpad ranges that its words will take
(log 40); the words of `xsend` are numbered from 1, its push being word 0 (log 31). `xsendm` reads its words as it issues (log 48), as a load that
holds an entry of the load queue. R128: `xseq` reads the context's completion sequence number;
`xwait` completes once that number has reached its operand; both close the ownership windows the number covers (R243). -/
def Obligations.CommandsAreSent : Prop :=
  (∀ (st : BitVec 2) (e : BitVec 4) (a b : Code) (h : BitVec 4) (i : BitVec 8) (w0 w1 : Half),
   let four (v : Dword) : List Half := [v.truncate 16, (v >>> 16).truncate 16, (v >>> 32).truncate 16, (v >>> 48).truncate 16]
   let cmd (s : State) (c : Context) (param : Option Dword) (words : List Half) : Cmd :=
     let k : Cmd := ⟨e.toNat, s.issuer c, param, words, if param.isSome then 1 else 0, c.serial, false, none, s.eng.sends, []⟩
     { k with spans := (s.setCurrent (some c)).spansOf k }
   let ready (s : State) (c : Context) : Prop :=
     c.chk = 0 ∧ s.storeMayGo s.core.active c = true ∧ s.queuedTo e.toNat < 16 ∧ (e.toNat ≤ 1 → c.vbusy = 0 ∧ (s.sq s.core.active).all (!·.whole) = true) ∧
     (e.toNat = 0 → s.moving = false ∧ (c.prv.cur = .machine ∨ s.core.owner = some c.ctxid.toNat))
   let sent (s : State) (c : Context) (k : Cmd) : Res :=
     .done { s with eng := { s.eng with cmds := s.eng.cmds ++ [k], sends := s.eng.sends + 1 } }
       { s.spendMark s.core.active c with serial := c.serial + 1 }
   Completes (.xsendi st e w0 w1) ready (fun s c => sent s c (cmd s c none [w0, w1])) ∧
   Completes (.xsend st e a b) ready (fun s c => sent s c (cmd s c (some (c.read b)) (four (c.read a)))) ∧
   Completes (.xsendw st e a b) ready (fun s c => sent s c (cmd s c none (four (c.read a) ++ four (c.read b)))) ∧
   (∀ s c m, Issues (.xsendm st e a h i) s c → ready s c →
     checkBlock s c h.toNat (c.read a) (2 * (i.toNat + 1)) = .ok m → s.firstMet s.core.active c m = none →
     s.loadReady s.core.active c m.handle.space m.addrs = true → s.loadWaits c m.handle.space m.addrs = false →
     let part := s.partOf c.launch
     let r := bindLoad s s.core.active c.serial m.handle.space m.handle.policy (s.sectorLook m.addrs) (s.poolLine part m.leaves) m.addrs
     let s' := r.2.2.holdLeaves part m.leaves
     ready s' c → Finishes (.xsendm st e a h i) s c
       (.done { s' with eng := { s'.eng with cmds := s'.eng.cmds ++ [cmd s' c none (halves r.1)], sends := s'.eng.sends + 1 } }
         (let c' := (s'.spendMark s'.core.active c).pushLoad (.held c.serial)
          { c' with serial := c'.serial + 1 })))) ∧
  (∀ (st : BitVec 2) (e : BitVec 4) (a : Code),
   let num (s : State) (c : Context) : Word := (s.engCtx e.toNat c.ctxid.toNat).seq
   let closed (s : State) (c : Context) : Context :=
     { c with windows := c.windows.filter fun w => !(w.eng == e.toNat && upTo (.ofNat 32 w.upto) (num s c)) }
   Completes (.xseq st e a) always (fun s c => .done s ((closed s c).result a ((num s c).zeroExtend 64) 1)) ∧
   Completes (.xwait st e a) (fun s c => upTo ((c.read a).truncate 32) (num s c) = true) (fun s c => .done s (closed s c)) ∧
   (∀ x y : Word, upTo x y = true ↔ (y - x).toNat < 2 ^ 31))

/-- R139, R148, R149, R155: a plain load whose checks pass, and that nothing older holds back, is sent: it takes the last entry of the load
queue, with its address, size and destination, and the registers stand until it returns; entries that have returned leave from the queue's
head. -/
def Obligations.PlainLoadsAreSent : Prop :=
  ∀ (st : BitVec 2) (d a n b : Code) (h : BitVec 4) (i : BitVec 8),
  let sends (l : Instr) (slot : Nat) (off : Context → Dword) (size : Nat) (k : LoadKind) : Prop :=
    ∀ s c m, Issues l s c → checkHere s c slot (off c) size .read = .ok m →
    s.loadReady s.core.active c m.handle.space m.addrs = true →
    Finishes l s c (.done (s.holdLeaves (s.partOf c.launch) m.leaves)
      { s.spendMark s.core.active c with
        lq := settled (c.lq ++ [⟨c.serial, m.handle.space, m.handle.policy, m.addrs, m.handle.va (off c), k, d, false⟩])
        serial := c.serial + 1 })
  sends (.ldI64 st d a h i) h.toNat (fun c => c.read a + 8 * i.zeroExtend 64) 8 .unsigned ∧
  sends (.ldI32 st d a h i) h.toNat (fun c => c.read a + 4 * i.zeroExtend 64) 4 .signed ∧
  sends (.ldI8 st d n b) n.toNat (·.read b) 1 .signed ∧ sends (.ldN8 st d n b) n.toNat (·.read b) 1 .unsigned ∧
  sends (.ldI16 st d n b) n.toNat (·.read b) 2 .signed ∧ sends (.ldN16 st d n b) n.toNat (·.read b) 2 .unsigned ∧
  sends (.ldI32Reg st d n b) n.toNat (·.read b) 4 .signed ∧ sends (.ldN32 st d n b) n.toNat (·.read b) 4 .unsigned ∧
  sends (.ldI64Reg st d n b) n.toNat (·.read b) 8 .unsigned

/-- R139, R140, R155: a plain store whose checks pass, and that nothing older holds back, enters its slot's store queue with the low
bytes of its register, lowest address first; memory stands until it is performed. Marks at the head of the queue leave it (R145). -/
def Obligations.PlainStoresAreQueued : Prop :=
  ∀ (st : BitVec 2) (d a n b : Code) (h : BitVec 4) (i : BitVec 8),
  let queues (l : Instr) (slot : Nat) (off : Context → Dword) (size : Nat) : Prop :=
    ∀ s c m, Issues l s c → checkHere s c slot (off c) size .write = .ok m →
    s.storeReady s.core.active c m.handle.space m.addrs = true →
    Finishes l s c (.done ((s.setSq s.core.active (ripe (s.sq s.core.active ++
        [⟨c.serial, m.handle.space.memory, m.handle.policy, m.addrs.zip (leBytes size (c.read d).toNat),
          ⟨c.launch, c.walk, c.taskNo.toNat, c.ctxid.toNat⟩, none, true, s.poolLines (s.partOf c.launch) m.leaves m.addrs⟩]))).holdLeaves (s.partOf c.launch) m.leaves)
      { s.spendMark s.core.active c with serial := c.serial + 1 })
  queues (.stI64 st d a h i) h.toNat (fun c => c.read a + 8 * i.zeroExtend 64) 8 ∧
  queues (.stI32 st d a h i) h.toNat (fun c => c.read a + 4 * i.zeroExtend 64) 4 ∧
  queues (.stI8 st d n b) n.toNat (·.read b) 1 ∧ queues (.stI16 st d n b) n.toNat (·.read b) 2 ∧
  queues (.stI32Reg st d n b) n.toNat (·.read b) 4 ∧ queues (.stI64Reg st d n b) n.toNat (·.read b) 8

/-- R139, R145, R146, R156: an acquiring load, once the core has what homes have sent it (log 94), binds its newest value as it issues (log 48), drops the
copies that may be stale beyond `.c`, holds its entry of the load queue, and leaves a mark; a releasing store enters its queue once every older
access is performed at its scope; `mark` takes an entry of each queue and leaves a mark; prefetches complete. -/
def Obligations.OrderedAccesses : Prop :=
  ∀ (st : BitVec 2) (d n b : Code) (q : BitVec 3),
  let sc : Scope := .ofCode q.toNat
  let acquires (l : Instr) (size : Nat) : Prop :=
    ∀ s c m, Issues l s c → checkHere s c n.toNat (c.read b) size .read = .ok m →
    s.loadReady s.core.active c m.handle.space m.addrs = true → s.loadWaits c m.handle.space m.addrs = false → s.spansPending c = false →
    let part := s.partOf c.launch
    let s0 := s.receiveAll fun _ => true
    let r := bindLoad s0 s.core.active c.serial m.handle.space m.handle.policy (fun _ => .newest) (s0.poolLine part m.leaves) m.addrs
    r.2.1 = none →
    let frame := if m.handle.space = .global then s0.frameLoad part (m.addrs.headD 0) size else none
    let s' := r.2.2.holdLeaves part m.leaves
    let c' := s.spendMark s.core.active c
    Finishes l s c (.done (if sc = .c then s' else s'.acquire)
      (((c'.write d (frame.getD (.ofNat 64 (leNat r.1)))).pushLoad (.held c.serial)).addMark sc))
  let releases (l : Instr) (size : Nat) : Prop :=
    ∀ s c m, Issues l s c → checkHere s c n.toNat (c.read b) size .write = .ok m →
    s.storeMayGo s.core.active (c.addMark sc) = true →
    s.storeReady s.core.active { c with mark := none } m.handle.space m.addrs = true →
    Finishes l s c (.done ((s.setSq s.core.active (ripe (s.sq s.core.active ++
        [⟨c.serial, m.handle.space.memory, m.handle.policy, m.addrs.zip (leBytes size (c.read d).toNat),
          ⟨c.launch, c.walk, c.taskNo.toNat, c.ctxid.toNat⟩, none, true, s.poolLines (s.partOf c.launch) m.leaves m.addrs⟩]))).holdLeaves (s.partOf c.launch) m.leaves)
      { c with mark := none, serial := c.serial + 1 })
  acquires (.ldAcqN32 st d n b q) 4 ∧ acquires (.ldAcqI64 st d n b q) 8 ∧
  releases (.stRelI32 st d n b q) 4 ∧ releases (.stRelI64 st d n b q) 8 ∧
  Completes (.mark st q) (fun s c => c.lq.length < 64 ∧ s.storesHeld s.core.active c < 64 ∧ s.spansPending c = false) (fun s c =>
    .done (s.setSq s.core.active (ripe (s.sq s.core.active ++
        [⟨c.serial, .scratch, .normal, [], ⟨c.launch, c.walk, c.taskNo.toNat, c.ctxid.toNat⟩, none, false, []⟩])))
      ((c.pushLoad (.held c.serial)).addMark sc)) ∧
  Completes (.pfDc st n b) always (fun s c => .done s c) ∧ Completes (.pfLlc st n b) always (fun s c => .done s c)

/-- R157, R158, R83: a decoding load, which reads its bytes as it issues (log 48), gives 0 past ELEN; within it, the exact decoded value rounded
to its type; a decoding store of a
checked element, once its thread's older stores have left and its lines are free (log 68), is performed at the home as one store, with the flags
and draws of its encoding. -/
def Obligations.DecodingAccesses : Prop :=
  ∀ (st : BitVec 2) (d n b : Code) (t : BitVec 3) (u : BitVec 2) (q : BitVec 3) (s : State) (c : Context) (h : Handle) (ty : Stored),
  readHandle s (s.threadByte s.core.active) (s.access c.launch) n.toNat (c.slotIndex n.toNat) (c.read b) = .ok h →
  Stored.ofCode t.toNat = some ty →
  (Issues (.dld st d n b t u) s c → h.past (c.read b).toNat = true → Finishes (.dld st d n b t u) s c (.done s (c.write d 0))) ∧
  (∀ e, Issues (.dld st d n b t u) s c → s.loadReady s.core.active c h.space [] = true → h.past (c.read b).toNat = false →
    checkElems s (s.threadByte s.core.active) (s.access c.launch) h n.toNat (c.read b) ty false false
      (·.bytesOf (c.read b).toNat) = .ok e → s.loadWaits c .global (e.addrs.map (·.2)) = false →
    let part := (s.access c.launch).part
    let r := bindLoad s s.core.active c.serial .global h.policy (s.sectorLook (e.addrs.map (·.2))) (s.poolLine part e.leaves) (e.addrs.map (·.2))
    let v := e.fmt.decodeElem e.scale (readerOf ((e.addrs.map (·.1)).zip r.1)) (c.read b).toNat
    r.2.1 = none →
    Finishes (.dld st d n b t u) s c (.done (r.2.2.holdLeaves part e.leaves)
      (((s.spendMark s.core.active c).write d (.ofNat 64 ((scalarFmt u).encode .rne v).1)).pushLoad (.held c.serial)))) ∧
  (∀ e, Issues (.dst st d n b t q) s c →
    checkElems s (s.threadByte s.core.active) (s.access c.launch) h n.toNat (c.read b) ty true false
      (fun pf => (pf.reached h.elen [(c.read b).toNat]).flatMap pf.bytesOf) = .ok e →
    s.editReady s.core.active c (e.addrs.map (·.2)) = true →
    let p := placeElems e q.toNat [((c.read b).toNat, c.float f32 d)] (s.holdLeaves (s.partOf c.launch) e.leaves) (s.spendMark s.core.active c)
    p.2.2 = [] → Finishes (.dst st d n b t q) s c (.done p.1 p.2.1))

/-- R159, R160: a tile load reads memory and writes the tile file as it issues (log 48): memory row k, byte j to the row and byte the
geometry names; a tile store is one store of the bytes so named, in ascending order. Each waits for an older `tst` of its tile register. -/
def Obligations.TileAccesses : Prop :=
  ∀ (st : BitVec 2) (d n b : Code) (k : BitVec 3) (s : State) (c : Context) (g : Geometry) (m : Mapped),
  Geometry.parse (c.read d) = some g → c.chk = 0 → s.tileHeld c k.toNat = false →
  (Issues (.tld st d n b k) s c → checkTile s c n.toNat (c.read b) g .read = .ok m →
    s.loadReady s.core.active c m.handle.space m.addrs = true → s.loadWaits c m.handle.space m.addrs = false →
    let part := s.partOf c.launch
    let r := bindLoad s s.core.active c.serial m.handle.space m.handle.policy (s.sectorLook m.addrs) (s.poolLine part m.leaves) m.addrs
    r.2.1 = none →
    let s' := r.2.2.holdLeaves part m.leaves
    let tile := (g.cells.zip r.1).foldl (fun f p =>
      setTileByte f (128 * k.toNat + (g.tile p.1.1 p.1.2).1) (g.tile p.1.1 p.1.2).2 p.2) s.core.tile
    Finishes (.tld st d n b k) s c (.done { s' with core := { s'.core with tile := tile } }
      ((s.spendMark s.core.active c).pushLoad (.held c.serial)))) ∧
  (Issues (.tst st d n b k) s c → checkTile s c n.toNat (c.read b) g .write = .ok m →
    s.storeReady s.core.active c m.handle.space m.addrs = true →
    let data := g.cells.map fun p => tileByte s.core.tile (128 * k.toNat + (g.tile p.1 p.2).1) (g.tile p.1 p.2).2
    Finishes (.tst st d n b k) s c (.done ((s.setSq s.core.active (ripe (s.sq s.core.active ++
        [⟨c.serial, m.handle.space.memory, m.handle.policy, m.addrs.zip data,
          ⟨c.launch, c.walk, c.taskNo.toNat, c.ctxid.toNat⟩, some k.toNat, false, s.poolLines (s.partOf c.launch) m.leaves m.addrs⟩]))).holdLeaves (s.partOf c.launch) m.leaves)
      { s.spendMark s.core.active c with serial := c.serial + 1 }))

/-- R175 to R178: `cpub`, once older accesses are performed at its scope, and `cinv` discard the copies the core and the context hold
of the lines of their range; `ifence` empties the fetch buffer; `cprobe` reads bytes 120 to 127 of an unmarked line as it
issues (log 48). -/
def Obligations.PublishingInstructions : Prop :=
  ∀ (st : BitVec 2) (d n b a : Code) (q : BitVec 3) (h : BitVec 4) (i : BitVec 8) (s : State) (c : Context),
  (∀ p, Issues (.cpub st d n b q) s c → checkPublish s c n.toNat (c.read b) (c.read d) = .ok p →
    s.storeMayGo s.core.active (c.addMark (.ofCode q.toNat)) = true →
    Finishes (.cpub st d n b q) s c
      (.done ((s.holdLeaves (s.partOf c.launch) p.2).discardLines p.1) { c with mark := none, fbuf := [], fill := none })) ∧
  (∀ p, Issues (.cinv st d n b q) s c → checkPublish s c n.toNat (c.read b) (c.read d) = .ok p →
    Finishes (.cinv st d n b q) s c (.done ((s.holdLeaves (s.partOf c.launch) p.2).discardLines p.1) { c with fbuf := [], fill := none })) ∧
  (Issues (.ifence st) s c → c.loadsBack = true → Finishes (.ifence st) s c (.done s { c with fbuf := [], fill := none })) ∧
  (∀ hd leaf, let off := c.read a + 128 * i.zeroExtend 64
    let ac := s.access c.launch
    Issues (.cprobe st d a h i) s c →
    readHandle s (s.threadByte s.core.active) ac h.toNat (c.slotIndex h.toNat) off = .ok hd →
    checkBound s ac hd h.toNat off 128 = .ok () → (hd.va off).toNat % 128 = 0 → hd.space = .global ∨ hd.space = .code →
    mapOne s (s.threadByte s.core.active) ac.part .none (hd.va off).toNat = .ok leaf →
    s.loadReady s.core.active c .global [] = true → s.loadWaits c .global (span (leaf.phys (hd.va off).toNat) 128) = false →
    s.meets (leaf.phys (hd.va off).toNat) = none →
    Finishes (.cprobe st d a h i) s c (.done (s.holdLeaves ac.part [leaf])
      (((s.spendMark s.core.active c).write d (readDword (s.byteUnder none) (leaf.phys (hd.va off).toNat + 120))).pushLoad (.held c.serial))))

/-- R331 to R334: an atomic whose checks pass takes an entry of each queue, with its operation and its operand's low bits. -/
def Obligations.AtomicsAreSent : Prop :=
  ∀ (st : BitVec 2) (d n b : Code) (w : BitVec 1),
  let size := if w = 1 then 8 else 4
  let low (v : Dword) : Dword := .ofNat 64 (v.toNat % 2 ^ (8 * size))
  let sends (l : Instr) (op : Atom) (v : Context → Dword) : Prop :=
    ∀ s c m, Issues l s c →
    checkAtomic s (s.threadByte s.core.active) (s.access c.launch) n.toNat (c.slotIndex n.toNat) (c.read b) size = .ok m →
    s.bothReady c = true →
    Finishes l s c (.done (s.holdLeaves (s.partOf c.launch) m.leaves)
      { s.spendMark s.core.active c with
        lq := settled (c.lq ++ [⟨c.serial, m.handle.space, m.handle.policy, m.addrs, m.handle.va (c.read b),
          .atomic op (low (v c)) (low (c.read d)), d, false⟩])
        serial := c.serial + 1 })
  sends (.aswp st d n b w) .swp (·.read d) ∧ sends (.aadd st d n b w) .add (·.read d) ∧ sends (.aand st d n b w) .and (·.read d) ∧
  sends (.aor st d n b w) .or (·.read d) ∧ sends (.axor st d n b w) .xor (·.read d) ∧ sends (.amin st d n b w) .min (·.read d) ∧
  sends (.amax st d n b w) .max (·.read d) ∧ sends (.aminn st d n b w) .minn (·.read d) ∧ sends (.amaxn st d n b w) .maxn (·.read d) ∧
  sends (.acas st d n b w) .cas (·.read (d + 1)) ∧ sends (.afadd st d n b w) .fadd (·.read d)

/-- R335, R337, R338: `barrive` sends its arrival, and `rpost` and `rfree` their span, once older accesses are performed (at `.p`, and in host
memory at `.s`; `rfree` at `.p`); a span whose turn has not come takes a pending entry of its slice (R329). `rres` and `rtake` take an entry of
each queue. -/
def Obligations.ObjectUpdatesAreSent : Prop :=
  ∀ (st : BitVec 2) (d n b : Code) (s : State) (c : Context) (a : Nat),
  checkObject s c n.toNat (c.read b) = .ok a →
  let v := c.read d
  (Issues (.barrive st d n b) s c → bits v 62 32 = 0 → s.storeMayGo s.core.active (c.addMark .s) = true →
    Finishes (.barrive st d n b) s c (.done
      { s with inflight := s.inflight ++ [.arrive a (bits v 31 0) (v.getLsbD 63) (.instr s.core.active c.launch c.ctxid.toNat)] }
      { c with mark := none, serial := c.serial + 1 })) ∧
  (let sends (l : Instr) (take : Bool) : Prop := Issues l s c → 0 < v.toNat → v.toNat < 2 ^ 16 → s.bothReady c = true →
    Finishes l s c (.done s { s.spendMark s.core.active c with
      lq := settled (c.lq ++ [⟨c.serial, .sync, .normal, span a 32, .ofNat 64 a, .reserve take v.toNat, d, false⟩])
      serial := c.serial + 1 })
   sends (.rres st d n b) false ∧ sends (.rtake st d n b) true) ∧
  (let posts (l : Instr) (free : Bool) : Prop := Issues l s c → bits v 63 48 = 0 → bits v 47 32 ≠ 0 →
    s.storeMayGo s.core.active (c.addMark (if free then .p else .s)) = true →
    s.spanBehind (s.partOf c.launch) a free (v.truncate 32) = false →
    let p : PendingSpan := ⟨a, free, v.truncate 32, bits v 47 32, s.core.active, s.issuer c, c.serial⟩
    ∀ s', (if s.spanTurn p then some s else s.takeEntry (s.partOf c.launch) a) = some s' →
    Finishes l s c (.done { s' with sync := { s'.sync with pend := s'.sync.pend ++ [p] } } { c with mark := none, serial := c.serial + 1 })
   posts (.rpost st d n b) false ∧ posts (.rfree st d n b) true)

/-- R336, R339: the tests answer at once, and the waits complete when their condition holds; each acquires at `.p`. -/
def Obligations.ObjectTestsAnswer : Prop :=
  ∀ (st : BitVec 2) (d n b : Code) (s : State) (c : Context) (a : Nat),
  checkObject s c n.toNat (c.read b) = .ok a → s.readReady c a = true →
  let part := s.partOf c.launch
  let v := c.read d
  let got := s.acquire
  let acq (c : Context) : Context := (c.pushLoad (.held c.serial)).addMark .p
  let word (met : Bool) : Dword := .ofNat 64 (met.toNat * 2 ^ 33 +
    (if s.spoiledAt a then 0 else bits (s.syncDword a) 61 61 * 2 ^ 32 + bits (s.syncDword a) 31 0))
  (∀ o, s.barrierFor part a = some o →
    let met := upTo (v.truncate 32) (.ofNat 32 o.phase)
    (Issues (.btest st d n b) s c → Finishes (.btest st d n b) s c (.done got (acq (s.spendMark s.core.active (c.write d (word met)))))) ∧
    (Issues (.bwait st d n b) s c → met = true → Finishes (.bwait st d n b) s c (.done got (acq (s.spendMark s.core.active (c.write d (word true))))))) ∧
  (∀ r, s.ring part a = some r → bits v 63 48 = 0 → bits v 47 32 ≠ 0 →
    let goal : Word := v.truncate 32 + .ofNat 32 (bits v 47 32)
    (Issues (.rtfill st d n b) s c →
      Finishes (.rtfill st d n b) s c (.done got (acq (s.spendMark s.core.active (c.write d (if r.filled goal then 1 else 0)))))) ∧
    (Issues (.rtfree st d n b) s c →
      Finishes (.rtfree st d n b) s c (.done got (acq (s.spendMark s.core.active (c.write d (if r.freed goal then 1 else 0)))))) ∧
    (Issues (.rwfill st d n b) s c → r.filled goal = true → Finishes (.rwfill st d n b) s c (.done got (acq (s.spendMark s.core.active c)))) ∧
    (Issues (.rwfree st d n b) s c → r.freed goal = true → Finishes (.rwfree st d n b) s c (.done got (acq (s.spendMark s.core.active c)))))

/-- R197: vector arithmetic, lane by lane, on floating and integer lanes; an integer `vmul` saturates as the others do (log 102). The flags and
the generator change as the instruction issues (log 101). R198: vector logic, shifts by the count modulo the lane width,
and bit counts. -/
def Obligations.VectorArithmeticLanes : Prop :=
  (∀ (st : BitVec 2) (d a b : BitVec 5) (p : BitVec 3) (m : BitVec 2),
   let three (i : Instr) (ok : Ctl → Bool) (f : Ctl → Nat → Nat → Nat → Dword → LaneOut) : Prop :=
     VectorCompletes i .lanes .byMode p (reps m) [d, a, b] ok anyOk (lanewise3 d a b f)
   let two (i : Instr) (ok : Ctl → Bool) (f : Ctl → Nat → Dword → LaneOut) : Prop :=
     VectorCompletes i .lanes .byMode p (reps m) [d, a] ok anyOk (lanewise2 d a f)
   three (.vadd st d a b p m) rmOk (byType (fun F rm x y _ g => roundLane F rm (addX x y) g) (· + ·)) ∧
   three (.vsub st d a b p m) rmOk (byType (fun F rm x y _ g => roundLane F rm (addX x y.neg) g) (· - ·)) ∧
   three (.vmul st d a b p m) rmOk (byType (fun F rm x y _ g => roundLane F rm (mulX x y) g) (· * ·)) ∧
   three (.vfma st d a b p m) fltOk (byType (fun F rm x y z g => roundLane F rm (fmaX x y z) g) fun x _ => x) ∧
   three (.vmin st d a b p m) anyOk (byType (fun F _ x y _ g => exactLane F (minX x y) g) fun x y => if x ≤ y then x else y) ∧
   three (.vmax st d a b p m) anyOk (byType (fun F _ x y _ g => exactLane F (maxX x y) g) fun x y => if x ≤ y then y else x) ∧
   three (.vdiv st d a b p m) fltOk (byType (fun F rm x y _ g => roundLane F rm (divX x y) g) fun x _ => x) ∧
   two (.vsqrt st d a p m) fltOk (fun k x g => byType (fun F rm x _ _ g => roundLane F rm (sqrtX x) g) (fun x _ => x) k x x x g) ∧
   two (.vexp2 st d a p m) (fun k => onlyF32 k && decide (k.rm ≤ 4)) (fun k x g => roundLane f32 k.rm (exp2X (f32.decode x), {}) g) ∧
   two (.vneg st d a p m) anyOk (fun k x g => byType (fun F _ x _ _ g => exactLane F x.neg g) (fun x _ => -x) k x x x g) ∧
   two (.vabs st d a p m) anyOk (fun k x g => byType (fun F _ x _ _ g => exactLane F x.abs g) (fun x _ => x.natAbs) k x x x g) ∧
   three (.vmulh st d a b p m) intOk (fun k x y _ g => match k.t with
     | .int sg w => (laneOfInt (w / 8) (readInt sg w x * readInt sg w y / (2 ^ w : Nat)), {}, g)
     | .flt _ => (x, {}, g))) ∧
  (∀ (st : BitVec 2) (d a b : BitVec 5) (p : BitVec 3) (m : BitVec 2),
   let three (i : Instr) (ok : Ctl → Bool) (f : Nat → Nat → Nat → Nat) : Prop :=
     VectorCompletes i .lanes .byMode p (reps m) [d, a, b] ok anyOk
       (lanewise3 d a b fun k x y _ g => (f (8 * k.w) x y % 2 ^ (8 * k.w), {}, g))
   let two (i : Instr) (f : Nat → Nat → Nat) : Prop :=
     VectorCompletes i .lanes .byMode p (reps m) [d, a] intOk anyOk (lanewise2 d a fun k x g => (f (8 * k.w) x, {}, g))
   three (.vand st d a b p m) anyOk (fun _ x y => x &&& y) ∧ three (.vor st d a b p m) anyOk (fun _ x y => x ||| y) ∧
   three (.vxor st d a b p m) anyOk (fun _ x y => x ^^^ y) ∧ three (.vandn st d a b p m) anyOk (fun w x y => x &&& (2 ^ w - 1 - y)) ∧
   three (.vshl st d a b p m) intOk (fun w x y => x * 2 ^ (y % w)) ∧ three (.vshr st d a b p m) intOk (fun w x y => x / 2 ^ (y % w)) ∧
   VectorCompletes (.vsra st d a b p m) .lanes .byMode p (reps m) [d, a, b] intOk anyOk
     (lanewise3 d a b fun k x y _ g => (laneOfInt k.w (readInt true (8 * k.w) x / (2 ^ (y % (8 * k.w)) : Nat)), {}, g)) ∧
   two (.vclz st d a p m) (fun w x => if x = 0 then w else w - 1 - Nat.log2 x) ∧
   two (.vpopc st d a p m) (fun w x => ((List.range w).filter fun i => x.testBit i).length))

/-- R199 to R202: compares write predicates of the active lanes, `vsel` selects, predicate logic works below L', and `vpcnt`, `vplo`
and `vphi` count and find the set bits, written to their register as they issue (log 101). A compare keeps the predicate that governs it as it was
at issue (log 102). -/
def Obligations.VectorPredicates : Prop :=
  ∀ (st : BitVec 2) (d a b : BitVec 5) (p : BitVec 3) (m : BitVec 2),
  let compares (i : Instr) (ok : Ctl → Bool) (ft : XVal → XVal → Bool) (it : Int → Int → Bool) : Prop :=
    VectorCompletes i .lanes .byMode p (reps m) [a, b] ok anyOk (compareLanes d a b fun k x y => match k.t with
      | .flt F => ft (F.decode x) (F.decode y)
      | .int sg w => it (readInt sg w x) (readInt sg w y))
  let logic (i : Instr) (x y : BitVec 5) (f : Bool → Bool → Bool) : Prop :=
    VectorCompletes i .len .always 0 1 [] anyOk anyOk fun k s c => .done s
      { c.setPred d.toNat (buildPred k.used fun j => f ((c.pred x.toNat).getLsbD j) ((c.pred y.toNat).getLsbD j)) with
        vbusy := c.vbusy + 1 }
  let counts (i : Instr) (f : List Nat → Dword) : Prop :=
    VectorCompletes i .len .always 0 1 [] anyOk anyOk fun k s c => .done s
      { c.writeX d (f ((List.range k.used).filter fun j => (c.pred a.toNat).getLsbD j)) with vbusy := c.vbusy + 1 }
  compares (.vceq st d a b p m) anyOk XVal.eq (fun x y => decide (x = y)) ∧
  compares (.vclt st d a b p m) anyOk XVal.lt (fun x y => decide (x < y)) ∧
  compares (.vcle st d a b p m) anyOk XVal.le (fun x y => decide (x ≤ y)) ∧
  compares (.vcun st d a b p m) (fun k => k.t.isFloat) (fun x y => x.isNan || y.isNan) (fun _ _ => false) ∧
  VectorCompletes (.vsel st d a b p m) .len .always p (reps m) [d, a, b] anyOk anyOk (selectLanes d a b) ∧
  logic (.pand st d a b) a b (fun x y => x && y) ∧ logic (.por st d a b) a b (fun x y => x || y) ∧
  logic (.pxor st d a b) a b (fun x y => xor x y) ∧ logic (.pandn st d a b) a b (fun x y => x && !y) ∧
  logic (.pnor st d a b) a b (fun x y => !(x || y)) ∧ logic (.pnand st d a b) a b (fun x y => !(x && y)) ∧
  logic (.pnot st d a) a a (fun x _ => !x) ∧ logic (.pfill st d) 0 0 (fun _ _ => true) ∧
  counts (.vpcnt st d a) (fun l => .ofNat 64 l.length) ∧
  counts (.vplo st d a) (fun l => (l.head?.map (BitVec.ofNat 64)).getD (-1)) ∧
  counts (.vphi st d a) (fun l => (l.getLast?.map (BitVec.ofNat 64)).getD (-1))

/-- R203 to R208, R213 to R215, R217: conversions, moves, permutes, reductions, matching and quantising complete; `vfence` completes
once no vector instruction is under way. Flags, generator and the register of `vmovx` and `vdotb` change as the instruction issues (log 101). -/
def Obligations.VectorMovesAndReductions : Prop :=
  ∀ (st : BitVec 2) (d a b : BitVec 5) (p : BitVec 3) (m : BitVec 2),
  let lanes (i : Instr) (n : Nat) (names : List (BitVec 5)) (ok okO0 : Ctl → Bool) (f : Ctl → State → Context → Res) : Prop :=
    VectorCompletes i .lanes .byMode p n names ok okO0 f
  lanes (.vcvt st d a p m) (reps m) [d, a] (fun k => k.source.isSome && decide (k.rm ≤ 4)) anyOk (convertLanes d a) ∧
  lanes (.vmov st d a p m) (reps m) [d, a] anyOk anyOk (lanewise2 d a fun k v g => (if k.bx then k.scalar else v, {}, g)) ∧
  lanes (.vbcast st d p m) (reps m) [d] anyOk anyOk (fun k => k.repeat d.toNat k.lanes fun _ _ _ g => (k.scalar, {}, g)) ∧
  lanes (.viota st d p m) (reps m) [d] intOk anyOk (fun k => k.repeat d.toNat k.lanes fun _ _ j g => (j % 2 ^ (8 * k.w), {}, g)) ∧
  VectorCompletes (.vmovx st d a p) .vt .never p 1 [a] anyOk (fun k => decide (k.o0.toNat < k.lanes)) (fun k s c =>
    let v := s.vlanes c a.toNat k.w (k.o0.toNat % 2 ^ 10)
    .done s { c.writeX d (match k.t with | .int sg w => .ofInt 64 (readInt sg w v) | .flt _ => .ofNat 64 v) with
      vbusy := c.vbusy + 1 }) ∧
  lanes (.vperm st d a b p m) (reps m) [d, a, b] anyOk anyOk (fun k s c => k.repeat d.toNat k.lanes (fun s i j g =>
    (s.vlanes c (a.toNat + i) k.w (s.vlanes c (b.toNat + i) k.w j % k.lanes), {}, g)) s c) ∧
  lanes (.vslide st d a b p m) (reps m) [d, a, b] anyOk (fun k => decide (k.o0.toNat ≤ k.lanes)) (fun k s c =>
    k.repeat d.toNat k.lanes (fun s i j g =>
      (if j + k.o0.toNat < k.lanes then s.vlanes c (a.toNat + i) k.w (j + k.o0.toNat)
        else s.vlanes c (b.toNat + i) k.w (j + k.o0.toNat - k.lanes), {}, g)) s c) ∧
  lanes (.vcompress st d a p) 1 [d, a] anyOk anyOk (compressLanes d a) ∧
  lanes (.vexpand st d a p) 1 [d, a] anyOk anyOk (expandLanes d a) ∧
  lanes (.vred st d a p m) (reps m) [d, a] (redOk 6) anyOk (reduceLanes d a) ∧
  lanes (.vscan st d a p m) (reps m) [d, a] (redOk 6) anyOk (scanLanes d a) ∧
  lanes (.vmatch st d a b p) 1 [d, a, b] (fun k => redOk 5 k && !k.bx) (fun k => decide (k.o0.toNat < 8)) (matchLanes d a b) ∧
  lanes (.vqn4 st d a p) 1 [d, a] onlyF32 (fun k => bits k.o0 63 48 == 0) (quantNq4 d a) ∧
  lanes (.vqe8 st d a p) 1 [d, a] (fun k => onlyF32 k && decide (k.fn ≤ 1)) quantL8Operand (quantL8 d a) ∧
  VectorCompletes (.vdotb st d a b p) .nothing .never p 1 [a, b] (fun k => k.block.isSome) dotOperand (dotProduct d a b) ∧
  (∀ s c k, Issues (.vfence st) s c → Controls .nothing .always 0 1 [] anyOk anyOk k s c → c.vbusy = 0 →
    Finishes (.vfence st) s c (.done s c))

/-- R195, R196: what a lanewise instruction leaves in the rows of its repetitions, in every rounding mode. Repetition i reads the state t i that
the repetitions before it left, and its lane j the generator g i j that the active lanes before it left. In its row an active lane holds its
result, an inactive lane below L' holds 0 where PM is 2, and every other lane, and every row of no repetition, reads as before, where the
accumulator is in its canonical form, which every step keeps (StepKeepsCanonical). -/
def Obligations.LanewiseRowsWritten : Prop :=
  ∀ (k : Ctl) (d : Nat) (f : State → Nat → Nat → Dword → LaneOut) (s : State) (c : Context),
  k.lanes * k.w = 512 → k.lanes ≤ 512 → d + k.reps ≤ 32 → k.used ≤ k.lanes → Memory.wf s.core.acc = true →
  ∃ (t : Nat → State) (g : Nat → Nat → Dword) (s' : State) (c' : Context), k.repeat d k.lanes f s c = .done s' c' ∧
    c'.vbusy = c.vbusy + 1 ∧ c'.x = c.x ∧ c'.o = c.o ∧ c'.p = c.p ∧ t 0 = s ∧ g 0 0 = c.gen ∧ c'.gen = g k.reps 0 ∧
    (∀ i, i < k.reps →
      (∀ j, j < k.lanes →
        g i (j + 1) = (if k.active c j then (f (t i) i j (g i j)).2.2 else g i j) ∧
        rowLane (s'.core.accRow (c.vrow (d + i))) k.w j =
          (if k.active c j then (f (t i) i j (g i j)).1 % 2 ^ (8 * k.w)
           else if k.zeroed c j then 0
           else rowLane (s.core.accRow (c.vrow (d + i))) k.w j)) ∧
      g (i + 1) 0 = g i k.lanes ∧
      (∀ row, row < 128 → (t (i + 1)).core.accRow row =
        if row = c.vrow (d + i) then s'.core.accRow row else (t i).core.accRow row) ∧
      (t (i + 1)).fab = s.fab ∧ (t (i + 1)).core.scratch = s.core.scratch ∧ (t (i + 1)).core.tile = s.core.tile ∧ (t (i + 1)).sync = s.sync) ∧
    (∀ row, row < 128 → (∀ i, i < k.reps → row ≠ c.vrow (d + i)) → s'.core.accRow row = s.core.accRow row) ∧
    s'.fab = s.fab ∧ s'.core.scratch = s.core.scratch ∧ s'.core.tile = s.core.tile ∧ s'.sync = s.sync

/-- R209 to R212: vector loads whose control word is accepted, and that nothing older holds back, complete, reading as they issue (log 48): raw loads
write the register with the bytes they bound, decoding loads the decoded values rounded, each active lane of a repetition that meets a marker 0
(log 49); the offset of a gather's or scatter's lane is the exact sum (log 50); raw stores enter the store queue, one store a repetition; decoding stores are
performed at the home, one store for all repetitions of `vst` (R82) and one a lane of `vstg` (log 68). What a repetition meets (R150) is raised after it. -/
def Obligations.VectorMemoryCompletes : Prop :=
  ∀ (st : BitVec 2) (d b : BitVec 5) (p : BitVec 3) (m : BitVec 2) (s : State) (c : Context) (k : Ctl) (h : Handle),
  let ends (i : Instr) (r : MemRun) : Prop := Finishes i s c (.bound r.1 { r.2.1 with vbusy := r.2.1.vbusy + 1 } r.2.2)
  let c' := s.spendMark s.core.active c
  let sh (ls : List Leaf) : State := s.holdLeaves (s.partOf c.launch) ls
  let lanes := k.gathered s c b
  (∀ q, Issues (.vld st d p m) s c → Controls .lanes .byMode p (reps m) [d] (memoryOk false) (fun _ => true) k s c →
    k.handle s c k.o0 = .ok h → k.st = 0 → checkRawRuns k s c h .read = .ok q →
    vectorReady s c false k.reps h.space q.1.flatten = true →
    ends (.vld st d p m) (q.1.zipIdx.foldl (fun r x => loadRaw k h q.2 (d.toNat + x.2)
      ((k.actives c').map fun j => (j, laneAddrs x.1 k.w j)) (h.va (.ofNat 64 (k.start x.2))) (k.zeroLanes c') r) (sh q.2, c', []))) ∧
  (∀ e, Issues (.vld st d p m) s c → Controls .lanes .byMode p (reps m) [d] (memoryOk false) (fun _ => true) k s c →
    k.handle s c k.o0 = .ok h → k.st ≠ 0 →
    checkVectorElems k s c h k.o0 false (fun pf => (((List.range k.reps).flatMap fun i =>
      (k.elemsOf i (List.range k.used)).map (·.2)).filter fun i => !h.past i).flatMap pf.bytesOf) = .ok e →
    vectorReady s c false k.reps .global (e.addrs.map (·.2)) = true →
    ends (.vld st d p m) ((List.range k.reps).foldl (fun r i => loadElems k e (d.toNat + i) (k.elemsOf i (k.actives c'))
      (elemsVa e (k.elemsOf i (k.actives c'))) (k.zeroLanes c') r) (sh e.leaves, c', []))) ∧
  (∀ q, Issues (.vst st d p m) s c → Controls .lanes .byMode p (reps m) [d] (memoryOk true) (fun _ => true) k s c →
    k.handle s c k.o0 = .ok h → k.st = 0 → checkRawRuns k s c h .write = .ok q →
    vectorReady s c true k.reps h.space q.1.flatten = true →
    ends (.vst st d p m) (q.1.zipIdx.foldl (fun r x => pushStore h q.2 ((k.actives c').flatMap fun j =>
      (laneAddrs x.1 k.w j).zip (leBytes k.w (s.vlanes c' (d.toNat + x.2) k.w j))) r) (sh q.2, c', []))) ∧
  (∀ q, Issues (.vldg st d b p) s c → Controls .lanes .byMode p 1 [d, b] (memoryOk false) (fun _ => true) k s c →
    k.handle s c (firstOffset k lanes) = .ok h → k.st = 0 → checkRawLanes k s c h .read (lanes.map (·.2)) = .ok q →
    vectorReady s c false 1 h.space q.1.flatten = true →
    let met := (lanes.zip q.1).find? fun x => (s.loadMeets h.space h.policy (s.sectorLook q.1.flatten)
      (s.unforwarded s.core.active c'.serial h.space x.2)).isSome
    let va := h.va ((met.map fun x => .ofNat 64 x.1.2).getD (firstOffset k lanes))
    ends (.vldg st d b p) (loadRaw k h q.2 d.toNat ((lanes.map (·.1)).zip q.1) va (k.zeroLanes c') (sh q.2, c', []))) ∧
  (∀ q, Issues (.vstg st d b p) s c → Controls .lanes .byMode p 1 [d, b] (memoryOk true) (fun _ => true) k s c →
    k.handle s c (firstOffset k lanes) = .ok h → k.st = 0 → checkRawLanes k s c h .write (lanes.map (·.2)) = .ok q →
    vectorReady s c true 1 h.space q.1.flatten = true →
    ends (.vstg st d b p) (pushStore h q.2 ((lanes.zip q.1).flatMap fun x =>
      x.2.zip (leBytes k.w (s.vlanes c' d.toNat k.w x.1.1))) (sh q.2, c', []))) ∧
  (∀ e, let runs := (List.range k.reps).map fun i => k.elemsOf i (k.actives c)
    Issues (.vst st d p m) s c → Controls .lanes .byMode p (reps m) [d] (memoryOk true) (fun _ => true) k s c →
    k.handle s c k.o0 = .ok h → k.st ≠ 0 →
    checkVectorElems k s c h k.o0 true (fun pf => (pf.reached h.elen (runs.flatten.map (·.2))).flatMap pf.bytesOf) = .ok e →
    s.editReady s.core.active c (e.addrs.map (·.2)) = true →
    ends (.vst st d p m) (MemRun.place k e (runs.zipIdx.flatMap fun x =>
      x.1.map fun y => (y.2, k.storedValue (s.vlanes c' (d.toNat + x.2) k.w y.1))) (sh e.leaves, c', []))) ∧
  (∀ e, let es := lanes
    Issues (.vldg st d b p) s c → Controls .lanes .byMode p 1 [d, b] (memoryOk false) (fun _ => true) k s c →
    k.handle s c (firstOffset k lanes) = .ok h → k.st ≠ 0 → checkLaneElems k s c h false (es.map (·.2)) = .ok e →
    vectorReady s c false 1 .global (e.addrs.map (·.2)) = true →
    ends (.vldg st d b p) (loadElems k e d.toNat es (elemsVa e es) (k.zeroLanes c') (sh e.leaves, c', []))) ∧
  (∀ e, let es := lanes
    Issues (.vstg st d b p) s c → Controls .lanes .byMode p 1 [d, b] (memoryOk true) (fun _ => true) k s c →
    k.handle s c (firstOffset k lanes) = .ok h → k.st ≠ 0 → checkLaneElems k s c h true (es.map (·.2)) = .ok e →
    s.editReady s.core.active c (e.addrs.map (·.2)) = true →
    ends (.vstg st d b p) ((es.foldl (fun r x => MemRun.place k e [(x.2, k.storedValue (s.vlanes c' d.toNat k.w x.1))] r)
      (sh e.leaves, c', []))))

/-- R216: in a partition with a Lamplighter context `vstop` completes: it tests each active lane's token against its entry, read as
it issues (log 48), writes the predicate of the hits, puts a retire record for each in the queue to `ll`, whatever its room (log 100), and holds an entry of the load
queue; an entry read from a marked line holds no token, and its cause is raised after the instruction. -/
def Obligations.StopTestsTokens : Prop :=
  ∀ (st : BitVec 2) (d a b : BitVec 5) (p : BitVec 3) (s : State) (c : Context) (k : Ctl) (h : Handle) (q : List (List Nat) × List Leaf),
  Issues (.vstop st d a b p) s c → s.serving (s.partOf c.launch) = true →
  Controls .lanes .byMode p 1 [a, b] (fun k => k.t = .int false 32) (fun _ => true) k s c →
  let lanes := stopLanes k s c a b
  k.handle s c (.ofNat 64 ((lanes.head?.map fun x => 64 * x.2.2).getD 0)) = .ok h → checkStops k s c h lanes = .ok q →
  vectorReady s c false 1 h.space q.1.flatten = true →
  let c' := s.spendMark s.core.active c
  let t := (stopTests s c' h q.2 (lanes.zip q.1)).1
  let tests := (stopTests s c' h q.2 (lanes.zip q.1)).2
  let hits := (tests.filter fun t => t.2.1).map (·.1)
  let pd := buildPred 128 fun j =>
    if k.active c' j then hits.any fun x => x.1 == j else (c'.pred d.toNat).getLsbD j && !k.zeroed c' j
  let cmds := hits.zipIdx.map fun x =>
    retireCmd (t.issuer c') c.serial (t.eng.sends + x.2) ⟨x.1.2.2, .ofNat 32 x.1.2.1, c.lid, x.1.1, 1⟩
  Finishes (.vstop st d a b p) s c (.bound
    { t.holdLeaves (t.partOf c.launch) q.2 with eng := { t.eng with cmds := t.eng.cmds ++ cmds, sends := t.eng.sends + cmds.length } }
    { (c'.setPred d.toNat pd).pushLoad (.held c.serial) with vbusy := c.vbusy + 1 }
    (tests.findSome? (·.2.2)).toList)

/-- R236, R238, R239: the first touch. A context that owns the accumulator touches it; with no owner, and no saved accumulator of its own, it
claims it empty, with both field sets and the status reset; with another owner, or with one saved, it takes ACCFIRST with ACOWN. -/
def Obligations.AccumulatorFirstTouch : Prop :=
  ∀ (s : State) (c : Context) (k : State → Context → Res), s.moving = false → c.prv.cur ≠ .machine →
  let id := c.ctxid.toNat
  (s.core.owner = some id → touching k s c = k s c) ∧
  (∀ o, s.core.owner = some o → o ≠ id → touching k s c = .trap .accfirst (s.core.acown.zeroExtend 64)) ∧
  (∀ w, s.core.owner = none → deviceDword s (s.partOf c.launch) ((s.part (s.partOf c.launch)).asbase.toNat + id * 0x11000 + 8) = .ok w →
    (w.getLsbD 14 = true ∧ bits w 13 0 = id → touching k s c = .trap .accfirst (s.core.acown.zeroExtend 64)) ∧
    (¬ (w.getLsbD 14 = true ∧ bits w 13 0 = id) → ∃ s', touching k s c = k s' c ∧ s'.core.owner = some id ∧ s'.core.actouch = 0 ∧
      s'.eng.mx.active = Fields.reset ∧ s'.eng.mx.shadow = Fields.reset ∧ s'.eng.mx.status = 0 ∧ s'.fab = s.fab))

/-- R44, R45: what every engine word common to the engines does to the stack; a shift of 64 or more, a depth of 8 or more, an argument other
than 0 where the table gives 0, and the opcodes 0x0E and 0x0F end the command with EOPX. -/
def Obligations.CommonWordsCompute : Prop :=
  ∀ (v : BitVec 15) (n : BitVec 8) (a b : Dword) (below : List Dword),
  let word (i : Instr) (vs push : List Dword) : Prop := Pops i vs push anyCmd sameState
  word (.engPush v) [] [v.zeroExtend 64] ∧ word .engNop [] [] ∧ word .engDup [a] [a, a] ∧ word .engDrop [a] [] ∧
  word .engSwap [b, a] [a, b] ∧ word .engOver [b, a] [a, b, a] ∧ word .engCat [b, a] [a * 32768 + b] ∧
  word (.engLit8 n) [] [n.signExtend 64] ∧ word .engAdd [b, a] [a + b] ∧ word .engSub [b, a] [a - b] ∧ word .engMul [b, a] [a * b] ∧
  (n.toNat < 64 → word (.engShl n) [a] [a <<< n.toNat]) ∧ word .engAnd [b, a] [a &&& b] ∧ word .engOr [b, a] [a ||| b] ∧
  (n.toNat < 8 → below.length = n.toNat → word (.engPick n) (below ++ [a]) (a :: below ++ [a])) ∧
  (∀ s k st, WordRuns s k st →
    (64 ≤ n.toNat → exec (.engShl n) s = .next (endedWith s k .eopx)) ∧ (8 ≤ n.toNat → exec (.engPick n) s = .next (endedWith s k .eopx))) ∧
  (∀ e w : Nat, w < 0x1000 → w / 256 ∉ [0x06, 0x0A, 0x0D] → w % 256 ≠ 0 ∨ 0x0E ≤ w / 256 → decodeEng e w = none) ∧
  (∀ (w : Half) s k st, WordRuns s k st → exec (.unassignedEngineOpcode w) s = .next (endedWith s k .eopx))

/-- R44, R46: a command that meets a word its engine does not assign, a word that finds too few entries on the stack, or one that would
leave more than eight, ends there: the command is gone, the context's stack for the engine empty, its fault EOPX or ESTK recorded with
the index of the word. The push of `xsend` that would make nine entries ends its command as word 0 (log 31). -/
def Obligations.CommandsEndAtFaults : Prop :=
  (∀ (s : State) (k : Cmd) (p : Dword), s.eng.cmds.head? = some k → s.heldBack k = false → k.param = some p →
    8 ≤ (s.engCtx k.eng k.iss.ctx).stack.length → ∀ (v : BitVec 15) (n : BitVec 8) (w : BitVec 16),
    ∀ i ∈ [Instr.engPush v, .engNop, .engDup, .engDrop, .engSwap, .engOver, .engCat, .engLit8 n, .engAdd, .engSub, .engMul, .engShl n, .engAnd,
      .engOr, .engPick n, .unassignedEngineOpcode w], exec i s = .next (endedWith s { k with index := 0 } .estk)) ∧
  ∀ (s : State) (k : Cmd) (st : List Dword), WordRuns s k st →
  let ended := endedWith s k
  (∀ w, exec (.unassignedEngineOpcode w) s = .next (ended .eopx)) ∧
  (∀ n : BitVec 8, 64 ≤ n.toNat → exec (.engShl n) s = .next (ended .eopx)) ∧
  (∀ n : BitVec 8, 8 ≤ n.toNat → exec (.engPick n) s = .next (ended .eopx)) ∧
  (st.length < 2 → exec .engAdd s = .next (ended .estk) ∧ exec .engSub s = .next (ended .estk) ∧ exec .engMul s = .next (ended .estk) ∧
    exec .engSwap s = .next (ended .estk) ∧ exec .engOver s = .next (ended .estk) ∧ exec .engCat s = .next (ended .estk) ∧
    exec .engAnd s = .next (ended .estk) ∧ exec .engOr s = .next (ended .estk)) ∧
  (st = [] → exec .engDup s = .next (ended .estk) ∧ exec .engDrop s = .next (ended .estk) ∧
    ∀ n, n.toNat < 64 → exec (.engShl n) s = .next (ended .estk)) ∧
  (∀ n : BitVec 8, n.toNat < 8 → st.length ≤ n.toNat ∨ st.length = 8 → exec (.engPick n) s = .next (ended .estk)) ∧
  (st.length = 8 → (∀ v, exec (.engPush v) s = .next (ended .estk)) ∧ (∀ n, exec (.engLit8 n) s = .next (ended .estk)) ∧
    exec .engDup s = .next (ended .estk) ∧ exec .engOver s = .next (ended .estk))

/-- R231, R232, R267, R268: the setters of the matrix engine write the shadow set's fields they name, from the values they pop. -/
def Obligations.MatrixSettersWriteShadow : Prop :=
  ∀ (f : BitVec 8) (l : BitVec 3) (g3 : BitVec 3) (g4 x y : BitVec 4) (b1 : BitVec 1) (a b c d e h : Dword),
  let sets (i : Instr) (vs : List Dword) (m : Fields → Fields) : Prop :=
    Pops i vs [] anyCmd (fun s _ => { s with eng := { s.eng with mx := { s.eng.mx with shadow := m s.eng.mx.shadow } } })
  let six (lo : Nat) (fs : Fields) : Fields :=
    (((((fs.put (lo + 6) a).put (lo + 5) b).put (lo + 4) c).put (lo + 3) d).put (lo + 2) e).put (lo + 1) h
  (f.toNat < 128 → reservedField f.toNat = false → sets (.mset f) [a] (·.put f.toNat a)) ∧
  sets .mgeo [a, b, c] (fun fs => ((fs.put 0x4F a).put 0x4E b).put 0x4D c) ∧
  sets .msra [a, b] (fun fs => (fs.put 0x08 a).put 0x00 b) ∧ sets .msrb [a, b] (fun fs => (fs.put 0x18 a).put 0x10 b) ∧
  sets .mdst [a, b] (fun fs => (fs.put 0x28 a).put 0x20 b) ∧ sets .mssr [a, b] (fun fs => (fs.put 0x38 a).put 0x30 b) ∧
  sets (.mfmt y x) [] (fun fs => (fs.put 0x48 (x.zeroExtend 64)).put 0x49 (y.zeroExtend 64)) ∧
  sets .mbsf [a, b] (fun fs => (fs.put 0x4B a).put 0x4A b) ∧ sets (.mtr b1) [] (·.put 0x4C (b1.zeroExtend 64)) ∧
  sets (.mcos 0) [] (·.put 0x54 0) ∧ sets (.mcos 1) [a] (fun fs => (fs.put 0x54 1).put 0x55 a) ∧
  (l.toNat < 6 → sets (.mlev l) [a] (·.put (0x40 + l.toNat) a)) ∧ sets (.mstr g3) [a, b, c, d, e, h] (six (8 * g3.toNat)) ∧
  sets (.mepi 0) [] (·.put 0x50 0) ∧ sets (.mepi 1) [a] (fun fs => (fs.put 0x50 1).put 0x51 a) ∧
  sets .mtsc [a, b] (fun fs => (fs.put 0x53 a).put 0x52 b) ∧
  (a.toNat < 128 → b.toNat < 1024 → c.toNat < 1024 →
    sets (.mgrp g4) [a, b, c] (·.put (0x60 + g4.toNat) (.ofNat 64 (c.toNat * 2 ^ 22 + b.toNat * 2 ^ 12 + a.toNat * 2 ^ 5)))) ∧
  sets .mgclr [] (fun fs => (List.range 16).foldl (fun fs g => fs.put (0x60 + g) 0) fs) ∧
  (l.toNat ∈ [2, 3, 4] → sets (.msfm l) [] (·.put 0x77 (l.zeroExtend 64))) ∧ sets .msar [a] (·.put 0x7F a) ∧
  sets .msdb [a, b] (fun fs => (fs.put 0x78 a).put 0x70 b) ∧ sets (.msds b1) [a, b, c, d, e, h] (six (0x70 + 8 * b1.toNat)) ∧
  Pops .mswp [] [] anyCmd (fun s _ => { s with eng := { s.eng with
    mx := { s.eng.mx with active := s.eng.mx.shadow, shadow := s.eng.mx.active } } }) ∧
  Pops .mcpy [] [] anyCmd (fun s _ => { s with eng := { s.eng with mx := { s.eng.mx with shadow := s.eng.mx.active } } }) ∧
  Pops .mrst [] [] anyCmd (fun s _ => { s with eng := { s.eng with mx := { s.eng.mx with active := Fields.reset, shadow := Fields.reset } } })

/-- R233 to R235, R240, R243: the launch words of the matrix engine put an operation, with the set as it stood, at the end of the engine's
order, and open the windows of its rows, whatever CHK holds (log 87); `msave` and `mload` are not counted, and fault PRIV outside machine
privilege, with the engine word as the value (log 32). -/
def Obligations.MatrixOperationsLaunch : Prop :=
  ∀ (b1 : BitVec 1) (nl lf nr rf row : Dword),
  let queued (s : State) (k : Cmd) (kind : MxKind) : State := { s with eng := { s.eng with mx := { s.eng.mx with
    ops := s.eng.mx.ops ++ [⟨k.iss, (s.engCtx 0 k.iss.ctx).launched, kind, 0, [], []⟩] } } }
  let counted (s : State) (k : Cmd) (kind : MxKind) : State :=
    let e := s.engCtx 0 k.iss.ctx
    (queued s k kind).setEngCtx { e with ops := e.ops ++ [false], launched := e.launched + 1 }
  let opens (write : Bool) (rows : List Nat) (s : State) (k : Cmd) : State := s.openWindows k.iss 0 (!write) write rows
  (∀ t, Pops (.mgo b1) [] [] (fun s k => AccType.ofCode k.iss.acc.toNat = some t ∧ s.eng.mx.active.ok t = true ∧
      (b1 = 1 → s.eng.mx.active.sideOk t = true)) (fun s k =>
    let fs := s.eng.mx.active
    opens false (fs.reads (b1 == 1)) (opens true fs.writes (counted s k (.go fs (b1 == 1))) k) k)) ∧
  (∀ t, nr ≠ 0 → nl ≠ 0 → rf.toNat + nr.toNat ≤ 128 → lf.toNat + nl.toNat ≤ 512 / AccType.bytes t →
    Pops .mzero [nl, lf, nr, rf] [] (fun _ k => AccType.ofCode k.iss.acc.toNat = some t) (fun s k =>
      opens true (span rf.toNat nr.toNat) (counted s k (.zero rf.toNat nr.toNat lf.toNat nl.toNat)) k)) ∧
  (row.toNat < 128 → Pops (.mstat b1) [row] [] anyCmd (fun s k =>
    opens true [row.toNat] (counted s k (.stat row.toNat (b1 == 1))) k)) ∧
  Pops .msave [] [] (fun _ k => k.iss.level = .machine) (fun s k => queued s k .save) ∧
  Pops .mload [] [] (fun _ k => k.iss.level = .machine) (fun s k => queued s k .load) ∧
  (∀ s k st, WordRuns s k st → k.iss.level ≠ .machine →
    exec .msave s = .next (s.endCommand k .priv 0x2400) ∧ exec .mload s = .next (s.endCommand k .priv 0x2500))

/-- R246 to R248, R253, R256, R257: an accepted `fget` or `fwarm` launches a fetch, `fget` with all its pins taken at once (log 59) where fewer than
sixteen fetches of its context hold theirs, and its windows open whatever CHK holds (log 87), an `fwarm` under the no-LLC policy completing at once; `frel` and `fdrop` release what has completed and mark what has not. -/
def Obligations.TileFetchWordsLaunch : Prop :=
  ∀ (h : BitVec 4) (off gv c n : Dword) (p : FetchPlan),
  let g := FetchGeo.parse gv
  let accepted (tile : Bool) (s : State) (k : Cmd) : Prop :=
    g.ok tile = true ∧ checkFetch s k.iss h.toNat off g = .ok p
  let launched (s : State) (k : Cmd) (f : Fetch) : State :=
    let t := (s.setEngCtx (s.engCtx 1 k.iss.ctx).launchOp).holdLeaves k.iss.part p.leaves
    let t := if f.stage = .pinned then p.lines.foldl State.pinLine t else t
    let t : State := { t with eng := { t.eng with fetches := t.eng.fetches ++ [f] } }
    if f.warm then (if f.policy = .noLlc then (t.bringFetched f).endWarm f else t)
    else t.openWindows k.iss 1 true true (g.rowsWritten f.form)
  let fetch (s : State) (k : Cmd) (rel : Option Word) (ev : Option Nat) : Fetch :=
    p.fetch k.iss (s.engCtx 1 k.iss.ctx).launched gv off rel ev false (if 16 ≤ s.pinning k.iss.ctx then .waiting else .pinned)
  Pops (.fget 0 0 h) [off, gv] [] (accepted true) (fun s k => launched s k (fetch s k none none)) ∧
  Pops (.fget 0 1 h) [off, gv, c] [] (accepted true) (fun s k => launched s k (fetch s k (some (c.truncate 32)) none)) ∧
  (bits n 4 0 = 0 → bits n 63 26 = 0 →
    Pops (.fget 1 0 h) [off, gv, n] [] (accepted true) (fun s k => launched s k (fetch s k none (some n.toNat))) ∧
    Pops (.fget 1 1 h) [off, gv, c, n] [] (accepted true) (fun s k => launched s k (fetch s k (some (c.truncate 32)) (some n.toNat)))) ∧
  Pops (.fwarm h) [off, gv] [] (accepted false) (fun s k =>
    launched s k (p.fetch k.iss (s.engCtx 1 k.iss.ctx).launched gv off none none true .waiting)) ∧
  Pops .frel [n] [] anyCmd (fun s k =>
    match s.eng.fetches.find? fun f => f.iss.ctx = k.iss.ctx && BitVec.ofNat 32 (f.num + 1) == n.truncate 32 with
    | some f => s.dropFetch f
    | none => s) ∧
  Pops .fdrop [] [] anyCmd (fun s k => (s.eng.fetches.filter (·.iss.ctx == k.iss.ctx)).foldl State.dropFetch s)

/-- R277, R278: the words of the adapter translation unit, in a partition with an adapter descriptor, launch their action once their operands and
their record's span have passed. -/
def Obligations.AdapterWordsLaunch : Prop :=
  ∀ (h : BitVec 4) (w : BitVec 1) (off a v m n vn ve bar : Dword) (d : AdDesc) (b : Bar) (r : Mapped),
  barOperand bar = some b → a.toNat < d.count →
  let launches (i : Instr) (vs : List Dword) (kind : AtKind) : Prop :=
    Pops i vs [] (fun s k => (s.part k.iss.part).adesc ≠ 0 ∧ s.adapterDesc k.iss.part = .ok d ∧
      checkRecord s k.iss h.toNat off (32 + 2 * kind.entries) = .ok r) (fun s k =>
      let t := (s.setEngCtx (s.engCtx 2 k.iss.ctx).launchOp).holdLeaves k.iss.part r.leaves
      { t with eng := { t.eng with adapt := t.eng.adapt ++ [⟨k.iss, (s.engCtx 2 k.iss.ctx).launched, kind, a.toNat, r.handle.key, b,
        .of r.handle.space (r.handle.base + off.toNat) r.leaves⟩] } })
  (v.toNat < 2 ^ 32 → m.toNat ≤ 256 → launches (.aget w h) [off, a, v, m, bar] (.get v.toNat m.toNat (w == 1))) ∧
  (m.toNat ≤ 256 → launches (.apin w h) [off, a, m, bar] (.pin m.toNat (w == 1))) ∧
  (v.toNat < 2 ^ 32 → launches (.aunpin h) [off, a, v, bar] (.unpin v.toNat)) ∧
  (1 ≤ n.toNat → n.toNat ≤ 256 → vn ≠ 0 → vn.toNat < 2 ^ 32 → ve.toNat < 2 ^ 32 →
    launches (.aalloc h) [off, a, n, vn, ve, bar] (.alloc n.toNat vn.toNat ve.toNat)) ∧
  (vn ≠ 0 → vn.toNat < 2 ^ 32 → launches (.apub h) [off, a, vn, bar] (.pub vn.toNat)) ∧
  (vn ≠ 0 → vn.toNat < 2 ^ 32 → launches (.aabort h) [off, a, vn, bar] (.abort vn.toNat))

/-- R308 to R317: `wclaim` and `wstat` write their record, give their arrival and count; `wlaunch` launches a local walk; `wrel` returns the
task's permit; `wstop` stops its walk; `wdrain` drains its launch, and is refused at task privilege, with the
engine word as the value of PRIV (log 32). -/
def Obligations.WickWordsAct : Prop :=
  ∀ (h : BitVec 4) (off n bar : Dword) (b : Bar) (r : Mapped), barOperand bar = some b →
  let spot : Spot := .of r.handle.space (r.handle.base + off.toNat) r.leaves
  let clear (s : State) (k : Cmd) : Prop := checkRecord s k.iss h.toNat off 32 = .ok r ∧ s.spotWaits spot 0 32 = false
  let wrote (s : State) (k : Cmd) (bs : List Byte) : State :=
    ((s.writeFor k.iss 3 spot.space false (spot.writes 0 bs)).instantOp 3 k.iss.ctx).engineArrive k.iss 3 b 32
      (s.writeBad spot.space false (spot.writes 0 bs))
  (1 ≤ n.toNat → n.toNat ≤ 64 → Pops (.wclaim h) [off, n, bar] [] clear (fun s k =>
    let g := grant k.iss n.toNat (s.holdLeaves k.iss.part r.leaves)
    wrote g.1 k g.2)) ∧
  Pops (.wstat h) [off, bar] [] clear (fun s k =>
    wrote (s.holdLeaves k.iss.part r.leaves) k (snapshot k.iss (s.holdLeaves k.iss.part r.leaves))) ∧
  (∀ va bs ls nest s k rest, WordRuns s k (off :: bar :: rest) → readLocalNest s k.iss h.toNat off = .ok (va, bs, ls) →
    Nest.parse va bs = some nest → nest.total ≠ 0 →
    ∃ t, exec (.wlaunch h) s = .next (afterWord k s.eng.cmds.tail t rest) ∧ t.disp.nextKey = s.disp.nextKey + 1 ∧
      t.wick.locals = s.wick.locals ++ [⟨s.disp.nextKey, k.iss.launch, k.iss, (s.engCtx 3 k.iss.ctx).launched, b, 
        .start (if nest.order = .strided then { nest with order := .lex } else nest) 0 [],
        (let h := s.holdLeaves k.iss.part ls
        (h.freeRecFor 0 (h.localPrio k.iss.launch)).isNone)⟩]) ∧
  (∀ slot c, Pops .wrel [] [] (fun s k => s.slotOf k.iss.ctx = some slot ∧ s.ctx slot = some c ∧ c.permit = true)
    (fun s _ => (s.setCtx slot (some { c with permit := false })).returnPermit)) ∧
  Pops .wstop [] [] anyCmd (fun s k => stopWalk s k.iss) ∧
  (∀ l, Pops .wdrain [] [] (fun s k => k.iss.level ≠ .task ∧ s.launch k.iss.launch = some l ∧ l.drainable = true)
    (fun s _ => s.startDrain l)) ∧
  (∀ s k st, WordRuns s k st → k.iss.level = .task → exec .wdrain s = .next (s.endCommand k .priv 0x1500))

/-- R341 to R344: the words of the synchronisation engine launch their operations once their operands have passed. -/
def Obligations.SyncWordsLaunch : Prop :=
  ∀ (p w : BitVec 1) (o : BitVec 3) (h : BitVec 4) (bar bytes dst slot src n off v : Dword) (b : Bar) (a : Nat) (ds ss : Spot)
    (ls : List Leaf) (pd ps : CachePolicy) (m : Mapped) (width : Nat),
  let launched (s : State) (k : Cmd) (kind : SyKind) (b : Bar) : State :=
    let t := s.setEngCtx (s.engCtx 4 k.iss.ctx).launchOp
    { t with eng := { t.eng with sy := t.eng.sy ++ [⟨k.iss, (s.engCtx 4 k.iss.ctx).launched, kind, b, 0, 0⟩] } }
  (barOperand bar = some (some a) → bytes.toNat < 2 ^ 32 →
    Pops (.yarv p) [bar, bytes] [] anyCmd (fun s k => launched s k (.arv bytes.toNat (p == 1)) (some a))) ∧
  (barOperand bar = some b → redWidth o.toNat = some width → 1 ≤ n.toNat → n.toNat ≤ 2 ^ 20 → slot.toNat ≤ 15 →
    ∀ s k rest t, WordRuns s k (dst :: slot :: src :: n :: bar :: rest) →
    checkReduce s k.iss h.toNat dst slot.toNat src n.toNat width = .ok (ds, ss, ls, pd, ps) →
    s.takeRanges (redRange k (s.engCtx 4 k.iss.ctx).launched ss (n.toNat * width)) = some t →
    exec (.yred o h) s = .next (afterWord k s.eng.cmds.tail
      (launched (t.holdLeaves k.iss.part ls) k (.red o.toNat ds ss n.toNat pd ps) b) rest)) ∧
  Pops (.yadd w h) [off, v] [] (fun s k => checkAtomic s s.coherentByte (s.accessOf k.iss) h.toNat ((k.iss.handles[h.toNat]?).getD 0).toNat off
      (if w = 1 then 8 else 4) = .ok m)
    (fun s k => launched (s.holdLeaves k.iss.part m.leaves) k (.add m.handle.space m.addrs v (m.handle.va off) m.handle.policy) none)

/-- R347, R353 to R367: the launch words of the copy engines launch their operation, with the ranges of the scratchpad it touches taken (R351;
which they are, by the handle entries read at launch, is log 64), once their operands are in range. -/
def Obligations.CopyWordsLaunch : Prop :=
  ∀ (x y : BitVec 4) (dst src n shape strides pat list spec z cap bar rbar : Dword) (b rb : Bar) (hl es e zn zw : Nat) (l : Dword),
  barOperand bar = some b →
  let launches (i : Instr) (vs : List Dword) (ready : State → Cmd → Prop) (kind : CpKind) : Prop :=
    ∀ s k rest t, WordRuns s k (vs ++ rest) → ready s k →
    s.takeRanges (rangesOf s k (s.engCtx k.eng k.iss.ctx).launched kind) = some t →
    let t := t.setEngCtx (t.engCtx k.eng k.iss.ctx).launchOp
    exec i s = .next (afterWord k s.eng.cmds.tail { t with eng := { t.eng with cp := t.eng.cp ++
      [⟨k.eng, k.iss, (s.engCtx k.eng k.iss.ctx).launched, kind, b, false, none, none, none, 0, 0,
        (kind.remote.bind fun r => s.peerOf k.iss.part (remoteMod r)).getD 0, false, 0, false, none, [], 0, false, none⟩] } } rest)
  (1 ≤ n.toNat → n.toNat ≤ 2 ^ 30 → launches (.ccopy x y) [dst, src, n, bar] anyCmd (.copy x.toNat y.toNat src dst n.toNat)) ∧
  (let rows := bits shape 47 32 + 1
   let bytes := bits shape 31 0
   bits shape 63 48 = 0 → 1 ≤ bytes → bytes ≤ 2 ^ 20 → rows * bytes ≤ 2 ^ 30 →
    launches (.c2d x y) [dst, src, shape, strides, bar] anyCmd
      (.rows x.toNat y.toNat src dst rows bytes (bits strides 31 0) (bits strides 63 32))) ∧
  (1 ≤ n.toNat → n.toNat ≤ 2 ^ 30 → launches (.cfill y) [dst, n, pat, bar] anyCmd (.fill y.toNat dst n.toNat pat)) ∧
  (listSpec list spec = some (hl, l, es, e) →
    launches (.cgath x y) [dst, src, list, spec, bar] anyCmd (.gather x.toNat y.toNat src dst hl l es e) ∧
    launches (.cscat x y) [dst, src, list, spec, bar] anyCmd (.scatter x.toNat y.toNat src dst hl l es e)) ∧
  (zspecOf z = some (zn, zw) →
    (32 ≤ cap.toNat → cap.toNat ≤ 2 ^ 30 →
      launches (.czip x y) [dst, src, z, cap, bar] anyCmd (.zip x.toNat y.toNat src dst zn zw cap.toNat)) ∧
    (96 ≤ cap.toNat → cap.toNat ≤ 2 ^ 30 →
      launches (.cunz x y) [dst, src, z, cap, bar] anyCmd (.unzip x.toNat y.toNat src dst zn zw cap.toNat false) ∧
      launches (.cdf x y) [dst, src, z, cap, bar] anyCmd (.unzip x.toNat y.toNat src dst zn zw cap.toNat true))) ∧
  (barOperand rbar = some rb → 1 ≤ n.toNat → n.toNat ≤ 2 ^ 30 →
    launches (.crput x) [dst, src, n, bar, rbar] (fun s k => remoteOk s k.iss.part dst = true) (.put x.toNat src dst n.toNat rb)) ∧
  (1 ≤ n.toNat → n.toNat ≤ 2 ^ 30 →
    launches (.crget y) [dst, src, n, bar] (fun s k => remoteOk s k.iss.part src = true) (.get y.toNat dst src n.toNat)) ∧
  (barOperand rbar = some rb → bits spec 63 27 = 0 → bits spec 23 20 = 0 → bits spec 26 24 ≤ 4 →
    launches (.crred x) [dst, src, spec, bar, rbar] (fun s k => remoteOk s k.iss.part dst = true)
      (.reduce x.toNat src dst (bits spec 26 24) (bits spec 19 0 + 1) rb))

/-- R377 to R389: the words of the Lamplighter, in a partition that has a context there: a step runs, a sequence is marked for retirement,
admission is held or not, and a record is written. -/
def Obligations.LamplighterWordsAct : Prop :=
  ∀ (cause : BitVec 3) (hold : BitVec 1) (h : BitVec 4) (off q bar : Dword) (b : Bar) (l : LlPart) (r : Mapped) (bs : List Byte),
  let spot : Spot := .of r.handle.space (r.handle.base + off.toNat) r.leaves
  let held (s : State) (k : Cmd) : Prop := s.lamp k.iss.part = some l
  let wrote (n : Nat) (s : State) (k : Cmd) : State :=
    let t := (s.setEngCtx (s.engCtx 7 k.iss.ctx).launchOp).holdLeaves k.iss.part r.leaves
    endLamp k.iss (s.engCtx 7 k.iss.ctx).launched b n (t.writeBad spot.space false (spot.writes 0 bs)) none
      (t.writeFor k.iss 7 spot.space false (spot.writes 0 bs))
  let formed (n : Nat) (f : State → Check (List Byte)) (s : State) (k : Cmd) : Prop :=
    held s k ∧ checkRecord s k.iss h.toNat off n = .ok r ∧ s.spotWaits spot 0 n = false ∧
    f ((s.setEngCtx (s.engCtx 7 k.iss.ctx).launchOp).holdLeaves k.iss.part r.leaves) = .ok bs
  barOperand bar = some b →
  (let step (s : State) (k : Cmd) : Option State :=
    stepLamp k.iss.part k.iss (s.engCtx 7 k.iss.ctx).launched k.index b (s.setEngCtx (s.engCtx 7 k.iss.ctx).launchOp)
   Pops .lstep [bar] [] (fun s k => held s k ∧ ∃ t, step s k = some t ∧ s.wroteAll t = true) (fun s k => (step s k).getD s)) ∧
  (cause.toNat = 3 ∨ cause.toNat = 4 → q.toNat < 4096 →
    Pops (.lret cause) [q] [] (fun s k => held s k ∧ s.wroteAll (s.markSeq k.iss.part q.toNat cause.toNat 0) = true ∧
        s.markAwaits k.iss.part q.toNat = false)
      (fun s k => (s.markSeq k.iss.part q.toNat cause.toNat 0).instantOp 7 k.iss.ctx)) ∧
  Pops (.lhold hold) [] [] held (fun s _ => s.putLamp { l with hold := hold == 1 }) ∧
  Pops (.lstat h) [off, bar] [] (formed 32 (lampStat l)) (wrote 32) ∧
  (q.toNat < 4096 → Pops (.lseq h) [off, q, bar] [] (formed 64 (lampSeq l q.toNat)) (wrote 64))

/-- What the modelled core does between issues. R95, R99: a result that has reached its cycle, and whose register no load is to write,
lands. R141, R144, R335: a load, atomic or reservation with no older load of its bytes, and no older arrival at them, outstanding returns. R140: the head of a store queue that may leave it is performed. R189: a
vector instruction completes, once its retire records have room in their queue (R216; that they wait there is log 100). R170: a line fetched
ahead, whose page's entry the partition holds and whose header is sealed, comes in sector by sector, 3, 0, 1, 2, and with the last enters the core. R133: a held cause is delivered at a
boundary where the instruction at pc is fetched and neither its gate nor its effect raises a precise cause; a script's entry comes with that
instruction's issue, so that such a cause goes first. R340: a wait whose condition holds ends as its instruction does. R109, R137: a
reserved encoding takes ILLOP with its word. -/
def Obligations.CoreEventsHappen : Prop :=
  ∀ (s : State) (slot : Bool) (c : Context), s.ctx slot = some c →
  (∀ p rest, c.pend = p :: rest → p.due ≤ c.sched → c.interlocked [p.dest] = false →
    exec (.resultLanding slot) s = .next (s.setCtx slot (some { c.land p with pend := rest }))) ∧
  (∀ idx fresh e, c.lq[idx]? = some e → e.back = false →
    let older := (c.lq.take idx).filter (!·.back)
    (∀ o ∈ older, o.space.memory ≠ e.space.memory ∨ ∀ a ∈ e.addrs, a ∉ o.addrs) →
    (e.space.memory = .global → s.awaitsScrub e.addrs = false) → (e.space = .sync → s.arrivingAt c.ctxid.toNat e.addrs = false) →
    (e.kind.stores = true → s.updateMayGo slot c older e = true) →
    exec (.loadReturn slot idx fresh) s = .next (match e.kind with
      | .signed | .unsigned => returnLoad s slot c idx e fresh
      | .atomic op v x => returnAtomic s slot c idx e op v x
      | .reserve take n => returnReserve s slot c idx e take n)) ∧
  (∀ e rest, s.sq slot = e :: rest → s.mayLeave slot e = true →
    exec (.storePerformed slot) s = .next ((s.setSq slot (ripe rest)).perform slot e)) ∧
  (∀ n, c.vbusy = n + 1 → s.queuedTo 7 ≤ 16 → exec (.vectorComplete slot) s = .next (s.setCtx slot (some { c with vbusy := n }))) ∧
  (∀ line, line % 128 = 0 → s.codeHeld (s.partOf c.launch) line = true → s.populated line = true → inFrames line = false → s.fetchCopy c line = none → s.meets line = none →
    lineSeal (s.fillData c line) = 2 → lineKind (s.fillData c line) < 2 →
    let got := c.fillGot line
    (∀ x, fillOrder[got.length + 1]? = some x → exec (.fetchFill slot line) s = .next
      (s.setCtx slot (some { c with fill := some ⟨line, got ++ [s.fillSector line ((fillOrder[got.length]?).getD 0)]⟩ }))) ∧
    (fillOrder[got.length + 1]? = none → exec (.fetchFill slot line) s = .next ((s.cacheLine ⟨line, s.fillData c line⟩).setCtx slot
      (some { c with fbuf := c.fbuf.take 1 ++ [⟨line, s.fillData c line⟩], fill := none })))) ∧
  (s.core.active = slot → c.stopped = false → s.core.busyTill ≤ s.core.now →
    (∀ h rest s' c' w w2 i priv body effect, c.held = h :: rest → c.prv.emask = false → c.quiet = true →
      fetchNext s c slot = .ok (s', c', w, w2) → decodeSeq w.toNat w2.toNat = .ok i → (∀ t, exec i t = issue i priv body t) →
      let s1 := s'.setCtx slot (some c')
      gate i i.form priv s1 = .go (c'.atIssue i) →
      (body s1 (c'.atIssue i)).checked i.form (Instr.settled i (c'.atIssue i)) = effect → (∀ k v, effect ≠ .trap k v) →
      exec .asyncEntry s =
        .next ((s.takeTrap slot { c with held := rest } h.cause h.src h.val c.pc (some h.lvl)).tick 1)) ∧
    (∀ rest, s.script = .event .asyncEntry :: rest → step s = issueTurn { s with script := rest }) ∧
    (∀ w, exec (.reservedEncoding w) s = .next (s.precise c .illop (w.zeroExtend 64))) ∧
    ∀ s' c' w w2, s.waitMet c = true → fetchNext s c slot = .ok (s', c', w, w2) →
      let s1 := s'.setCtx slot (some c')
      ∀ st d n b,
        let ends (i : Instr) : Prop := decodeSeq w.toNat w2.toNat = .ok i → ∃ t, exec (.waitSatisfied slot) s = .next t ∧ exec i s1 = .next t
        ends (.bwait st d n b) ∧ ends (.rwfill st d n b) ∧ ends (.rwfree st d n b))

/-- Operations of the engines come to their end. R230, R49: the head operation of the matrix engine, counted unless it is housekeeping.
R253, R255, R257: a fetch takes its pins, fills its rows, releases (that all its rows are written at its completion is log 59); a warm brings its
lines in. R276, R341: an adapter action and a synchronisation operation take effect, the bytes still to count with its arrival. R314: a local
walk completes (that its arrival counts 0 bytes is log 61). R346, R348: a copy starts and ends. R381, R386: a waiting step
resumes, a retire record runs. R371: a host's LLCMD write becomes a command. -/
def Obligations.EngineEventsHappen : Prop :=
  ∀ (s : State) (ctx : Nat),
  (∀ op rest, s.eng.mx.ops = op :: rest → s.moveAwaits op = false → op.kind ≠ .save ∨ (s.mxFinish op).fab.waiting = s.fab.waiting →
    let t : State := { s.mxFinish op with eng := { (s.mxFinish op).eng with
      mx := { (s.mxFinish op).eng.mx with ops := (s.mxFinish op).eng.mx.ops.tail } } }
    exec .mxOperationComplete s = .next (if op.kind = .save ∨ op.kind = .load then t else t.completeOp 0 op.iss.ctx op.num)) ∧
  (∀ f, s.fetchAt ctx false .waiting = some f → s.pinning ctx < 16 →
    exec (.fetchPinsTaken ctx) s = .next ((f.lines.foldl State.pinLine s).putFetch f { f with stage := .pinned })) ∧
  (∀ f, s.fetchAt ctx false .pinned = some f → s.awaitsScrub f.lines = false → (f.firstBad s).2 = none →
    let rows : State := { s with core := { s.core with tile := f.fill s (f.firstBad s).1 } }
    let t := ((rows.bringFetched f).completeOp 1 ctx f.num).putFetch f { f with stage := .written }
    exec (.fetchComplete ctx) s =
      .next (if f.rel = none ∨ f.dropped = true then t.releaseFetch { f with stage := .written } else t)) ∧
  (∀ f num, s.fetchNum ctx num = some f → exec (.fetchRelease ctx num) s = .next (s.releaseFetch f)) ∧
  (∀ f, s.fetchAt ctx true .waiting = some f → s.awaitsScrub f.lines = false → (∀ l ∈ f.lines, ∃ x ∈ (s.bringFetched f).fab.llc, x.line = l) →
    exec (.fwarmComplete ctx) s = .next ((s.bringFetched f).endWarm f)) ∧
  (adapterReady ctx s = true → exec (.adapterAction ctx) s = .next (adapterEffect ctx s)) ∧
  (∀ id w, s.localWalk id = some w → w.walk.handed = w.walk.ended → w.walk.allHanded = true →
    let t : State := { s with wick := { s.wick with
      locals := s.wick.locals.filter (·.id != id), recs := s.wick.recs.filter (·.walk != some id) } }
    exec (.localWalkComplete id) s = .next ((t.engineArrive w.iss 3 w.bar 0 false).completeOp 3 w.iss.ctx w.num)) ∧
  (∀ op s' n s'' op', s.syncOp ctx = some op → op.run op.size s = (s', n, .done) → op.count n s' = (s'', op') →
    let t : State := { s'' with eng := { s''.eng with sy := s''.eng.sy.erase op } }
    exec (.syOperationComplete ctx) s = .next (((t.dropRanges 4 ctx op.num).engineArrive op.iss 4 op.bar (op.bytes - op'.counted)
      (match op.kind with | .arv _ p => p | _ => false)).completeOp 4 ctx op.num)) ∧
  (∀ eng op, s.copyOp eng ctx = some op →
    (op.started = false → s.fencedFor op = true →
      (checkCopy s op.iss op.kind).awaits = false →
      exec (.copyOperationStart eng ctx) s = .next (startCopy eng ctx s)) ∧
    (∀ s' poison, op.started = true → copyEnd op s = some (s', none, poison) →
      let t : State := { s' with eng := { s'.eng with
        cp := s'.eng.cp.filter fun o => ¬ (o.eng = eng ∧ o.iss.ctx = ctx ∧ o.num = op.num) } }
      exec (.copyOperationComplete eng ctx) s =
        .next (((t.dropRanges eng ctx op.num).engineArrive op.iss eng op.bar (op.kind.bytes - op.counted) poison).completeOp eng ctx op.num))) ∧
  (∀ p l w, s.lamp p = some l → l.waiting = some w → stepMay s p w = true → postAwaits p w s = false → s.wroteAll (postEntry p w s) = true →
    exec (.lstepResume p) s = .next (postEntry p w (s.putLamp { l with waiting := none }))) ∧
  (∀ k r, s.nextRetire = some (k, r) →
    let t : State := { s with eng := { s.eng with cmds := s.eng.cmds.erase k } }
    exec .retireRecord s = .next ((t.markSeq k.iss.part r.q 1 r.tok).instantOp 7 k.iss.ctx)) ∧
  (∀ p port words h, p < 16 → (s.lamp p).isSome = true → s.mgmt.hosts[port]? = some h → h.fenced = false →
    ∃ k, exec (.llcmd p port words) s = .next { s with eng := { s.eng with cmds := s.eng.cmds ++ [k], sends := s.eng.sends + 1 } } ∧
      k.eng = 7 ∧ k.iss = hostIssuer p port ∧
      k.words = [words.truncate 16, (words >>> 16).truncate 16, (words >>> 32).truncate 16, (words >>> 48).truncate 16])

/-- Queues, launches and tasks move on. R29: a notify. R34, R35: a slot is released, a selected queue's next entry is taken. R33: met
dependences make a launch ready. R35, R291, R294 to R298, R300: the Wick takes the ready launch of highest priority that it can place, lets
a running one join, hands tasks and gangs, grants claims, starts tasks. R37, R38: time slices and urgent requests, of a gang for every
member, and their expiry (record, then policy, then the end of the context: log 76). R93, R298: contexts are saved and restored. R136: an
ended task counts. R302, R40: drains and launches end. -/
def Obligations.LaunchesMoveOn : Prop :=
  ∀ (s : State) (slot : Bool) (key : Nat),
  (∀ p q tail, p < 16 → q < 256 → s.notifyAwaits p q = false → exec (.queueNotify p q tail) s = .next (s.notifyQueue p q (tail.truncate 32))) ∧
  (∀ h r k, s.disp.slots.find? (·.slot == k) = some h → s.queue h.part h.queue = some r → r.tail = r.head →
    s.queueLaunches h.part h.queue = [] → exec (.queueSlotRelease k) s = .next (releaseSlot k s)) ∧
  (∀ k, selectable k s = true → exec (.launchActivation k) s = .next (visitSlot k s)) ∧
  (∀ p, timeSliceReady p s = true →
    exec (.timeSliceEnd p) s = .next ((s.disp.launches.filter (s.sliceDue p)).foldl State.startDrain s)) ∧
  (handOffReady s = true → exec .taskHandOff s = .next (handOff s)) ∧
  (∀ l, s.launch key = some l → l.retired = false →
    (l.st = .waiting → l.faulted = none → l.serial = false → (∀ v ∈ l.deps, s.dependence l.part v = some true) →
      exec (.dependencesMet key) s = .next ((s.mapLaunch key fun m => { m with st := .ready }).setStatus l 0 3)) ∧
    (s.takeable l = true → (∀ m ∈ s.disp.launches, m.res.prio ≤ l.res.prio ∨ s.takeable m = false) →
      exec (.wickTakeLaunch key) s = .next (s.takeLaunch l)) ∧
    (∀ t, l.st ≠ .ready → s.mayJoin l = true → s.claimRec key l.res.prio = some t → exec (.wickTakeLaunch key) s = .next t) ∧
    (∀ cluster n, l.st = .running → l.gang = none → cluster ≠ s.cluster → l.res.mask.getLsbD cluster = true →
      s.barredCluster l.part cluster = false → s.nextTask key none cluster = some n →
      exec (.claimGrant key cluster) s = .next (s.mapWalk key none fun w => w.take (s.isStrided key none) cluster)) ∧
    (∀ w, l.walk = some w → w.allHanded = true → w.handed = w.ended → s.wick.locals.all (·.launch != l.key) = true →
      (s.writeProgress l).fab.waiting.length = s.fab.waiting.length →
      exec (.launchRetirement key) s = .next (s.retire l)) ∧
    (drainReady key s = true → exec (.drainComplete key) s = .next (finishDrain key s)) ∧
    (gangReady key s = true → exec (.gangHandOff key) s = .next (handGang key s))) ∧
  (∀ t l w k, s.startable slot = some (t, l, w, k) →
    (s.tryStore l.part (s.saveArea l.part k) (leBytes 24 0)).fab.waiting.length = s.fab.waiting.length →
    waitsScrub (s.writeOwn l.part (s.saveArea l.part k) (leBytes 24 0)).2 = false →
    exec (.taskStart slot) s =
      .next (({ s with wick := { s.wick with queue := s.wick.queue.tail } } : State).startTask slot l w t k false)) ∧
  (∀ e task byFault, s.endingTask key task byFault = some e →
    let t : State := { s with disp := { s.disp with ending := s.disp.ending.erase e } }
    exec (.taskEndCounted key task byFault) s =
      .next ((t.dropContext e.ctx).countEnded e.launch e.walk (1 + e.claimed) byFault).refreshHolds) ∧
  (∀ c, s.ctx slot = some c → c.stopped = false →
    (∀ l, c.urgent = none → s.launch c.launch = some l → l.res.preempt = true →
      ∃ t, exec (.urgentPreemptionRequest slot) s = .next t ∧ t.ctx slot = some { c with urgent := some s.core.now } ∧
        ∀ d, s.ctx (!slot) = some d → t.ctx (!slot) = some
          (if c.gang = true ∧ d.gang = true ∧ d.launch = c.launch ∧ d.stopped = false ∧ d.urgent = none then
            { d with urgent := some s.core.now } else d)) ∧
    (∀ at_, c.urgent = some at_ → at_ + 65536 ≤ s.core.now →
      let t := s.recordFor c.launch .preemptlate 0 false (s.slotNumber slot) 65536
      exec (.preemptlate slot) s = .next (if c.prv.cur = .machine then s.stopContext slot c .preemptlate 0 65536 false
        else (t.applyPolicy c.launch (t.policyOf c.launch) .preemptlate).endTask slot true))) ∧
  (∀ c s', s.ctx slot = some c → s.savable slot = true → s.saveImage c = (s', none) → s'.fab.waiting.length = s.fab.waiting.length →
    ∃ t, exec (.contextSave slot) s = .next t ∧ t.ctx slot = none ∧
      t.disp.saved = s'.disp.saved ++ [⟨c.ctxid.toNat, c.launch, c.walk, c.taskNo.toNat, c.claimed, c.gang, c.held, s'.core.id⟩]) ∧
  (∀ k ∈ s.disp.saved, s.ctx slot = none → s.mayHold k s.cluster = true → s.backHere slot k = true →
    (deviceRead s s.coherentByte (s.partOf k.launch) (s.imageAt (s.partOf k.launch) k.ctx) 4096).awaits = false →
    exec (.contextRestore slot k.ctx) s = .next (restoreContext slot k.ctx s))

/-- Synchronisation space and the coherence protocol act. R323, R324: arrivals and flips reach their objects. R338: a span applies in its
turn. R320: an error spoils a block. R392 to R394: home reads, registrations, write-backs, forwarded reads, revokes and acknowledgements,
each handled when it is the next message of its word (log 86): the acknowledgement of the oldest registration merges its bytes over the
value received, or known, and the word stays in P until the last of several registrations out at once is acknowledged (log 20); a revoke is
answered from R, from the write-back buffer, or between registrations (log 95); an eviction sends a registered word home. -/
def Obligations.SharingEventsHappen : Prop :=
  ∀ (s : State) (a n w who : Nat) (poison : Bool) (v : Word),
  let without (m : Msg) : State := { s with inflight := s.inflight.erase m }
  (∀ src, .arrive a n poison src ∈ s.inflight →
    exec (.arrival a n poison src) s = .next ((without (.arrive a n poison src)).arrive a n poison src)) ∧
  (∀ m, s.inflight.find? (fun x => match x with | .flip _ c p b => c == a && p == n && b == poison | _ => false) = some m →
    exec (.childFlip a n poison) s = .next ((without m).flipChild a poison)) ∧
  (∀ p rest s', s.sync.pend = p :: rest → s.spanTurn p = true →
    ({ s with sync := { s.sync with pend := rest } } : State).applySpan p = some s' → exec (.ringSpanApplied 0) s = .next s') ∧
  (a < 2 ^ 26 → ∃ t, exec (.syncSramError a) s = .next t ∧ ∀ x, t.spoiledAt x = true ↔ s.spoiledAt x = true ∨ x / 32 = a / 32) ∧
  exec (.homeRead w who) s = .next (if who ≠ s.core.id ∧ s.registered w then s.send (.forward w who) else s) ∧
  (∀ mask, who ≠ s.core.id → inFrames (4 * w) = false → s.writeWaits (4 * w) = false →
    exec (.homeRegistration w who mask v) s = .next (s.recordOther w who mask v)) ∧
  (∀ m k, s.nextMsg true w = some (.register w m) → s.fab.copy w = some k → (∃ r ∈ k.regs, r.recorded = false) → inFrames (4 * w) = false → s.writeWaits (4 * w) = false →
    ∀ mask' v', exec (.homeRegistration w s.core.id mask' v') s = .next (s.recordOwn w)) ∧
  (who ≠ s.core.id → (w, who) ∈ s.fab.owners → s.fab.latent.contains (lineOf (4 * w)) = false →
    ∃ t, exec (.homeWriteBack w who v) s = .next t ∧ t.fab.owners = s.fab.owners.filter (·.1 != w) ∧
      t.fab.mem = writeBytes (maskBytes w 15 v) s.fab.mem) ∧
  (∀ k, s.fab.copy w = some k →
    let leaves (m : Msg) (c : Option CacheWord) : State := { without m with fab := s.fab.setCopy w c }
    (s.nextMsg false w = some (.forward w who) → k.held ≠ none → exec (.forwardedRead w who) s = .next (without (.forward w who))) ∧
    (∀ mask, s.nextMsg false w = some (.revoke w who mask) → k.held ≠ none →
      exec (.revoke w who) s = .next (leaves (.revoke w who mask) (match k.st with
        | .r | .w => none
        | .p => some { k with held := none }
        | .v => some k))) ∧
    (∀ home other r rest, s.nextMsg false w = some (.ack w home other) → home = none ∨ home = some v → k.regs = r :: rest → r.recorded = true →
      let got := mergeWord r.mask r.data ((home <|> k.held <|> k.known).getD (s.fab.home w))
      exec (.registrationAck w v) s = .next (leaves (.ack w home other)
        (some ⟨w, if rest = [] then .r else .p, some got, some got, rest, r.who⟩))) ∧
    (k.st = .w → s.nextMsg false w = some (.wbAck w) → exec (.writeBackAcknowledgement w) s = .next (leaves (.wbAck w) none)) ∧
    (∀ d, k.st = .r → k.held = some d → exec (.lineEviction w) s =
      .next (({ s with fab := s.fab.setCopy w (some { k with st := .w }) } : State).send (.writeBack w d))))

/-- Hosts, shootdowns, errors and lost agents. R254, R397, R398, R417: a host reads, takes lines exclusive (by a write with no bytes: log 78), writes what it holds
and gives lines back, no write passing a pin; reaches its own memory, and the doorbell frames.
R405, R406: shootdown requests are accepted and complete in order. R407: errors mark lines. R412, R413: a dead agent is fenced, and its
lines scrubbed. -/
def Obligations.HostAndErrorEventsHappen : Prop :=
  ∀ (s : State) (port addr line p : Nat) (v : Dword) (bs : List Byte),
  (s.portOpen port = true → s.populated addr = true → target addr < 2 → inFrames addr = false → s.otherHolds port (addr / 64) = false →
    (addr % 64 + bs.length ≤ 64 → exec (.hostAccess port addr false bs) s =
      .next (if s.hostEntry port (addr / 64) = none then s.putHost port (addr / 64) (some .shared) else s)) ∧
    (s.pins (lineOf addr) = 0 → exec (.hostAccess port addr true []) s = .next (s.holdExclusive port (addr / 64))) ∧
    (∀ m, s.hostEntry port (addr / 64) = some ⟨port, addr / 64, .excl m⟩ → s.pins (lineOf addr) = 0 → bs ≠ [] → addr % 64 + bs.length ≤ 64 →
      let t : State := { s with fab := { s.fab with mem := writeBytes ((span addr bs.length).zip bs) s.fab.mem } }
      exec (.hostAccess port addr true bs) s = .next (t.putHost port (addr / 64) (some (.excl true))))) ∧
  (∀ write, s.portOpen port = true → s.populated addr = true → addr % 64 + bs.length ≤ 64 →
    (ownMemory port addr = true → inFrames addr = false → s.otherHolds port (addr / 64) = false → (write = true → s.pins (lineOf addr) = 0) →
      exec (.hostAccess port addr write bs) s = .next (s.ownAccess port addr write bs)) ∧
    (target addr < 2 → inFrames addr = true → addr % 8 = 0 → bs.length = 8 → s.frameBusy (frameOf addr).1 (frameOf addr).2 = false →
      exec (.hostAccess port addr true bs) s = .next (s.frameStore (frameOf addr).1 (frameOf addr).2 (.ofNat 64 (leNat bs))))) ∧
  (s.portOpen port = true → target (64 * line) < 2 → ∀ m, s.hostEntry port line = some ⟨port, line, .excl m⟩ →
    (bs.length = 64 → s.pins (lineOf (64 * line)) = 0 → exec (.hostLineWriteback port line (some bs)) s =
      .next ((s.putHost port line none).homeWrite false ((span (64 * line) 64).zip bs)).drainWaiting) ∧
    (m = false → exec (.hostLineWriteback port line none) s = .next (s.putHost port line none).drainWaiting)) ∧
  (s.populated line = true → inFrames line = false →
    (∃ t, exec (.uncorrectableError line false) s = .next t ∧ lineOf line ∈ t.fab.poison ∧ lineOf line ∉ t.fab.latent) ∧
    ∃ t, exec (.uncorrectableError line true) s = .next t ∧ (lineOf line ∈ t.fab.poison ∨ lineOf line ∈ t.fab.latent)) ∧
  (p < 16 → s.shootdownsFull p = false → ∃ t, exec (.sdreq p v) s = .next t ∧ (t.part p).sdarr = (s.part p).sdarr + 1 ∧
    (t.part p).sdreqs = (s.part p).sdreqs ++ [if bits v 3 1 ≠ 0 ∨ v.getLsbD 0 then 1 else v]) ∧
  (∀ r rest, p < 16 → (s.part p).sdreqs = r :: rest → s.partQuiet p (shootdownRange r) = true →
    ∃ t, exec (.shootdownComplete p) s = .next t ∧ (t.part p).sdreqs = rest ∧ (t.part p).sddone = (s.part p).sddone + 1 ∧
      ∀ e, e ∈ t.fab.tlb ↔ e ∈ s.fab.tlb ∧ e.inRange p (shootdownRange r) = false) ∧
  (agentDeadReady true line s = true → exec (.agentDead true line) s = .next (s.fenceModule line)) ∧
  (agentDeadReady false port s = true → exec (.agentDead false port) s = .next (s.fencePort port)) ∧
  (∀ e ∈ s.fab.hosts, e.line = line → s.portFenced e.port = true →
    ∃ t, exec (.snufferScrub line) s = .next t ∧ (e.st = .excl true → s.fab.waiting = [] → lineOf (64 * line) ∈ t.fab.lost))

/-- R416, R418 to R424, R427: writes to a partition block: PSTAT gets 0 and the register the value, or PSTAT the first condition's status
and the register stays; before bring-up a write does nothing (R440). Requests queue, and complete: resizes, cluster releases, way reclaims,
instruction-copy discards. -/
def Obligations.PartitionEventsHappen : Prop :=
  ∀ (s : State) (p k line : Nat) (v : Dword), p < 16 →
  let r := s.part p
  let writes (i : Instr) (status : Nat) (r' : PartRegs) : Prop :=
    ∃ t, exec i s = .next t ∧ t.part p = (if status = 0 then { r' with pstat := 0 } else { r with pstat := .ofNat 8 status })
  let old := waysNamed r.waymask
  (s.mgmt.up = false → ∀ i ∈ [Instr.pctl p v, .ptbase p v, .swin p v, .evring p v, .waymask p v, .sdesc p v, .icreq p v, .rgo p v],
    exec i s = .next s) ∧
  (s.mgmt.up = true →
  (s.rcbAwaits p = false → writes (.pctl p v) (firstStatus [(bits v 63 1 ≠ 0, 3), (v.getLsbD 0 && (!s.rcbReady p || !r.ptset), 6), (!v.getLsbD 0 && s.partBusy p, 2),
    (v.getLsbD 0 && s.windowMeets p r.swin, 1)]) { r with en := v.getLsbD 0 }) ∧
  writes (.ptbase p v) (if bits v 63 49 ≠ 0 ∨ bits v 11 0 ≠ 0 then 3 else 0) { r with ptbase := v, ptset := true } ∧
  writes (.swin p v) (firstStatus [(bits v 31 0 % 32 ≠ 0 || bits v 63 32 % 32 ≠ 0 || decide (2 ^ 26 < bits v 63 32) ||
    decide (bits v 63 32 < bits v 31 0), 3), (s.windowMeets p v, 1)]) { r with swin := v } ∧
  writes (.evring p v) (if bits v 11 4 ≠ 0 ∨ bits v 3 0 = 1 ∨ 12 < bits v 3 0 then 3 else 0) { r with evring := v, evcount := 0 } ∧
  writes (.waymask p v) (firstStatus [(bits v 63 32 ≠ 0, 3), (r.reclaim.isSome, 2),
    ((List.range 16).any fun w => (waysNamed v &&& ~~~old).getLsbD w && s.wayTaken p w, 1)])
    { r with waymask := v, reclaim := if old = waysNamed v then none else some ⟨old ^^^ waysNamed v⟩ } ∧
  (∃ t, exec (.sdesc p v) s = .next t ∧ t.part p = { r with sdesc := v } ∧ ((t.lamp p).isSome = true ↔ v ≠ 0)) ∧
  (∃ t, exec (.icreq p v) s = .next t ∧ t.part p = { r with icreqs := r.icreqs ++ [shootdownRequest v] }) ∧
  exec (.rgo p v) s = .next (writeRgo p s)) ∧
  (∀ q rest, r.icreqs = q :: rest →
    ∃ t, exec (.icreqComplete p) s = .next t ∧ t.part p = { r with icreqs := rest, icdone := r.icdone + 1 } ∧
      ∀ x, x ∈ t.fab.icache ↔ x ∈ s.fab.icache ∧ q.getLsbD 0 = false ∧ inSome (s.rangeFrames p (shootdownRange q)) x.line = false) ∧
  (∀ c, r.reclaim = some c →
    (∀ l ∈ s.fab.llc, l.line = line → c.changed.getLsbD l.way = true → s.pins line = 0 →
      exec (.reclaimVisit p line) s = .next { s with fab := { s.fab with llc := s.fab.llc.filter (·.line != line) } }) ∧
    ((∀ l ∈ s.fab.llc, c.changed.getLsbD l.way = false) →
      ∃ t, exec (.reclaimComplete p) s = .next t ∧ t.part p = { r with reclaim := none })) ∧
  (k ∈ r.leaving → s.dueIn p k = false → k ≠ s.cluster ∨ (s.clearOf p = true ∧ s.ownerAwaits = false) →
    exec (.clusterRelease p k) s = .next (releaseCluster p k s))
/-- The package block and the management controller. R416, R428: DEAD and HATTACH check their fields, set PKSTAT and act; R428, R429: a
layer's role changes start, are cancelled, and end; R415: an offset that is reserved or not a dword's discards the write, and a write to a
partition block is that register's. R425, R426: a bandwidth interval moves the rate of
each cluster of an enabled partition (of the lowest-numbered whose mask holds it: log 83), up where a controller publishes OVER for it and else
down. R440: before bring-up a write does nothing. R439: island intervals move every island's
step. R412, R436: heartbeats are noted, and a period counts the misses (of the agents with no beat in it: log 85). -/
def Obligations.PackageEventsHappen : Prop :=
  ∀ (s : State) (n port : Nat) (v : Dword) (readings : List IslandReading) (watts : Nat) (queues : List (List Nat)),
  let status (k : Nat) : State := { s with mgmt := { s.mgmt with pkstat := .ofNat 8 k } }
  (s.mgmt.up = false → ∀ i ∈ [Instr.roleToMemoryOnly n, .roleToCompute n, .roleCancelDrain n, .dead v, .hattach v, .managementRegisterWrite n v],
    exec i s = .next s) ∧
  (s.mgmt.up = true → exec (.roleToMemoryOnly n) s = .next (
    if 16 ≤ n ∨ s.role n = .memoryOnly then status 3 else if s.roleBusy then status 2
    else (((status 0).setRole n .draining).roleEvent 3 n 0).drainLayer n) ∧
  exec (.roleToCompute n) s = .next (
    if 16 ≤ n ∨ s.role n = .compute then status 3 else if s.roleBusy then status 2 else if 12 < s.computeLayers + 1 then status 5
    else ((status 0).setRole n .powering).powerIslands (layerIslands n)) ∧
  exec (.roleCancelDrain n) s = .next (if s.role n = .draining then (status 0).setRole n .compute else status 3)) ∧
  (drainEndReady n s = true → exec (.layerDrainEnd n) s = .next (endDrain n s)) ∧
  (s.role n = .powering → s.ownerAwaits = false → exec (.layerPowerUpComplete n) s =
    .next ((((layerClusters n).foldl State.clearCluster s).setRole n .compute).roleEvent 4 n 1)) ∧
  (s.mgmt.up = true → bits v 63 16 = 0 → bits v 14 9 = 0 →
    (v.getLsbD 15 = false → bits v 8 0 < 2 → exec (.dead v) s = .next ((status 0).fencePort (bits v 8 0))) ∧
    (v.getLsbD 15 = true → (s.mgmt.peers.any (·.mod == bits v 8 0)) = true → exec (.dead v) s = .next ((status 0).fenceModule (bits v 8 0)))) ∧
  (s.mgmt.up = true → bits v 63 1 = 0 → s.silent (bits v 0 0) = false → s.scrubbing (bits v 0 0) = false →
    ∃ t, exec (.hattach v) s = .next t ∧ t.mgmt.pkstat = 0 ∧
      ∀ h, s.mgmt.hosts[bits v 0 0]? = some h → t.mgmt.hosts[bits v 0 0]? = some ⟨true, 0, h.beat, false⟩) ∧
  (s.mgmt.up = true → ∀ off, off % 8 ≠ 0 ∨ 0x3000 ≤ off → exec (.managementRegisterWrite off v) s = .next s) ∧
  (s.mgmt.up = true → ∀ p off, p < 16 → off < 0x200 → off % 8 = 0 →
    exec (.managementRegisterWrite (0x1000 + 0x200 * p + off) v) s = .next (writePartition p off v s)) ∧
  (s.mgmt.up = true → ∀ off, off < 0x1000 → off % 8 = 0 → exec (.managementRegisterWrite off v) s = .next (writePackage off v s)) ∧
  (∃ t, exec (.bwInterval queues) s = .next t ∧ ∀ (k : Nat) l, s.mgmt.rates[k]? = some l →
    let holds (p : Nat) : Bool := p < 16 && (s.part p).en && (s.partMask p).getLsbD k
    (∀ p, holds p = true → (∀ q < p, holds q = false) →
      t.mgmt.rates[k]? = some (if queues.any fun h => s.above h p then min (l + 1) 7 else l - 1)) ∧
    ((∀ p, holds p = false) → t.mgmt.rates[k]? = some l)) ∧
  (∃ t, exec (.islandFrequencyInterval readings watts) s = .next t ∧ ∀ (i : Nat) k, s.mgmt.islands[i]? = some k →
    t.mgmt.islands[i]? = some (nextStep k (readingOf readings i)
      ((if s.mgmt.pwrcap < watts then cappedIsland s.mgmt.islands readings else none) == some i) (decide (s.mgmt.pwrcap < watts)))) ∧
  (s.mgmt.up = true → ∃ t, exec .heartbeatPeriod s = .next t ∧
    t.mgmt.peers = s.mgmt.peers.map (fun p => { p with missed := if p.beat then 0 else p.missed + 1, beat := false }) ∧
    (t.mgmt.sent.length = s.mgmt.sent.length + ((List.range 36).filter s.mgmt.linkst.getLsbD).length)) ∧
  (∃ t, exec (.hostHeartbeat port) s = .next t ∧
    ∀ (i : Nat) h, s.mgmt.hosts[i]? = some h → t.mgmt.hosts[i]? = some { h with beat := h.beat || i == port })

/-- Links, devices and the module's start. R433: a flit whose peer entry does not name its sender is refused. R365 to R367: accepted data,
read requests, acknowledgements and refusals have their effects; R364, R435: barrier arrivals and flips; R434: a flit whose check fails is
counted and has no other effect; R436: heartbeats. R436, R438: a link and an expansion device are lost. R6, R440: bring-up from an image
whose check code holds, and the re-flash that restarts the module, with its core and partitions reset (log 5). -/
def Obligations.LinkEventsHappen : Prop :=
  ∀ (s : State) (link port : Nat) (f : Flit) (im : Image),
  let refused : State := s.sendFlit ⟨7, false, s.mgmt.modid.toNat, f.srcMod, f.dstPart, f.srcPart, f.tag, []⟩
  (s.receives link 1 f = true →
    (s.accepts f = false → exec (.flitData link f) s = .next
      (s.sendFlit ⟨7, false, s.mgmt.modid.toNat, f.srcMod, f.dstPart, f.srcPart, plainTag f.tag, []⟩)) ∧
    (s.accepts f = true → s.namesUs f.tag = true → reduceOp f = none → s.dataFits f = true →
      exec (.flitData link f) s = .next (s.remotePut f)) ∧
    (∀ op w, s.accepts f = true → s.namesUs f.tag = true → reduceOp f = some (op, w) → s.dataFits f = true →
      exec (.flitData link f) s = .next (s.remoteReduce f op w)) ∧
    (∀ op t r, s.accepts f = true → s.namesUs f.tag = false → s.getFor f = some op → s.landGet op f.payload = (t, r) → r ≠ .stuck →
      exec (.flitData link f) s = .next t)) ∧
  (s.receives link 2 f = true → f.payload.length = 1 → leNat f.payload ≤ 224 → s.readAwaits f = false →
    (s.accepts f = false → exec (.flitReadRequest link f) s = .next refused) ∧
    ∀ as ls, s.accepts f = true → s.remoteReading f.dstPart f.tag (leNat f.payload) = .ok (as, ls) →
      exec (.flitReadRequest link f) s = .next ((s.holdLeaves f.dstPart ls).sendFlit
        ⟨1, false, (s.holdLeaves f.dstPart ls).mgmt.modid.toNat, f.srcMod, f.dstPart, f.srcPart, f.tag, as.map s.coherentByte⟩)) ∧
  (s.receives link 3 f = true → exec (.flitAcknowledgement link f) s = .next (receiveAck f s)) ∧
  (s.receives link 4 f = true →
    (s.accepts f = false → f.payload.length = 8 ∨ f.payload.length = 4 → exec (.flitBarrierArrival link f) s = .next refused) ∧
    (s.accepts f = true → f.payload.length = 8 → exec (.flitBarrierArrival link f) s =
      .next (s.arrive (bits f.tag 25 0) 0 f.poison (.remote f.srcMod (leNat f.payload) (bits f.tag 63 32) f.dstPart))) ∧
    (s.accepts f = true → f.payload.length = 4 → exec (.flitBarrierArrival link f) s = .next (s.remoteArrival f))) ∧
  (s.receives link 5 f = true →
    (s.accepts f = false → exec (.flitBarrierFlip link f) s = .next refused) ∧
    ∀ b, s.accepts f = true → s.barrier (bits f.tag 25 0) = some b → b.up = 2 → b.mod = f.srcMod → s.inWindow f.dstPart (bits f.tag 25 0) = true →
      exec (.flitBarrierFlip link f) s = .next (s.flipRemote (bits f.tag 25 0) (bits f.tag 63 32) f.poison)) ∧
  (s.receives link 6 f = true → ∃ t, exec (.flitHeartbeat link f) s = .next t ∧ ∀ p ∈ t.mgmt.peers, p.mod = f.srcMod → p.beat = true) ∧
  (s.receives link 7 f = true → exec (.flitRefusal link f) s = .next (receiveRefusal f s)) ∧
  (link < 36 → s.mgmt.linkst.getLsbD link = true →
    exec (.flitCheckCodeFailure link f) s = .next { s with mgmt := { s.mgmt with badFlits := s.mgmt.badFlits + 1 } } ∧
    exec (.linkLoss link) s = .next (loseLink link s)) ∧
  (port < 2 → exec (.expansionDeviceLost port) s = .next (loseDevice port s)) ∧
  (s.mgmt.flash = im → im.good = true → s.mgmt.up = false →
    ∃ t, exec .bringUp s = .next t ∧ t.mgmt.up = true ∧ t.mgmt.root = im.root ∧ t.mgmt.modid = im.modid ∧ t.mgmt.linkst = linkMask im.links) ∧
  ∃ t, exec (.reFlash im) s = .next t ∧ t.mgmt.flash = im ∧ t.mgmt.up = false ∧ t.core = CoreState.reset ∧ t.parts = State.reset.parts
/-- R105, R106, R223, R224, R236, R262, R418, R428, R432: what reset leaves where the spec states a value; that the context slots are empty is
log 5. -/
def Obligations.ResetLeavesStatedValues : Prop :=
  let s := State.reset
  s.core.bank.estat = 0 ∧ s.core.bank.cause = 0 ∧ s.core.acown = 0 ∧ s.core.actouch = 0 ∧ s.core.slot0 = none ∧ s.core.slot1 = none ∧
  s.eng.mx.shadow = s.eng.mx.active ∧
  (∀ f ∈ [0x40, 0x41, 0x42, 0x43, 0x44, 0x45], s.eng.mx.active[f]? = some 1) ∧
  (∀ f ∈ [0x4D, 0x4E, 0x4F], s.eng.mx.active[f]? = some 128) ∧ (∀ f ∈ [0x4A, 0x4B], s.eng.mx.active[f]? = some 0x40) ∧
  (∀ f ∈ [0x51, 0x52, 0x53], s.eng.mx.active[f]? = some 0x3F800000) ∧ s.eng.mx.active[0x77]? = some 3 ∧
  (∀ p : Fin 16, (s.part p).en = false ∧ (s.part p).prcb = 0 ∧ (s.part p).swin = 0 ∧ (s.part p).evring = 0 ∧ (s.part p).waymask = 0) ∧
  s.mgmt.miss = 3 ∧ s.mgmt.per = 100 ∧ s.mgmt.bwHigh = 256 ∧ s.mgmt.bwInt = 4096 ∧ s.mgmt.pwrcap = 3200 ∧ s.mgmt.linkst = 0

/-- Every sparse array of the reset state is in canonical form: each lists nothing (log 1: what an unlisted cell reads as is the model's). -/
def Obligations.ResetIsCanonical : Prop := State.reset.canonical

/-- Every step keeps every sparse array in canonical form: addresses strictly rising, no entry equal to what an unlisted cell reads as. So
two states whose memory, scratchpad, sync space, accumulator and tile file hold the same are equal there. -/
def Obligations.StepKeepsCanonical : Prop := Kept State.canonical

/-- R44, R107, R109 (with each chapter's encodings): decoding the encoding of a well-formed instruction gives it back, with every operand
at every value that is well formed; the word fits its width. A sequencer instruction has the one or two words of its format, and one of one word
decodes whatever follows it; an engine word has one. -/
def Obligations.DecodeEncodeAgree : Prop :=
  ∀ i : Instr, i.wf = true →
  (∀ sh w w2, i.shape = some sh → encode i = [w] → w < 2 ^ 32 ∧ decodeSeq w w2 = .ok i) ∧
  (∀ sh w w2, i.shape = some sh → encode i = [w, w2] → w < 2 ^ 32 ∧ w2 < 2 ^ 32 ∧ decodeSeq w w2 = .ok i) ∧
  (∀ sh, i.shape = some sh → (encode i).length = sh.words ∧ (sh.words = 1 ∨ sh.words = 2)) ∧
  (isEngineWord i = true → ∃ w, encode i = [w] ∧ w < 2 ^ 16 ∧ ∃ e < 8, decodeEng e w = some i) ∧
  (∀ w, i.shape = none → (∀ v u, i ≠ .reservedEncoding v ∧ i ≠ .unassignedEngineOpcode u) → encode i = [w] →
    w < 2 ^ 16 ∧ ∃ e < 8, decodeEng e w = some i)

/-- R44, R107, R124 and the encodings of the chapters: words written out from the spec decode to the instructions they stand for: the loop
of R124, and a word of each further format. -/
def Obligations.DecodedWordsAreRight : Prop :=
  decodeSeq 0x0226A008 0 = .ok (.addi 0 9 42 8) ∧ decodeSeq 0x022AA000 0 = .ok (.addi 0 10 42 0) ∧
  decodeSeq 0x1B240002 0 = .ok (.loop 0 9 2) ∧ decodeSeq 0x0128AB00 0 = .ok (.add 0 10 10 44) ∧
  decodeSeq 0x20AAAA80 0 = .ok (.endl 0) ∧ decodeSeq 0x20AAAA83 0 = .ok (.tend 0) ∧
  decodeSeq 0x3106A000 0xFFFFFFFE = .ok (.li 0 1 0xFFFFFFFE) ∧ decodeSeq 0x24042503 0 = .ok (.ldI64 0 1 2 5 3) ∧
  decodeSeq 0x3C010C45 0 = .ok (.vadd 0 2 3 2 1 1) ∧
  decodeEng 0 0x8005 = some (.engPush 5) ∧ decodeEng 7 0x0700 = some .engAdd ∧ decodeEng 0 0x2101 = some (.mgo 1) ∧
  decodeSeq 0 0 = .error .illop ∧ decodeEng 0 0x7F00 = none

/-- A step runs the decoded instruction, where the script (log 2) says whose turn it is. When the active context may issue, its fetch passes
R166's checks, and the words decode to an instruction, the step is `exec` of it, in the state with the
script's turn taken and the line held. When a command of the queues is next for its engine and context there, the step is `exec` of what its
engine reads in its next word, for the state with that command first; one that the engine does not assign ends the command. -/
def Obligations.StepRunsTheDecodedInstruction : Prop :=
  ∀ (s : State) (rest : List Turn),
  let s0 : State := { s with script := rest }
  (s.script = .issue :: rest → ∀ c s' c' w w2 i, s0.current = some c → c.stopped = false → s.core.busyTill ≤ s.core.now →
    fetchNext s0 c s0.core.active = .ok (s', c', w, w2) → decodeSeq w.toNat w2.toNat = .ok i →
    step s = exec i (s'.setCurrent (some c'))) ∧
  (∀ n, s.script = .word n :: rest → ∀ k w ws, s.eng.cmds[n]? = some k → s0.runnable n = true → k.words = w :: ws → k.eng < 8 →
    let s1 : State := { s0 with eng := { s0.eng with cmds := k :: s0.eng.cmds.eraseIdx n } }
    (∀ i, decodeEng k.eng w.toNat = some i → step s = exec i s1) ∧
    (decodeEng k.eng w.toNat = none → ∃ v, step s = exec (.unassignedEngineOpcode v) s1))

/-- R35, R95, R96, R99, R104, R111 to R117, R125, R126: the frame of the register forms. With no earlier result pending, such an instruction
that issues changes no register but its destination and the latches L0 and L1, no predicate, handle slot, loop level or control register but these:
CYCLE counts the cycles it takes, BKLOSS its bank losses; `adds` and `subs` may raise SAT, the rounding forms any flag, and these draw from the
generator (as they issue: log 101). It clears no flag. Its context keeps its identity, its queues and its held causes. No byte and no accumulator
or tile row changes, and nothing outside its core but the deficits of the dispatcher's slots. So does `sget` of a register that its privilege may
read, no vector instruction being under way where that matters (R190). -/
def Obligations.RegisterFormsFrame : Prop :=
  ∀ (st t : BitVec 2) (d a b : Code) (m : BitVec 12) (n : BitVec 6) (v : BitVec 32) (e u : BitVec 4) (r : BitVec 3) (i : Instr),
  let rounding := [Instr.fadd st t d a b r, .fsub st t d a b r, .fmul st t d a b r, .fdiv st t d a b r, .fsqrt st t d a r, .fma st t d a b r,
    .cvt st d a e u r]
  i ∈ rounding ++ [Instr.add st d a b, .sub st d a b, .and st d a b, .or st d a b, .xor st d a b, .andn st d a b, .shl st d a b, .shr st d a b,
    .sra st d a b, .rotr st d a b, .min st d a b, .max st d a b, .minn st d a b, .maxn st d a b, .seq st d a b, .sne st d a b, .slt st d a b,
    .sltn st d a b, .sle st d a b, .slen st d a b, .clz st d a, .ctz st d a, .popc st d a, .bswap st d a, .sxb st d a, .sxh st d a,
    .sxw st d a, .zxb st d a, .zxh st d a, .zxw st d a, .sel st d a b, .addi st d a m, .andi st d a m, .ori st d a m, .xori st d a m,
    .slti st d a m, .sltni st d a m, .shli st d a n, .shri st d a n, .srai st d a n, .li st d v, .lhi st d a v, .addl st d a v,
    .mul st d a b, .mulh st d a b, .mulhn st d a b, .feq st d a b t, .flt st d a b t, .fle st d a b t, .fun st d a b t,
    .adds st d a b, .subs st d a b, .div st d a b, .divn st d a b, .rem st d a b, .remn st d a b, .fclass st d a t, .fneg st d a t, .fabs st d a t,
    .fmin st t d a b, .fmax st t d a b, .hget st d a, .sget st d m] →
  ∀ s c z, Issues i s c → c.pend = [] → exec i s = .next z →
  (i = .sget st d m → m.toNat ≤ 0x14 ∧ (8 ≤ m.toNat → m.toNat ≤ 12 → c.prv.cur ≠ .task) ∧ (1 ≤ m.toNat → m.toNat ≤ 3 → c.vbusy = 0)) →
  (∃ c', z.current = some c' ∧ c'.pc = nseq c.pc i.form.words ∧ (∀ r : Code, r ≠ d → r ≠ 40 → r ≠ 41 → c'.read r = c.read r) ∧
    (i ∉ rounding → c'.gen = c.gen ∧
      ∀ k, k ≠ 1 ∨ i ∉ [Instr.adds st d a b, .subs st d a b] → c'.flags.getLsbD k = c.flags.getLsbD k) ∧
    (∀ k, c.flags.getLsbD k = true → c'.flags.getLsbD k = true) ∧
    c'.p = c.p ∧ c'.h = c.h ∧ c'.loops = c.loops ∧ c'.rrb = c.rrb ∧ c'.row0 = c.row0 ∧ c'.acc = c.acc ∧ c'.chk = c.chk ∧ c'.prv = c.prv ∧
    c'.sup = c.sup ∧ c'.ctxid = c.ctxid ∧ c'.lid = c.lid ∧ c'.taskNo = c.taskNo ∧ c'.launch = c.launch ∧ c'.walk = c.walk ∧
    c'.landT = c.landT ∧ c'.landS = c.landS ∧ c'.serial = c.serial ∧ c'.lq = c.lq ∧ c'.mark = c.mark ∧ c'.fbuf = c.fbuf ∧ c'.fill = c.fill ∧
    c'.held = c.held ∧ c'.vbusy = c.vbusy ∧ c'.windows = c.windows ∧ c'.urgent = c.urgent ∧ c'.stopped = c.stopped ∧ c'.permit = c.permit ∧
    c'.gang = c.gang ∧ c'.claimed = c.claimed) ∧
  z.ctx (!s.core.active) = s.ctx (!s.core.active) ∧ z.core.id = s.core.id ∧ z.core.active = s.core.active ∧ z.core.bank = s.core.bank ∧
  z.core.acc = s.core.acc ∧ z.core.tile = s.core.tile ∧ z.core.acown = s.core.acown ∧ z.core.actouch = s.core.actouch ∧
  z.core.sq0 = s.core.sq0 ∧ z.core.sq1 = s.core.sq1 ∧
  s.core.now < z.core.now ∧ z.core.cycle = s.core.cycle + .ofNat 64 (z.core.now - s.core.now) ∧
  (∀ (k : Nat) l, s.core.bkloss[k]? = some l → z.core.bkloss[k]? = some (l + .ofNat 32 (bankLosses i.form.readCodes k))) ∧
  z.disp = { s.disp with slots := z.disp.slots } ∧ z.disp.slots.length = s.disp.slots.length ∧
  (∀ (k : Nat) (q : QSlot), s.disp.slots[k]? = some q → ∃ x, z.disp.slots[k]? = some { q with deficit := x }) ∧
  z.eng = s.eng ∧ z.wick = s.wick ∧ z.fab = s.fab ∧ z.sync = s.sync ∧ z.parts = s.parts ∧ z.mgmt = s.mgmt ∧ z.inflight = s.inflight ∧
  z.script = s.script ∧ z.free = s.free ∧ sameBytes s z

/-- R140, R320, R392, R393: a performed store writes its own bytes and no others. To the scratchpad: every other byte reads as before, and the
home and sync space stand. To synchronisation space: only the blocks it touches can change there. To global memory, through the core's cache or
at the home: every other byte reads as before there, and under the core's own stores; the core reads each byte stored as the store left it. The
sparse arrays are in the canonical form that every step keeps (StepKeepsCanonical). -/
def Obligations.PerformedStoreFrame : Prop :=
  ∀ (s : State) (slot : Bool) (e : StoreEntry) (rest : List StoreEntry), s.canonical → s.sq slot = e :: rest → s.mayLeave slot e = true →
  ∃ t, exec (.storePerformed slot) s = .next t ∧
  (e.space = .scratch →
    (∀ a, a ∉ e.bytes.map (·.1) → cellGet t.core.scratch a = cellGet s.core.scratch a) ∧
    ((e.bytes.map (·.1)).Nodup → ∀ p ∈ e.bytes, cellGet t.core.scratch p.1 = p.2) ∧ t.fab.mem = s.fab.mem ∧ t.sync = s.sync) ∧
  (e.space = .sync → t.core.scratch = s.core.scratch ∧
    ∀ a, (∀ p ∈ e.bytes, blockOf p.1 ≠ blockOf a) → cellGet t.sync.sram a = cellGet s.sync.sram a) ∧
  (e.space = .global → (∀ p ∈ e.bytes, inFrames p.1 = false ∧ s.fencedAt p.1 = false ∧ lineOf p.1 ∉ s.fab.latent) →
    (∀ k ∈ s.fab.dcache, k.st = .r → k.regs = []) →
    t.core.scratch = s.core.scratch ∧ t.sync = s.sync ∧
    (∀ a, a ∉ e.bytes.map (·.1) → cellGet t.fab.mem a = cellGet s.fab.mem a) ∧
    ((e.bytes.map (·.1)).Nodup → ∀ p ∈ e.bytes,
      (e.policy = .stream ∨ e.whole = true → cellGet t.fab.mem p.1 = p.2) ∧
      (e.policy ≠ .stream → e.whole = false → t.loadByte .global .normal (fun _ => .copy) p.1 = p.2)) ∧
    (e.policy ≠ .stream → e.whole = false → ∀ a, a ∉ e.bytes.map (·.1) → t.byteUnder none a = s.byteUnder none a))
end

