-- ==== Sys2Proof/Laws/Memory.lean ====
section
/-! SUPPORT. Sparse memories: a read after a write, the canonical form kept, and that the canonical form makes equal contents equal
lists. -/

namespace Sys2Proof.Machine

variable {w : Nat}

/-! Reads after writes. -/

theorem cellsAbove_get {b a : Nat} : ∀ {m : Cells w}, cellsAbove b m = true → a ≤ b → cellGet m a = 0
  | [], _, _ => rfl
  | (k, v) :: r, h, l => by
    simp only [cellsAbove, Bool.and_eq_true, decide_eq_true_eq] at h
    have : a ≠ k := by omega
    simp only [cellGet, this, if_false]
    exact cellsAbove_get h.2 (by omega)

theorem cellsAbove_mono {b c : Nat} : ∀ {m : Cells w}, cellsAbove b m = true → c ≤ b → cellsAbove c m = true
  | [], _, _ => rfl
  | (k, v) :: r, h, l => by
    simp only [cellsAbove, Bool.and_eq_true, decide_eq_true_eq] at h ⊢
    exact ⟨⟨by omega, h.1.2⟩, h.2⟩

theorem Memory.wf_above {m : Cells w} {b : Nat} (h : cellsAbove b m = true) : Memory.wf m = true := by
  cases m with
  | nil => rfl
  | cons p r =>
    obtain ⟨k, v⟩ := p
    simp only [cellsAbove, Memory.wf, Bool.and_eq_true, decide_eq_true_eq] at h ⊢
    exact ⟨h.1.2, h.2⟩

theorem cellSet_above {b a : Nat} {v : BitVec w} : ∀ {m : Cells w}, cellsAbove b m = true → b < a → cellsAbove b (cellSet a v m) = true
  | [], _, l => by
    simp only [cellSet]
    split
    · rfl
    · next h => simp only [cellsAbove, Bool.and_eq_true, decide_eq_true_eq]; exact ⟨⟨l, h⟩, trivial⟩
  | (k, u) :: r, h, l => by
    have h' := h
    simp only [cellsAbove, Bool.and_eq_true, decide_eq_true_eq] at h'
    obtain ⟨⟨hk, hu⟩, hr⟩ := h'
    simp only [cellSet]
    split
    · next ak =>
      split
      · exact h
      · next hv =>
        simp only [cellsAbove, Bool.and_eq_true, decide_eq_true_eq]
        exact ⟨⟨l, hv⟩, ⟨ak, hu⟩, hr⟩
    · split
      · next e =>
        subst e
        split
        · exact cellsAbove_mono hr (by omega)
        · next hv =>
          simp only [cellsAbove, Bool.and_eq_true, decide_eq_true_eq]
          exact ⟨⟨hk, hv⟩, hr⟩
      · next n1 n2 =>
        simp only [cellsAbove, Bool.and_eq_true, decide_eq_true_eq]
        exact ⟨⟨hk, hu⟩, cellSet_above hr (by omega)⟩

/-- A write keeps the canonical form. -/
theorem cellSet_wf (a : Nat) (v : BitVec w) : ∀ {m : Cells w}, Memory.wf m = true → Memory.wf (cellSet a v m) = true
  | [], _ => by
    simp only [cellSet]
    split
    · rfl
    · next h => simp only [Memory.wf, Bool.and_eq_true, decide_eq_true_eq]; exact ⟨h, rfl⟩
  | (k, u) :: r, h => by
    have h' := h
    simp only [Memory.wf, Bool.and_eq_true, decide_eq_true_eq] at h'
    obtain ⟨hu, hr⟩ := h'
    simp only [cellSet]
    split
    · next ak =>
      split
      · exact h
      · next hv =>
        simp only [Memory.wf, cellsAbove, Bool.and_eq_true, decide_eq_true_eq]
        exact ⟨hv, ⟨ak, hu⟩, hr⟩
    · split
      · next e =>
        subst e
        split
        · exact Memory.wf_above hr
        · next hv => simp only [Memory.wf, Bool.and_eq_true, decide_eq_true_eq]; exact ⟨hv, hr⟩
      · next n1 n2 =>
        simp only [Memory.wf, Bool.and_eq_true, decide_eq_true_eq]
        exact ⟨hu, cellSet_above hr (by omega)⟩

/-- A read after a write: the value written at its address, and what was there elsewhere. -/
theorem cellGet_cellSet (a b : Nat) (v : BitVec w) :
    ∀ {m : Cells w}, Memory.wf m = true → cellGet (cellSet a v m) b = if b = a then v else cellGet m b
  | [], _ => by
    simp only [cellSet]
    split
    · next hv => by_cases h : b = a <;> simp [cellGet, h, hv]
    · by_cases h : b = a <;> simp [cellGet, h]
  | (k, u) :: r, h => by
    have h' := h
    simp only [Memory.wf, Bool.and_eq_true, decide_eq_true_eq] at h'
    obtain ⟨hu, hr⟩ := h'
    simp only [cellSet]
    split
    · next ak =>
      by_cases hv : v = 0
      · simp only [hv, if_true]
        split
        · next e =>
          subst e
          have : b ≠ k := by omega
          simp only [cellGet, this, if_false]
          exact cellsAbove_get hr (by omega)
        · rfl
      · simp only [hv, if_false, cellGet]
    · split
      · next e =>
        subst e
        by_cases hv : v = 0
        · simp only [hv, if_true, cellGet]
          split
          · next e2 => subst e2; exact cellsAbove_get hr (Nat.le_refl _)
          · rfl
        · simp only [hv, if_false, cellGet]
          split <;> rfl
      · next n1 n2 =>
        simp only [cellGet]
        by_cases e : b = k
        · simp [e]
          omega
        · simp only [e, if_false]
          exact cellGet_cellSet a b v (Memory.wf_above hr)

/-- A run of byte writes keeps the canonical form. -/
theorem writeBytes_wf (bs : List (Nat × Byte)) : ∀ {m : Cells 8}, Memory.wf m = true → Memory.wf (writeBytes bs m) = true := by
  induction bs with
  | nil => exact id
  | cons p r ih => exact fun h => ih (cellSet_wf p.1 p.2 h)

/-- A byte that no write of a run names reads as before. -/
theorem cellGet_writeBytes_other (bs : List (Nat × Byte)) (a : Nat) :
    ∀ {m : Cells 8}, Memory.wf m = true → a ∉ bs.map (·.1) → cellGet (writeBytes bs m) a = cellGet m a := by
  induction bs with
  | nil => exact fun _ _ => rfl
  | cons p r ih =>
    intro m h n
    simp only [List.map_cons, List.mem_cons, not_or] at n
    exact (ih (cellSet_wf p.1 p.2 h) n.2).trans (by simp [cellGet_cellSet, h, n.1])

/-- A fold of cell writes keeps the canonical form. -/
theorem foldl_cellSet_wf {α : Type} (f : Cells w → α → Nat × BitVec w) (l : List α) :
    ∀ {m : Cells w}, Memory.wf m = true → Memory.wf (l.foldl (fun m x => cellSet (f m x).1 (f m x).2 m) m) = true := by
  induction l with
  | nil => exact id
  | cons x r ih => exact fun h => ih (cellSet_wf _ _ h)

/-- Canonical memories that read alike are equal. -/
theorem Memory.ext_of_wf : ∀ {m n : Cells w}, Memory.wf m = true → Memory.wf n = true → (∀ a, cellGet m a = cellGet n a) → m = n
  | [], [], _, _, _ => rfl
  | [], (k, v) :: r, _, h, e => by
    simp only [Memory.wf, Bool.and_eq_true, decide_eq_true_eq] at h
    have := e k
    simp only [cellGet, if_true] at this
    exact absurd this.symm h.1
  | (k, v) :: r, [], h, _, e => by
    simp only [Memory.wf, Bool.and_eq_true, decide_eq_true_eq] at h
    have := e k
    simp only [cellGet, if_true] at this
    exact absurd this h.1
  | (k, v) :: r, (l, u) :: t, h, g, e => by
    simp only [Memory.wf, Bool.and_eq_true, decide_eq_true_eq] at h g
    have hkl : k = l := by
      rcases Nat.lt_trichotomy k l with lt | eq | gt
      · have := e k
        simp only [cellGet, if_true, Nat.ne_of_lt lt, if_false] at this
        rw [cellsAbove_get g.2 (Nat.le_of_lt lt)] at this
        exact absurd this h.1
      · exact eq
      · have := e l
        simp only [cellGet, if_true, Nat.ne_of_lt gt, if_false] at this
        rw [cellsAbove_get h.2 (Nat.le_of_lt gt)] at this
        exact absurd this.symm g.1
    subst hkl
    have hv : v = u := by have := e k; simpa only [cellGet, if_true] using this
    subst hv
    have : r = t := by
      apply Memory.ext_of_wf (Memory.wf_above h.2) (Memory.wf_above g.2)
      intro a
      by_cases ha : a = k
      · subst ha
        rw [cellsAbove_get h.2 (Nat.le_refl _), cellsAbove_get g.2 (Nat.le_refl _)]
      · have := e a
        simpa only [cellGet, ha, if_false] using this
    rw [this]

end Sys2Proof.Machine
end

