-- ==== Sys2Proof/Laws/State.lean ====
section
/-! SUPPORT. What each update of the state leaves as it was, one lemma for each field. -/

namespace Sys2Proof.Machine

/-! `State.setCtx`. -/

@[simp] theorem State.setCtx_eng (s : State) (slot : Bool) (c : Option Context) : (s.setCtx slot c).eng = s.eng := by cases slot <;> rfl
@[simp] theorem State.setCtx_wick (s : State) (slot : Bool) (c : Option Context) : (s.setCtx slot c).wick = s.wick := by cases slot <;> rfl
@[simp] theorem State.setCtx_fab (s : State) (slot : Bool) (c : Option Context) : (s.setCtx slot c).fab = s.fab := by cases slot <;> rfl
@[simp] theorem State.setCtx_sync (s : State) (slot : Bool) (c : Option Context) : (s.setCtx slot c).sync = s.sync := by cases slot <;> rfl
@[simp] theorem State.setCtx_disp (s : State) (slot : Bool) (c : Option Context) : (s.setCtx slot c).disp = s.disp := by cases slot <;> rfl
@[simp] theorem State.setCtx_parts (s : State) (slot : Bool) (c : Option Context) : (s.setCtx slot c).parts = s.parts := by cases slot <;> rfl
@[simp] theorem State.setCtx_mgmt (s : State) (slot : Bool) (c : Option Context) : (s.setCtx slot c).mgmt = s.mgmt := by cases slot <;> rfl
@[simp] theorem State.setCtx_script (s : State) (slot : Bool) (c : Option Context) : (s.setCtx slot c).script = s.script := by cases slot <;> rfl
@[simp] theorem State.setCtx_inflight (s : State) (slot : Bool) (c : Option Context) : (s.setCtx slot c).inflight = s.inflight := by cases slot <;> rfl
@[simp] theorem State.setCtx_free (s : State) (slot : Bool) (c : Option Context) : (s.setCtx slot c).free = s.free := by cases slot <;> rfl
@[simp] theorem State.setCtx_core_id (s : State) (slot : Bool) (c : Option Context) : (s.setCtx slot c).core.id = s.core.id := by cases slot <;> rfl
@[simp] theorem State.setCtx_core_active (s : State) (slot : Bool) (c : Option Context) : (s.setCtx slot c).core.active = s.core.active := by cases slot <;> rfl
@[simp] theorem State.setCtx_core_since (s : State) (slot : Bool) (c : Option Context) : (s.setCtx slot c).core.since = s.core.since := by cases slot <;> rfl
@[simp] theorem State.setCtx_core_busyTill (s : State) (slot : Bool) (c : Option Context) : (s.setCtx slot c).core.busyTill = s.core.busyTill := by cases slot <;> rfl
@[simp] theorem State.setCtx_core_cycle (s : State) (slot : Bool) (c : Option Context) : (s.setCtx slot c).core.cycle = s.core.cycle := by cases slot <;> rfl
@[simp] theorem State.setCtx_core_now (s : State) (slot : Bool) (c : Option Context) : (s.setCtx slot c).core.now = s.core.now := by cases slot <;> rfl
@[simp] theorem State.setCtx_core_bkloss (s : State) (slot : Bool) (c : Option Context) : (s.setCtx slot c).core.bkloss = s.core.bkloss := by cases slot <;> rfl
@[simp] theorem State.setCtx_core_bank (s : State) (slot : Bool) (c : Option Context) : (s.setCtx slot c).core.bank = s.core.bank := by cases slot <;> rfl
@[simp] theorem State.setCtx_core_acown (s : State) (slot : Bool) (c : Option Context) : (s.setCtx slot c).core.acown = s.core.acown := by cases slot <;> rfl
@[simp] theorem State.setCtx_core_actouch (s : State) (slot : Bool) (c : Option Context) : (s.setCtx slot c).core.actouch = s.core.actouch := by cases slot <;> rfl
@[simp] theorem State.setCtx_core_acc (s : State) (slot : Bool) (c : Option Context) : (s.setCtx slot c).core.acc = s.core.acc := by cases slot <;> rfl
@[simp] theorem State.setCtx_core_tile (s : State) (slot : Bool) (c : Option Context) : (s.setCtx slot c).core.tile = s.core.tile := by cases slot <;> rfl
@[simp] theorem State.setCtx_core_scratch (s : State) (slot : Bool) (c : Option Context) : (s.setCtx slot c).core.scratch = s.core.scratch := by cases slot <;> rfl
@[simp] theorem State.setCtx_core_sq0 (s : State) (slot : Bool) (c : Option Context) : (s.setCtx slot c).core.sq0 = s.core.sq0 := by cases slot <;> rfl
@[simp] theorem State.setCtx_core_sq1 (s : State) (slot : Bool) (c : Option Context) : (s.setCtx slot c).core.sq1 = s.core.sq1 := by cases slot <;> rfl
@[simp] theorem State.ctx_setCtx (s : State) (slot : Bool) (c : Option Context) : (s.setCtx slot c).ctx slot = c := by
  cases slot <;> rfl
@[simp] theorem State.ctx_setCtx_other (s : State) (slot : Bool) (c : Option Context) : (s.setCtx (!slot) c).ctx slot = s.ctx slot := by
  cases slot <;> rfl
@[simp] theorem State.sq_setCtx (s : State) (slot t : Bool) (c : Option Context) : (s.setCtx slot c).sq t = s.sq t := by
  cases slot <;> cases t <;> rfl

/-! `State.setSq`. -/

@[simp] theorem State.setSq_eng (s : State) (slot : Bool) (q : List StoreEntry) : (s.setSq slot q).eng = s.eng := by cases slot <;> rfl
@[simp] theorem State.setSq_wick (s : State) (slot : Bool) (q : List StoreEntry) : (s.setSq slot q).wick = s.wick := by cases slot <;> rfl
@[simp] theorem State.setSq_fab (s : State) (slot : Bool) (q : List StoreEntry) : (s.setSq slot q).fab = s.fab := by cases slot <;> rfl
@[simp] theorem State.setSq_sync (s : State) (slot : Bool) (q : List StoreEntry) : (s.setSq slot q).sync = s.sync := by cases slot <;> rfl
@[simp] theorem State.setSq_disp (s : State) (slot : Bool) (q : List StoreEntry) : (s.setSq slot q).disp = s.disp := by cases slot <;> rfl
@[simp] theorem State.setSq_parts (s : State) (slot : Bool) (q : List StoreEntry) : (s.setSq slot q).parts = s.parts := by cases slot <;> rfl
@[simp] theorem State.setSq_mgmt (s : State) (slot : Bool) (q : List StoreEntry) : (s.setSq slot q).mgmt = s.mgmt := by cases slot <;> rfl
@[simp] theorem State.setSq_script (s : State) (slot : Bool) (q : List StoreEntry) : (s.setSq slot q).script = s.script := by cases slot <;> rfl
@[simp] theorem State.setSq_inflight (s : State) (slot : Bool) (q : List StoreEntry) : (s.setSq slot q).inflight = s.inflight := by cases slot <;> rfl
@[simp] theorem State.setSq_free (s : State) (slot : Bool) (q : List StoreEntry) : (s.setSq slot q).free = s.free := by cases slot <;> rfl
@[simp] theorem State.setSq_core_id (s : State) (slot : Bool) (q : List StoreEntry) : (s.setSq slot q).core.id = s.core.id := by cases slot <;> rfl
@[simp] theorem State.setSq_core_slot0 (s : State) (slot : Bool) (q : List StoreEntry) : (s.setSq slot q).core.slot0 = s.core.slot0 := by cases slot <;> rfl
@[simp] theorem State.setSq_core_slot1 (s : State) (slot : Bool) (q : List StoreEntry) : (s.setSq slot q).core.slot1 = s.core.slot1 := by cases slot <;> rfl
@[simp] theorem State.setSq_core_active (s : State) (slot : Bool) (q : List StoreEntry) : (s.setSq slot q).core.active = s.core.active := by cases slot <;> rfl
@[simp] theorem State.setSq_core_since (s : State) (slot : Bool) (q : List StoreEntry) : (s.setSq slot q).core.since = s.core.since := by cases slot <;> rfl
@[simp] theorem State.setSq_core_busyTill (s : State) (slot : Bool) (q : List StoreEntry) : (s.setSq slot q).core.busyTill = s.core.busyTill := by cases slot <;> rfl
@[simp] theorem State.setSq_core_cycle (s : State) (slot : Bool) (q : List StoreEntry) : (s.setSq slot q).core.cycle = s.core.cycle := by cases slot <;> rfl
@[simp] theorem State.setSq_core_now (s : State) (slot : Bool) (q : List StoreEntry) : (s.setSq slot q).core.now = s.core.now := by cases slot <;> rfl
@[simp] theorem State.setSq_core_bkloss (s : State) (slot : Bool) (q : List StoreEntry) : (s.setSq slot q).core.bkloss = s.core.bkloss := by cases slot <;> rfl
@[simp] theorem State.setSq_core_bank (s : State) (slot : Bool) (q : List StoreEntry) : (s.setSq slot q).core.bank = s.core.bank := by cases slot <;> rfl
@[simp] theorem State.setSq_core_acown (s : State) (slot : Bool) (q : List StoreEntry) : (s.setSq slot q).core.acown = s.core.acown := by cases slot <;> rfl
@[simp] theorem State.setSq_core_actouch (s : State) (slot : Bool) (q : List StoreEntry) : (s.setSq slot q).core.actouch = s.core.actouch := by cases slot <;> rfl
@[simp] theorem State.setSq_core_acc (s : State) (slot : Bool) (q : List StoreEntry) : (s.setSq slot q).core.acc = s.core.acc := by cases slot <;> rfl
@[simp] theorem State.setSq_core_tile (s : State) (slot : Bool) (q : List StoreEntry) : (s.setSq slot q).core.tile = s.core.tile := by cases slot <;> rfl
@[simp] theorem State.setSq_core_scratch (s : State) (slot : Bool) (q : List StoreEntry) : (s.setSq slot q).core.scratch = s.core.scratch := by cases slot <;> rfl
@[simp] theorem State.sq_setSq (s : State) (slot : Bool) (q : List StoreEntry) : (s.setSq slot q).sq slot = q := by cases slot <;> rfl
@[simp] theorem State.ctx_setSq (s : State) (slot t : Bool) (q : List StoreEntry) : (s.setSq slot q).ctx t = s.ctx t := by
  cases slot <;> cases t <;> rfl

/-! `State.tick`. -/

@[simp] theorem State.tick_eng (s : State) (n : Nat) : (s.tick n).eng = s.eng := rfl
@[simp] theorem State.tick_wick (s : State) (n : Nat) : (s.tick n).wick = s.wick := rfl
@[simp] theorem State.tick_fab (s : State) (n : Nat) : (s.tick n).fab = s.fab := rfl
@[simp] theorem State.tick_sync (s : State) (n : Nat) : (s.tick n).sync = s.sync := rfl
@[simp] theorem State.tick_parts (s : State) (n : Nat) : (s.tick n).parts = s.parts := rfl
@[simp] theorem State.tick_mgmt (s : State) (n : Nat) : (s.tick n).mgmt = s.mgmt := rfl
@[simp] theorem State.tick_script (s : State) (n : Nat) : (s.tick n).script = s.script := rfl
@[simp] theorem State.tick_inflight (s : State) (n : Nat) : (s.tick n).inflight = s.inflight := rfl
@[simp] theorem State.tick_free (s : State) (n : Nat) : (s.tick n).free = s.free := rfl
@[simp] theorem State.tick_core_id (s : State) (n : Nat) : (s.tick n).core.id = s.core.id := rfl
@[simp] theorem State.tick_core_slot0 (s : State) (n : Nat) : (s.tick n).core.slot0 = s.core.slot0 := rfl
@[simp] theorem State.tick_core_slot1 (s : State) (n : Nat) : (s.tick n).core.slot1 = s.core.slot1 := rfl
@[simp] theorem State.tick_core_active (s : State) (n : Nat) : (s.tick n).core.active = s.core.active := rfl
@[simp] theorem State.tick_core_since (s : State) (n : Nat) : (s.tick n).core.since = s.core.since := rfl
@[simp] theorem State.tick_core_busyTill (s : State) (n : Nat) : (s.tick n).core.busyTill = s.core.busyTill := rfl
@[simp] theorem State.tick_core_bkloss (s : State) (n : Nat) : (s.tick n).core.bkloss = s.core.bkloss := rfl
@[simp] theorem State.tick_core_bank (s : State) (n : Nat) : (s.tick n).core.bank = s.core.bank := rfl
@[simp] theorem State.tick_core_acown (s : State) (n : Nat) : (s.tick n).core.acown = s.core.acown := rfl
@[simp] theorem State.tick_core_actouch (s : State) (n : Nat) : (s.tick n).core.actouch = s.core.actouch := rfl
@[simp] theorem State.tick_core_acc (s : State) (n : Nat) : (s.tick n).core.acc = s.core.acc := rfl
@[simp] theorem State.tick_core_tile (s : State) (n : Nat) : (s.tick n).core.tile = s.core.tile := rfl
@[simp] theorem State.tick_core_scratch (s : State) (n : Nat) : (s.tick n).core.scratch = s.core.scratch := rfl
@[simp] theorem State.tick_core_sq0 (s : State) (n : Nat) : (s.tick n).core.sq0 = s.core.sq0 := rfl
@[simp] theorem State.tick_core_sq1 (s : State) (n : Nat) : (s.tick n).core.sq1 = s.core.sq1 := rfl
@[simp] theorem State.tick_disp_launches (s : State) (n : Nat) : (s.tick n).disp.launches = s.disp.launches := rfl
@[simp] theorem State.tick_disp_queues (s : State) (n : Nat) : (s.tick n).disp.queues = s.disp.queues := rfl
@[simp] theorem State.tick_disp_held (s : State) (n : Nat) : (s.tick n).disp.held = s.disp.held := rfl
@[simp] theorem State.tick_disp_counts (s : State) (n : Nat) : (s.tick n).disp.counts = s.disp.counts := rfl
@[simp] theorem State.tick_disp_ending (s : State) (n : Nat) : (s.tick n).disp.ending = s.disp.ending := rfl
@[simp] theorem State.tick_disp_events (s : State) (n : Nat) : (s.tick n).disp.events = s.disp.events := rfl
@[simp] theorem State.tick_disp_nextKey (s : State) (n : Nat) : (s.tick n).disp.nextKey = s.disp.nextKey := rfl
@[simp] theorem State.tick_disp_stamp (s : State) (n : Nat) : (s.tick n).disp.stamp = s.disp.stamp := rfl
@[simp] theorem State.tick_disp_saved (s : State) (n : Nat) : (s.tick n).disp.saved = s.disp.saved := rfl
@[simp] theorem State.tick_disp_live (s : State) (n : Nat) : (s.tick n).disp.live = s.disp.live := rfl
@[simp] theorem State.ctx_tick (s : State) (n : Nat) (t : Bool) : (s.tick n).ctx t = s.ctx t := by cases t <;> rfl
@[simp] theorem State.sq_tick (s : State) (n : Nat) (t : Bool) : (s.tick n).sq t = s.sq t := by cases t <;> rfl

/-! `State.mapLaunch`. -/

@[simp] theorem State.mapLaunch_core (s : State) (k : Nat) (f : Launch → Launch) : (s.mapLaunch k f).core = s.core := rfl
@[simp] theorem State.mapLaunch_eng (s : State) (k : Nat) (f : Launch → Launch) : (s.mapLaunch k f).eng = s.eng := rfl
@[simp] theorem State.mapLaunch_wick (s : State) (k : Nat) (f : Launch → Launch) : (s.mapLaunch k f).wick = s.wick := rfl
@[simp] theorem State.mapLaunch_fab (s : State) (k : Nat) (f : Launch → Launch) : (s.mapLaunch k f).fab = s.fab := rfl
@[simp] theorem State.mapLaunch_sync (s : State) (k : Nat) (f : Launch → Launch) : (s.mapLaunch k f).sync = s.sync := rfl
@[simp] theorem State.mapLaunch_parts (s : State) (k : Nat) (f : Launch → Launch) : (s.mapLaunch k f).parts = s.parts := rfl
@[simp] theorem State.mapLaunch_mgmt (s : State) (k : Nat) (f : Launch → Launch) : (s.mapLaunch k f).mgmt = s.mgmt := rfl
@[simp] theorem State.mapLaunch_script (s : State) (k : Nat) (f : Launch → Launch) : (s.mapLaunch k f).script = s.script := rfl
@[simp] theorem State.mapLaunch_inflight (s : State) (k : Nat) (f : Launch → Launch) : (s.mapLaunch k f).inflight = s.inflight := rfl
@[simp] theorem State.mapLaunch_free (s : State) (k : Nat) (f : Launch → Launch) : (s.mapLaunch k f).free = s.free := rfl
@[simp] theorem State.mapLaunch_disp_queues (s : State) (k : Nat) (f : Launch → Launch) : (s.mapLaunch k f).disp.queues = s.disp.queues := rfl
@[simp] theorem State.mapLaunch_disp_slots (s : State) (k : Nat) (f : Launch → Launch) : (s.mapLaunch k f).disp.slots = s.disp.slots := rfl
@[simp] theorem State.mapLaunch_disp_held (s : State) (k : Nat) (f : Launch → Launch) : (s.mapLaunch k f).disp.held = s.disp.held := rfl
@[simp] theorem State.mapLaunch_disp_counts (s : State) (k : Nat) (f : Launch → Launch) : (s.mapLaunch k f).disp.counts = s.disp.counts := rfl
@[simp] theorem State.mapLaunch_disp_ending (s : State) (k : Nat) (f : Launch → Launch) : (s.mapLaunch k f).disp.ending = s.disp.ending := rfl
@[simp] theorem State.mapLaunch_disp_events (s : State) (k : Nat) (f : Launch → Launch) : (s.mapLaunch k f).disp.events = s.disp.events := rfl
@[simp] theorem State.mapLaunch_disp_nextKey (s : State) (k : Nat) (f : Launch → Launch) : (s.mapLaunch k f).disp.nextKey = s.disp.nextKey := rfl
@[simp] theorem State.mapLaunch_disp_stamp (s : State) (k : Nat) (f : Launch → Launch) : (s.mapLaunch k f).disp.stamp = s.disp.stamp := rfl
@[simp] theorem State.mapLaunch_disp_saved (s : State) (k : Nat) (f : Launch → Launch) : (s.mapLaunch k f).disp.saved = s.disp.saved := rfl
@[simp] theorem State.mapLaunch_disp_live (s : State) (k : Nat) (f : Launch → Launch) : (s.mapLaunch k f).disp.live = s.disp.live := rfl

/-! `State.mapPart`. -/

@[simp] theorem State.mapPart_core (s : State) (p : Nat) (f : PartRegs → PartRegs) : (s.mapPart p f).core = s.core := rfl
@[simp] theorem State.mapPart_eng (s : State) (p : Nat) (f : PartRegs → PartRegs) : (s.mapPart p f).eng = s.eng := rfl
@[simp] theorem State.mapPart_wick (s : State) (p : Nat) (f : PartRegs → PartRegs) : (s.mapPart p f).wick = s.wick := rfl
@[simp] theorem State.mapPart_fab (s : State) (p : Nat) (f : PartRegs → PartRegs) : (s.mapPart p f).fab = s.fab := rfl
@[simp] theorem State.mapPart_sync (s : State) (p : Nat) (f : PartRegs → PartRegs) : (s.mapPart p f).sync = s.sync := rfl
@[simp] theorem State.mapPart_disp (s : State) (p : Nat) (f : PartRegs → PartRegs) : (s.mapPart p f).disp = s.disp := rfl
@[simp] theorem State.mapPart_mgmt (s : State) (p : Nat) (f : PartRegs → PartRegs) : (s.mapPart p f).mgmt = s.mgmt := rfl
@[simp] theorem State.mapPart_script (s : State) (p : Nat) (f : PartRegs → PartRegs) : (s.mapPart p f).script = s.script := rfl
@[simp] theorem State.mapPart_inflight (s : State) (p : Nat) (f : PartRegs → PartRegs) : (s.mapPart p f).inflight = s.inflight := rfl
@[simp] theorem State.mapPart_free (s : State) (p : Nat) (f : PartRegs → PartRegs) : (s.mapPart p f).free = s.free := rfl
@[simp] theorem State.part_mapPart (s : State) {p : Nat} (f : PartRegs → PartRegs) (h : p < 16) :
    (s.mapPart p f).part p = f (s.part p) := by
  simp [State.mapPart, State.part, h]
theorem State.part_mapPart_other (s : State) {p q : Nat} (f : PartRegs → PartRegs) (h : q ≠ p) :
    (s.mapPart p f).part q = s.part q := by
  simp [State.mapPart, State.part, Ne.symm h]

/-! `State.notify`. -/

@[simp] theorem State.notify_core (s : State) (c : Cause) (v : Dword) : (s.notify c v).core = s.core := rfl
@[simp] theorem State.notify_eng (s : State) (c : Cause) (v : Dword) : (s.notify c v).eng = s.eng := rfl
@[simp] theorem State.notify_wick (s : State) (c : Cause) (v : Dword) : (s.notify c v).wick = s.wick := rfl
@[simp] theorem State.notify_fab (s : State) (c : Cause) (v : Dword) : (s.notify c v).fab = s.fab := rfl
@[simp] theorem State.notify_sync (s : State) (c : Cause) (v : Dword) : (s.notify c v).sync = s.sync := rfl
@[simp] theorem State.notify_disp (s : State) (c : Cause) (v : Dword) : (s.notify c v).disp = s.disp := rfl
@[simp] theorem State.notify_parts (s : State) (c : Cause) (v : Dword) : (s.notify c v).parts = s.parts := rfl
@[simp] theorem State.notify_script (s : State) (c : Cause) (v : Dword) : (s.notify c v).script = s.script := rfl
@[simp] theorem State.notify_inflight (s : State) (c : Cause) (v : Dword) : (s.notify c v).inflight = s.inflight := rfl
@[simp] theorem State.notify_free (s : State) (c : Cause) (v : Dword) : (s.notify c v).free = s.free := rfl

/-! `State.setEngCtx`. -/

@[simp] theorem State.setEngCtx_core (s : State) (e : EngCtx) : (s.setEngCtx e).core = s.core := rfl
@[simp] theorem State.setEngCtx_wick (s : State) (e : EngCtx) : (s.setEngCtx e).wick = s.wick := rfl
@[simp] theorem State.setEngCtx_fab (s : State) (e : EngCtx) : (s.setEngCtx e).fab = s.fab := rfl
@[simp] theorem State.setEngCtx_sync (s : State) (e : EngCtx) : (s.setEngCtx e).sync = s.sync := rfl
@[simp] theorem State.setEngCtx_disp (s : State) (e : EngCtx) : (s.setEngCtx e).disp = s.disp := rfl
@[simp] theorem State.setEngCtx_parts (s : State) (e : EngCtx) : (s.setEngCtx e).parts = s.parts := rfl
@[simp] theorem State.setEngCtx_mgmt (s : State) (e : EngCtx) : (s.setEngCtx e).mgmt = s.mgmt := rfl
@[simp] theorem State.setEngCtx_script (s : State) (e : EngCtx) : (s.setEngCtx e).script = s.script := rfl
@[simp] theorem State.setEngCtx_inflight (s : State) (e : EngCtx) : (s.setEngCtx e).inflight = s.inflight := rfl
@[simp] theorem State.setEngCtx_free (s : State) (e : EngCtx) : (s.setEngCtx e).free = s.free := rfl
@[simp] theorem State.setEngCtx_eng_cmds (s : State) (e : EngCtx) : (s.setEngCtx e).eng.cmds = s.eng.cmds := rfl
@[simp] theorem State.setEngCtx_eng_mx (s : State) (e : EngCtx) : (s.setEngCtx e).eng.mx = s.eng.mx := rfl
@[simp] theorem State.setEngCtx_eng_fetches (s : State) (e : EngCtx) : (s.setEngCtx e).eng.fetches = s.eng.fetches := rfl
@[simp] theorem State.setEngCtx_eng_adapt (s : State) (e : EngCtx) : (s.setEngCtx e).eng.adapt = s.eng.adapt := rfl
@[simp] theorem State.setEngCtx_eng_sy (s : State) (e : EngCtx) : (s.setEngCtx e).eng.sy = s.eng.sy := rfl
@[simp] theorem State.setEngCtx_eng_cp (s : State) (e : EngCtx) : (s.setEngCtx e).eng.cp = s.eng.cp := rfl
@[simp] theorem State.setEngCtx_eng_ranges (s : State) (e : EngCtx) : (s.setEngCtx e).eng.ranges = s.eng.ranges := rfl
@[simp] theorem State.setEngCtx_eng_ll (s : State) (e : EngCtx) : (s.setEngCtx e).eng.ll = s.eng.ll := rfl
@[simp] theorem State.engCtx_setEngCtx (s : State) (e : EngCtx) : (s.setEngCtx e).engCtx e.eng e.ctx = e := by
  simp [State.setEngCtx, State.engCtx]

/-! `State.completeOp`. -/

@[simp] theorem State.completeOp_core (s : State) (e x n : Nat) : (s.completeOp e x n).core = s.core := rfl
@[simp] theorem State.completeOp_wick (s : State) (e x n : Nat) : (s.completeOp e x n).wick = s.wick := rfl
@[simp] theorem State.completeOp_fab (s : State) (e x n : Nat) : (s.completeOp e x n).fab = s.fab := rfl
@[simp] theorem State.completeOp_sync (s : State) (e x n : Nat) : (s.completeOp e x n).sync = s.sync := rfl
@[simp] theorem State.completeOp_disp (s : State) (e x n : Nat) : (s.completeOp e x n).disp = s.disp := rfl
@[simp] theorem State.completeOp_parts (s : State) (e x n : Nat) : (s.completeOp e x n).parts = s.parts := rfl
@[simp] theorem State.completeOp_mgmt (s : State) (e x n : Nat) : (s.completeOp e x n).mgmt = s.mgmt := rfl
@[simp] theorem State.completeOp_script (s : State) (e x n : Nat) : (s.completeOp e x n).script = s.script := rfl
@[simp] theorem State.completeOp_inflight (s : State) (e x n : Nat) : (s.completeOp e x n).inflight = s.inflight := rfl
@[simp] theorem State.completeOp_free (s : State) (e x n : Nat) : (s.completeOp e x n).free = s.free := rfl

/-! `State.instantOp`. -/

@[simp] theorem State.instantOp_core (s : State) (e x : Nat) : (s.instantOp e x).core = s.core := rfl
@[simp] theorem State.instantOp_wick (s : State) (e x : Nat) : (s.instantOp e x).wick = s.wick := rfl
@[simp] theorem State.instantOp_fab (s : State) (e x : Nat) : (s.instantOp e x).fab = s.fab := rfl
@[simp] theorem State.instantOp_sync (s : State) (e x : Nat) : (s.instantOp e x).sync = s.sync := rfl
@[simp] theorem State.instantOp_disp (s : State) (e x : Nat) : (s.instantOp e x).disp = s.disp := rfl
@[simp] theorem State.instantOp_parts (s : State) (e x : Nat) : (s.instantOp e x).parts = s.parts := rfl
@[simp] theorem State.instantOp_mgmt (s : State) (e x : Nat) : (s.instantOp e x).mgmt = s.mgmt := rfl
@[simp] theorem State.instantOp_script (s : State) (e x : Nat) : (s.instantOp e x).script = s.script := rfl
@[simp] theorem State.instantOp_inflight (s : State) (e x : Nat) : (s.instantOp e x).inflight = s.inflight := rfl
@[simp] theorem State.instantOp_free (s : State) (e x : Nat) : (s.instantOp e x).free = s.free := rfl

/-! `State.putLamp`. -/

@[simp] theorem State.putLamp_core (s : State) (l : LlPart) : (s.putLamp l).core = s.core := rfl
@[simp] theorem State.putLamp_wick (s : State) (l : LlPart) : (s.putLamp l).wick = s.wick := rfl
@[simp] theorem State.putLamp_fab (s : State) (l : LlPart) : (s.putLamp l).fab = s.fab := rfl
@[simp] theorem State.putLamp_sync (s : State) (l : LlPart) : (s.putLamp l).sync = s.sync := rfl
@[simp] theorem State.putLamp_disp (s : State) (l : LlPart) : (s.putLamp l).disp = s.disp := rfl
@[simp] theorem State.putLamp_parts (s : State) (l : LlPart) : (s.putLamp l).parts = s.parts := rfl
@[simp] theorem State.putLamp_mgmt (s : State) (l : LlPart) : (s.putLamp l).mgmt = s.mgmt := rfl
@[simp] theorem State.putLamp_script (s : State) (l : LlPart) : (s.putLamp l).script = s.script := rfl
@[simp] theorem State.putLamp_inflight (s : State) (l : LlPart) : (s.putLamp l).inflight = s.inflight := rfl
@[simp] theorem State.putLamp_free (s : State) (l : LlPart) : (s.putLamp l).free = s.free := rfl
@[simp] theorem State.lamp_putLamp (s : State) (l : LlPart) : (s.putLamp l).lamp l.part = some l := by
  simp [State.putLamp, State.lamp]

/-! `State.putFetch`. -/

@[simp] theorem State.putFetch_core (s : State) (f g : Fetch) : (s.putFetch f g).core = s.core := rfl
@[simp] theorem State.putFetch_wick (s : State) (f g : Fetch) : (s.putFetch f g).wick = s.wick := rfl
@[simp] theorem State.putFetch_fab (s : State) (f g : Fetch) : (s.putFetch f g).fab = s.fab := rfl
@[simp] theorem State.putFetch_sync (s : State) (f g : Fetch) : (s.putFetch f g).sync = s.sync := rfl
@[simp] theorem State.putFetch_disp (s : State) (f g : Fetch) : (s.putFetch f g).disp = s.disp := rfl
@[simp] theorem State.putFetch_parts (s : State) (f g : Fetch) : (s.putFetch f g).parts = s.parts := rfl
@[simp] theorem State.putFetch_mgmt (s : State) (f g : Fetch) : (s.putFetch f g).mgmt = s.mgmt := rfl
@[simp] theorem State.putFetch_script (s : State) (f g : Fetch) : (s.putFetch f g).script = s.script := rfl
@[simp] theorem State.putFetch_inflight (s : State) (f g : Fetch) : (s.putFetch f g).inflight = s.inflight := rfl
@[simp] theorem State.putFetch_free (s : State) (f g : Fetch) : (s.putFetch f g).free = s.free := rfl

/-! `State.putCopy`. -/

@[simp] theorem State.putCopy_core (s : State) (f g : CpOp) : (s.putCopy f g).core = s.core := rfl
@[simp] theorem State.putCopy_wick (s : State) (f g : CpOp) : (s.putCopy f g).wick = s.wick := rfl
@[simp] theorem State.putCopy_fab (s : State) (f g : CpOp) : (s.putCopy f g).fab = s.fab := rfl
@[simp] theorem State.putCopy_sync (s : State) (f g : CpOp) : (s.putCopy f g).sync = s.sync := rfl
@[simp] theorem State.putCopy_disp (s : State) (f g : CpOp) : (s.putCopy f g).disp = s.disp := rfl
@[simp] theorem State.putCopy_parts (s : State) (f g : CpOp) : (s.putCopy f g).parts = s.parts := rfl
@[simp] theorem State.putCopy_mgmt (s : State) (f g : CpOp) : (s.putCopy f g).mgmt = s.mgmt := rfl
@[simp] theorem State.putCopy_script (s : State) (f g : CpOp) : (s.putCopy f g).script = s.script := rfl
@[simp] theorem State.putCopy_inflight (s : State) (f g : CpOp) : (s.putCopy f g).inflight = s.inflight := rfl
@[simp] theorem State.putCopy_free (s : State) (f g : CpOp) : (s.putCopy f g).free = s.free := rfl

/-! `State.takeMsg`. -/

@[simp] theorem State.takeMsg_core (s : State) (m : Msg) : (s.takeMsg m).core = s.core := rfl
@[simp] theorem State.takeMsg_eng (s : State) (m : Msg) : (s.takeMsg m).eng = s.eng := rfl
@[simp] theorem State.takeMsg_wick (s : State) (m : Msg) : (s.takeMsg m).wick = s.wick := rfl
@[simp] theorem State.takeMsg_fab (s : State) (m : Msg) : (s.takeMsg m).fab = s.fab := rfl
@[simp] theorem State.takeMsg_sync (s : State) (m : Msg) : (s.takeMsg m).sync = s.sync := rfl
@[simp] theorem State.takeMsg_disp (s : State) (m : Msg) : (s.takeMsg m).disp = s.disp := rfl
@[simp] theorem State.takeMsg_parts (s : State) (m : Msg) : (s.takeMsg m).parts = s.parts := rfl
@[simp] theorem State.takeMsg_mgmt (s : State) (m : Msg) : (s.takeMsg m).mgmt = s.mgmt := rfl
@[simp] theorem State.takeMsg_script (s : State) (m : Msg) : (s.takeMsg m).script = s.script := rfl
@[simp] theorem State.takeMsg_free (s : State) (m : Msg) : (s.takeMsg m).free = s.free := rfl

/-! `State.send`. -/

@[simp] theorem State.send_core (s : State) (m : Msg) : (s.send m).core = s.core := rfl
@[simp] theorem State.send_eng (s : State) (m : Msg) : (s.send m).eng = s.eng := rfl
@[simp] theorem State.send_wick (s : State) (m : Msg) : (s.send m).wick = s.wick := rfl
@[simp] theorem State.send_fab (s : State) (m : Msg) : (s.send m).fab = s.fab := rfl
@[simp] theorem State.send_sync (s : State) (m : Msg) : (s.send m).sync = s.sync := rfl
@[simp] theorem State.send_disp (s : State) (m : Msg) : (s.send m).disp = s.disp := rfl
@[simp] theorem State.send_parts (s : State) (m : Msg) : (s.send m).parts = s.parts := rfl
@[simp] theorem State.send_mgmt (s : State) (m : Msg) : (s.send m).mgmt = s.mgmt := rfl
@[simp] theorem State.send_script (s : State) (m : Msg) : (s.send m).script = s.script := rfl
@[simp] theorem State.send_free (s : State) (m : Msg) : (s.send m).free = s.free := rfl

/-! `State.sendFlit`. -/

@[simp] theorem State.sendFlit_core (s : State) (f : Flit) : (s.sendFlit f).core = s.core := rfl
@[simp] theorem State.sendFlit_eng (s : State) (f : Flit) : (s.sendFlit f).eng = s.eng := rfl
@[simp] theorem State.sendFlit_wick (s : State) (f : Flit) : (s.sendFlit f).wick = s.wick := rfl
@[simp] theorem State.sendFlit_fab (s : State) (f : Flit) : (s.sendFlit f).fab = s.fab := rfl
@[simp] theorem State.sendFlit_sync (s : State) (f : Flit) : (s.sendFlit f).sync = s.sync := rfl
@[simp] theorem State.sendFlit_disp (s : State) (f : Flit) : (s.sendFlit f).disp = s.disp := rfl
@[simp] theorem State.sendFlit_parts (s : State) (f : Flit) : (s.sendFlit f).parts = s.parts := rfl
@[simp] theorem State.sendFlit_script (s : State) (f : Flit) : (s.sendFlit f).script = s.script := rfl
@[simp] theorem State.sendFlit_inflight (s : State) (f : Flit) : (s.sendFlit f).inflight = s.inflight := rfl
@[simp] theorem State.sendFlit_free (s : State) (f : Flit) : (s.sendFlit f).free = s.free := rfl

/-! `State.setRole`. -/

@[simp] theorem State.setRole_core (s : State) (n : Nat) (r : Role) : (s.setRole n r).core = s.core := rfl
@[simp] theorem State.setRole_eng (s : State) (n : Nat) (r : Role) : (s.setRole n r).eng = s.eng := rfl
@[simp] theorem State.setRole_wick (s : State) (n : Nat) (r : Role) : (s.setRole n r).wick = s.wick := rfl
@[simp] theorem State.setRole_fab (s : State) (n : Nat) (r : Role) : (s.setRole n r).fab = s.fab := rfl
@[simp] theorem State.setRole_sync (s : State) (n : Nat) (r : Role) : (s.setRole n r).sync = s.sync := rfl
@[simp] theorem State.setRole_disp (s : State) (n : Nat) (r : Role) : (s.setRole n r).disp = s.disp := rfl
@[simp] theorem State.setRole_parts (s : State) (n : Nat) (r : Role) : (s.setRole n r).parts = s.parts := rfl
@[simp] theorem State.setRole_script (s : State) (n : Nat) (r : Role) : (s.setRole n r).script = s.script := rfl
@[simp] theorem State.setRole_inflight (s : State) (n : Nat) (r : Role) : (s.setRole n r).inflight = s.inflight := rfl
@[simp] theorem State.setRole_free (s : State) (n : Nat) (r : Role) : (s.setRole n r).free = s.free := rfl

/-! `State.powerIslands`. -/

@[simp] theorem State.powerIslands_core (s : State) (is : List Nat) : (s.powerIslands is).core = s.core := rfl
@[simp] theorem State.powerIslands_eng (s : State) (is : List Nat) : (s.powerIslands is).eng = s.eng := rfl
@[simp] theorem State.powerIslands_wick (s : State) (is : List Nat) : (s.powerIslands is).wick = s.wick := rfl
@[simp] theorem State.powerIslands_fab (s : State) (is : List Nat) : (s.powerIslands is).fab = s.fab := rfl
@[simp] theorem State.powerIslands_sync (s : State) (is : List Nat) : (s.powerIslands is).sync = s.sync := rfl
@[simp] theorem State.powerIslands_disp (s : State) (is : List Nat) : (s.powerIslands is).disp = s.disp := rfl
@[simp] theorem State.powerIslands_parts (s : State) (is : List Nat) : (s.powerIslands is).parts = s.parts := rfl
@[simp] theorem State.powerIslands_script (s : State) (is : List Nat) : (s.powerIslands is).script = s.script := rfl
@[simp] theorem State.powerIslands_inflight (s : State) (is : List Nat) : (s.powerIslands is).inflight = s.inflight := rfl

/-! `State.putSlot`. -/

@[simp] theorem State.putSlot_core (s : State) (h : QSlot) : (s.putSlot h).core = s.core := rfl
@[simp] theorem State.putSlot_eng (s : State) (h : QSlot) : (s.putSlot h).eng = s.eng := rfl
@[simp] theorem State.putSlot_wick (s : State) (h : QSlot) : (s.putSlot h).wick = s.wick := rfl
@[simp] theorem State.putSlot_fab (s : State) (h : QSlot) : (s.putSlot h).fab = s.fab := rfl
@[simp] theorem State.putSlot_sync (s : State) (h : QSlot) : (s.putSlot h).sync = s.sync := rfl
@[simp] theorem State.putSlot_parts (s : State) (h : QSlot) : (s.putSlot h).parts = s.parts := rfl
@[simp] theorem State.putSlot_mgmt (s : State) (h : QSlot) : (s.putSlot h).mgmt = s.mgmt := rfl
@[simp] theorem State.putSlot_script (s : State) (h : QSlot) : (s.putSlot h).script = s.script := rfl
@[simp] theorem State.putSlot_inflight (s : State) (h : QSlot) : (s.putSlot h).inflight = s.inflight := rfl
@[simp] theorem State.putSlot_free (s : State) (h : QSlot) : (s.putSlot h).free = s.free := rfl

/-! `State.putQueue`. -/

@[simp] theorem State.putQueue_core (s : State) (r : RegionQueue) : (s.putQueue r).core = s.core := rfl
@[simp] theorem State.putQueue_eng (s : State) (r : RegionQueue) : (s.putQueue r).eng = s.eng := rfl
@[simp] theorem State.putQueue_wick (s : State) (r : RegionQueue) : (s.putQueue r).wick = s.wick := rfl
@[simp] theorem State.putQueue_fab (s : State) (r : RegionQueue) : (s.putQueue r).fab = s.fab := rfl
@[simp] theorem State.putQueue_sync (s : State) (r : RegionQueue) : (s.putQueue r).sync = s.sync := rfl
@[simp] theorem State.putQueue_parts (s : State) (r : RegionQueue) : (s.putQueue r).parts = s.parts := rfl
@[simp] theorem State.putQueue_mgmt (s : State) (r : RegionQueue) : (s.putQueue r).mgmt = s.mgmt := rfl
@[simp] theorem State.putQueue_script (s : State) (r : RegionQueue) : (s.putQueue r).script = s.script := rfl
@[simp] theorem State.putQueue_inflight (s : State) (r : RegionQueue) : (s.putQueue r).inflight = s.inflight := rfl
@[simp] theorem State.putQueue_free (s : State) (r : RegionQueue) : (s.putQueue r).free = s.free := rfl

/-! `State.putHost`. -/

@[simp] theorem State.putHost_core (s : State) (p l : Nat) (x : Option HostState) : (s.putHost p l x).core = s.core := rfl
@[simp] theorem State.putHost_eng (s : State) (p l : Nat) (x : Option HostState) : (s.putHost p l x).eng = s.eng := rfl
@[simp] theorem State.putHost_wick (s : State) (p l : Nat) (x : Option HostState) : (s.putHost p l x).wick = s.wick := rfl
@[simp] theorem State.putHost_sync (s : State) (p l : Nat) (x : Option HostState) : (s.putHost p l x).sync = s.sync := rfl
@[simp] theorem State.putHost_disp (s : State) (p l : Nat) (x : Option HostState) : (s.putHost p l x).disp = s.disp := rfl
@[simp] theorem State.putHost_parts (s : State) (p l : Nat) (x : Option HostState) : (s.putHost p l x).parts = s.parts := rfl
@[simp] theorem State.putHost_mgmt (s : State) (p l : Nat) (x : Option HostState) : (s.putHost p l x).mgmt = s.mgmt := rfl
@[simp] theorem State.putHost_script (s : State) (p l : Nat) (x : Option HostState) : (s.putHost p l x).script = s.script := rfl
@[simp] theorem State.putHost_inflight (s : State) (p l : Nat) (x : Option HostState) : (s.putHost p l x).inflight = s.inflight := rfl
@[simp] theorem State.putHost_free (s : State) (p l : Nat) (x : Option HostState) : (s.putHost p l x).free = s.free := rfl

/-! `State.setSync`. -/

@[simp] theorem State.setSync_core (s : State) (a : Nat) (ds : List Dword) : (s.setSync a ds).core = s.core := rfl
@[simp] theorem State.setSync_eng (s : State) (a : Nat) (ds : List Dword) : (s.setSync a ds).eng = s.eng := rfl
@[simp] theorem State.setSync_wick (s : State) (a : Nat) (ds : List Dword) : (s.setSync a ds).wick = s.wick := rfl
@[simp] theorem State.setSync_fab (s : State) (a : Nat) (ds : List Dword) : (s.setSync a ds).fab = s.fab := rfl
@[simp] theorem State.setSync_disp (s : State) (a : Nat) (ds : List Dword) : (s.setSync a ds).disp = s.disp := rfl
@[simp] theorem State.setSync_parts (s : State) (a : Nat) (ds : List Dword) : (s.setSync a ds).parts = s.parts := rfl
@[simp] theorem State.setSync_mgmt (s : State) (a : Nat) (ds : List Dword) : (s.setSync a ds).mgmt = s.mgmt := rfl
@[simp] theorem State.setSync_script (s : State) (a : Nat) (ds : List Dword) : (s.setSync a ds).script = s.script := rfl
@[simp] theorem State.setSync_inflight (s : State) (a : Nat) (ds : List Dword) : (s.setSync a ds).inflight = s.inflight := rfl
@[simp] theorem State.setSync_free (s : State) (a : Nat) (ds : List Dword) : (s.setSync a ds).free = s.free := rfl

/-! `State.putBarrier`. -/

@[simp] theorem State.putBarrier_core (s : State) (a : Nat) (b : Barrier) : (s.putBarrier a b).core = s.core := State.setSync_core _ _ _
@[simp] theorem State.putBarrier_eng (s : State) (a : Nat) (b : Barrier) : (s.putBarrier a b).eng = s.eng := State.setSync_eng _ _ _
@[simp] theorem State.putBarrier_wick (s : State) (a : Nat) (b : Barrier) : (s.putBarrier a b).wick = s.wick := State.setSync_wick _ _ _
@[simp] theorem State.putBarrier_fab (s : State) (a : Nat) (b : Barrier) : (s.putBarrier a b).fab = s.fab := State.setSync_fab _ _ _
@[simp] theorem State.putBarrier_disp (s : State) (a : Nat) (b : Barrier) : (s.putBarrier a b).disp = s.disp := State.setSync_disp _ _ _
@[simp] theorem State.putBarrier_parts (s : State) (a : Nat) (b : Barrier) : (s.putBarrier a b).parts = s.parts := State.setSync_parts _ _ _
@[simp] theorem State.putBarrier_mgmt (s : State) (a : Nat) (b : Barrier) : (s.putBarrier a b).mgmt = s.mgmt := State.setSync_mgmt _ _ _
@[simp] theorem State.putBarrier_script (s : State) (a : Nat) (b : Barrier) : (s.putBarrier a b).script = s.script := State.setSync_script _ _ _
@[simp] theorem State.putBarrier_inflight (s : State) (a : Nat) (b : Barrier) : (s.putBarrier a b).inflight = s.inflight := State.setSync_inflight _ _ _
@[simp] theorem State.putBarrier_free (s : State) (a : Nat) (b : Barrier) : (s.putBarrier a b).free = s.free := State.setSync_free _ _ _

/-! `State.returnPermit`. -/

@[simp] theorem State.returnPermit_core (s : State) : (s.returnPermit).core = s.core := rfl
@[simp] theorem State.returnPermit_eng (s : State) : (s.returnPermit).eng = s.eng := rfl
@[simp] theorem State.returnPermit_fab (s : State) : (s.returnPermit).fab = s.fab := rfl
@[simp] theorem State.returnPermit_sync (s : State) : (s.returnPermit).sync = s.sync := rfl
@[simp] theorem State.returnPermit_disp (s : State) : (s.returnPermit).disp = s.disp := rfl
@[simp] theorem State.returnPermit_parts (s : State) : (s.returnPermit).parts = s.parts := rfl
@[simp] theorem State.returnPermit_mgmt (s : State) : (s.returnPermit).mgmt = s.mgmt := rfl
@[simp] theorem State.returnPermit_script (s : State) : (s.returnPermit).script = s.script := rfl
@[simp] theorem State.returnPermit_inflight (s : State) : (s.returnPermit).inflight = s.inflight := rfl
@[simp] theorem State.returnPermit_free (s : State) : (s.returnPermit).free = s.free := rfl

end Sys2Proof.Machine
end

