-- ==== Sys2Proof/Laws/Canonical.lean ====
section
/-! SUPPORT. That the operations which write memory, the scratchpad, the sync space, the accumulator or the tile file keep their
canonical form, and that the shared operations which write none of them leave it. -/

namespace Sys2Proof.Machine

/-- The canonical form is that of five fields. -/
theorem State.canonical_congr {s t : State} (m : t.fab.mem = s.fab.mem) (sc : t.core.scratch = s.core.scratch)
    (y : t.sync.sram = s.sync.sram) (a : t.core.acc = s.core.acc) (l : t.core.tile = s.core.tile) :
    t.canonical ↔ s.canonical := by
  simp only [State.canonical, m, sc, y, a, l]

/-- A state whose five fields are another's. -/
theorem State.canonical_upd {s : State} {core : CoreState} {eng wick fab sync disp parts mgmt script inflight free}
    (h : s.canonical) (m : fab.mem = s.fab.mem) (sc : core.scratch = s.core.scratch) (y : sync.sram = s.sync.sram)
    (a : core.acc = s.core.acc) (l : core.tile = s.core.tile) :
    State.canonical ⟨core, eng, wick, fab, sync, disp, parts, mgmt, script, inflight, free⟩ :=
  (State.canonical_congr m sc y a l).mpr h

/-- The core's part of the canonical form. -/
def CoreState.canonical (k : CoreState) : Prop :=
  Memory.wf k.scratch = true ∧ Memory.wf k.acc = true ∧ Memory.wf k.tile = true

theorem State.core_canonical {s : State} (h : s.canonical) : s.core.canonical := ⟨h.2.1, h.2.2.2.1, h.2.2.2.2⟩

/-- A state in whose core alone the five fields changed. -/
theorem State.canonical_core {s : State} {core : CoreState} {eng wick fab sync disp parts mgmt script inflight free}
    (h : s.canonical) (k : core.canonical) (m : fab.mem = s.fab.mem) (y : sync.sram = s.sync.sram) :
    State.canonical ⟨core, eng, wick, fab, sync, disp, parts, mgmt, script, inflight, free⟩ :=
  ⟨by rw [m]; exact h.1, k.1, by rw [y]; exact h.2.2.1, k.2⟩

/-- A state in whose home memory alone the five fields changed. -/
theorem State.canonical_fab {s : State} {core : CoreState} {eng wick fab sync disp parts mgmt script inflight free}
    (h : s.canonical) (m : Memory.wf fab.mem = true) (sc : core.scratch = s.core.scratch) (y : sync.sram = s.sync.sram)
    (a : core.acc = s.core.acc) (l : core.tile = s.core.tile) :
    State.canonical ⟨core, eng, wick, fab, sync, disp, parts, mgmt, script, inflight, free⟩ :=
  ⟨m, by rw [sc]; exact h.2.1, by rw [y]; exact h.2.2.1, by rw [a]; exact h.2.2.2.1, by rw [l]; exact h.2.2.2.2⟩

theorem State.canonical_mem {s : State} (h : s.canonical) : Memory.wf s.fab.mem = true := h.1

/-- A fold keeps what each of its steps keeps. -/
theorem foldl_keeps {α β : Type} {P : β → Prop} {f : β → α → β} (h : ∀ b a, P b → P (f b a)) (l : List α) :
    ∀ {b : β}, P b → P (l.foldl f b) := by
  induction l with
  | nil => exact id
  | cons a r ih => exact fun p => ih (h _ a p)

/-! Home memory. -/

theorem Fabric.putBytes_wf (f : Fabric) (bs : List (Nat × Byte)) (h : Memory.wf f.mem = true) :
    Memory.wf (f.putBytes bs).mem = true := writeBytes_wf _ h

theorem State.takeAck_canonical (s : State) (w : Nat) (d : Option Word) (h : s.canonical) : (s.takeAck w d).canonical := by
  unfold State.takeAck; repeat' first | exact h | split

theorem State.takeRevoke_canonical (s : State) (w : Nat) (h : s.canonical) : (s.takeRevoke w).canonical := by
  unfold State.takeRevoke; repeat' first | exact h | split

theorem State.takeWbAck_canonical (s : State) (w : Nat) (h : s.canonical) : (s.takeWbAck w).canonical := by
  unfold State.takeWbAck; repeat' first | exact h | split

theorem State.receive_canonical (s : State) (m : Msg) (h : s.canonical) : (s.receive m).canonical := by
  have h' : State.canonical { s with inflight := s.inflight.erase m } := h
  unfold State.receive
  cases m with
  | ack w d f => exact State.takeAck_canonical _ _ _ h'
  | wbAck w => exact State.takeWbAck_canonical _ _ h'
  | revoke w g k => exact State.takeRevoke_canonical _ _ h'
  | _ => exact h

theorem State.receiveAll_canonical (s : State) (p : Msg → Bool) (h : s.canonical) : (s.receiveAll p).canonical :=
  foldl_keeps (P := State.canonical) (fun s m => s.receive_canonical m) _ h

theorem State.surrender_canonical (s : State) (w : Nat) (h : s.canonical) : (s.surrender w).canonical := by
  unfold State.surrender
  split
  · exact State.takeRevoke_canonical _ _ (s.receiveAll_canonical _ h)
  · exact h

theorem State.letGo_canonical (s : State) (w : Nat) (h : s.canonical) : (s.letGo w).canonical :=
  State.takeRevoke_canonical _ _ (s.receiveAll_canonical _ h)

theorem State.dropWords_canonical (s : State) (p : Nat → Bool) (h : s.canonical) : (s.dropWords p).canonical := h

theorem State.freshen_canonical (s : State) (as : List Nat) (h : s.canonical) : (s.freshen as).canonical :=
  (s.receiveAll_canonical _ h)

/-- Marking the registrations that a store has passed keeps the form. -/
theorem State.passAll_canonical (l : List (Nat × BitVec 4 × Word)) {s : State} (h : s.canonical) :
    (l.foldl (fun s x => s.pass x.1 x.2.1) s).canonical :=
  foldl_keeps (P := State.canonical) (f := fun s (x : Nat × BitVec 4 × Word) => s.pass x.1 x.2.1) (fun _ _ h => h) l h

theorem State.homeWrite_canonical (s : State) (whole : Bool) (bs : List (Nat × Byte)) (h : s.canonical) :
    (s.homeWrite whole bs).canonical := by
  have k := foldl_keeps (P := State.canonical) (fun s w => State.surrender_canonical s w)
    (((bs.filter fun p => !inFrames p.1 && !s.fencedAt p.1 && !(s.badLines whole bs).contains (lineOf p.1)).map (·.1 / 4)).eraseDups) h
  refine State.passAll_canonical _ (State.canonical_fab k ?_ rfl rfl rfl rfl)
  split <;> exact Fabric.putBytes_wf _ _ k.1

theorem State.ownWrite_canonical (s : State) (whole : Bool) (bs : List (Nat × Byte)) (h : s.canonical) :
    (s.ownWrite whole bs).canonical :=
  (State.homeWrite_canonical _ _ _ (foldl_keeps (P := State.canonical) (fun s w => State.letGo_canonical s w) _ h))

theorem State.deviceWrite_canonical (s : State) (part : Option Nat) (whole : Bool) (bs : List (Nat × Byte)) (h : s.canonical) :
    (s.deviceWrite part whole bs).canonical := by
  unfold State.deviceWrite
  split
  · exact h
  · exact s.homeWrite_canonical _ _ h

/-! Device writes (R445) and the records of what they lose. -/

theorem State.holdLeaves_canonical (s : State) (part : Nat) (ls : List Leaf) (h : s.canonical) :
    (s.holdLeaves part ls).canonical := h

/-- The write's state, however its answer is taken apart. -/
theorem State.canonical_of_fst {α : Type} {r : State × α} {t : State} {x : α} (e : r = (t, x)) (h : r.1.canonical) : t.canonical := by
  rw [e] at h; exact h

/-- A write to virtual addresses keeps what its `put` keeps. -/
theorem State.writeVa_canonical (s : State) {put : State → List (Nat × Byte) → State} (part va : Nat) (bs : List Byte)
    (hp : ∀ bs, (put s bs).canonical) (h : s.canonical) : (s.writeVa put part va bs).1.canonical := by
  unfold State.writeVa
  split
  · exact h
  · exact State.holdLeaves_canonical _ _ _ (hp _)

theorem State.ringWrite_canonical (s : State) (ring : Nat × Nat) (bs : List (Nat × Byte)) (h : s.canonical) :
    (s.ringWrite ring bs).canonical := by
  unfold State.ringWrite
  split
  · exact h
  · exact s.homeWrite_canonical _ _ h

theorem State.writeOwn_canonical (s : State) (part va : Nat) (bs : List Byte) (h : s.canonical) :
    (s.writeOwn part va bs).1.canonical := s.writeVa_canonical _ _ _ (fun _ => s.deviceWrite_canonical _ _ _ h) h

theorem State.writeRing_canonical (s : State) (part ring va : Nat) (bs : List Byte) (h : s.canonical) :
    (s.writeRing part ring va bs).1.canonical := s.writeVa_canonical _ _ _ (fun _ => s.ringWrite_canonical _ _ h) h

theorem State.writeParts_canonical (s : State) (part : Nat) (ps : List (Nat × List Byte)) (h : s.canonical) :
    (s.writeParts part ps).1.canonical := by
  unfold State.writeParts
  split
  · exact h
  · exact foldl_keeps (P := fun r : State × Option (Cause × Dword) => r.1.canonical)
      (fun r p k => State.writeOwn_canonical r.1 part p.1 p.2 k) ps (b := (s, none)) h

theorem State.notify_canonical (s : State) (c : Cause) (v : Dword) (h : s.canonical) : (s.notify c v).canonical := h

theorem State.record_canonical (s : State) (r : FaultRec) (h : s.canonical) : (s.record r).canonical := by
  unfold State.record
  split
  · exact h
  · next q size _ =>
    dsimp only
    split
    · exact h
    · split
      · next hw => exact State.notify_canonical _ _ _ (State.canonical_of_fst hw (s.writeRing_canonical _ _ _ _ h))
      · next hw =>
        have k := State.canonical_of_fst hw (s.writeRing_canonical _ _ _ _ h)
        exact k

theorem State.tellLoss_canonical (s : State) (part : Option Nat) (f : Option (Cause × Dword)) (h : s.canonical) :
    (s.tellLoss part f).canonical := by
  unfold State.tellLoss
  split
  · exact s.record_canonical _ h
  · exact s.notify_canonical _ _ h
  · exact h

theorem State.drainWrites_canonical (l : List WaitingWrite) :
    ∀ {s : State} {kept : List WaitingWrite}, s.canonical → (s.drainWrites kept l).canonical := by
  induction l with
  | nil => exact fun h => h
  | cons w r ih =>
    intro s kept h
    unfold State.drainWrites
    dsimp only
    split
    · exact ih h
    · exact ih (State.tellLoss_canonical _ _ _ (s.homeWrite_canonical _ _ h))

theorem State.drainWaiting_canonical (s : State) (h : s.canonical) : s.drainWaiting.canonical :=
  State.drainWrites_canonical _ h

/-! The accumulator and the tile file. -/

theorem CoreState.touchSeg_canonical (k : CoreState) (seg : Nat) (h : k.canonical) : (k.touchSeg seg).canonical := by
  unfold CoreState.touchSeg
  split
  · exact h
  · exact ⟨h.1, foldl_cellSet_wf (fun m r => (r, _)) _ h.2.1, h.2.2⟩

theorem CoreState.writeLanes_canonical (k : CoreState) (row w : Nat) (vs : List (Nat × Nat)) (h : k.canonical) :
    (k.writeLanes row w vs).canonical := by
  have t := foldl_keeps (P := CoreState.canonical) (fun k seg => k.touchSeg_canonical seg)
    ((vs.map fun p => row / 8 * 4 + p.1 * w / 128).eraseDups) h
  unfold CoreState.writeLanes
  dsimp only
  split
  · exact t
  · exact ⟨t.1, cellSet_wf _ _ t.2.1, t.2.2⟩

theorem CoreState.zeroRect_canonical (k : CoreState) (w rf nr lf nl : Nat) (h : k.canonical) :
    (k.zeroRect w rf nr lf nl).canonical :=
  foldl_keeps (P := CoreState.canonical) (f := fun k r => k.writeLanes r w _) (fun k _ => k.writeLanes_canonical _ _ _) (span rf nr) h

theorem CoreState.update_canonical (k : CoreState) (ty : AccType) (row lane : Nat) (f : Nat → Nat × Status) (h : k.canonical) :
    (k.update ty row lane f).1.canonical := k.writeLanes_canonical _ _ _ h

theorem oneUpdate_canonical (fs : Fields) (side : Bool) (ty : AccType) (i : Nat) (k : CoreState) (op : MxOp) (h : k.canonical) :
    (oneUpdate fs side ty i k op).1.canonical := by
  unfold oneUpdate
  dsimp only
  repeat' first
    | with_reducible exact h
    | with_reducible exact k.update_canonical _ _ _ _ h
    | split

theorem runUpdates_canonical (fs : Fields) (side : Bool) (ty : AccType) (n : Nat) : ∀ {k : CoreState} {op : MxOp} {st : Status},
    k.canonical → (runUpdates fs side ty n k op st).1.canonical := by
  induction n with
  | zero => exact fun h => h
  | succ n ih => exact fun h => ih (oneUpdate_canonical fs side ty _ _ _ h)

theorem Fetch.fill_wf (f : Fetch) (s : State) (n : Nat) (h : s.canonical) : Memory.wf (f.fill s n) = true :=
  foldl_cellSet_wf (fun t (p : TileBits) => (p.row, setRowBits (cellGet t p.row) p.lo p.n p.v)) _ h.2.2.2.2

theorem setTileByte_wf (t : Cells 2048) (row b : Nat) (v : Byte) (h : Memory.wf t = true) : Memory.wf (setTileByte t row b v) = true :=
  cellSet_wf _ _ h

/-! The scratchpad and the sync space. -/

theorem State.engineWrite_canonical (s : State) (sp : Space) (whole : Bool) (bs : List (Nat × Byte)) (h : s.canonical) :
    (s.engineWrite sp whole bs).canonical := by
  unfold State.engineWrite
  split
  · exact ⟨h.1, writeBytes_wf _ h.2.1, h.2.2⟩
  · exact ⟨h.1, h.2.1, writeBytes_wf _ h.2.2.1, h.2.2.2⟩
  · exact s.deviceWrite_canonical _ _ _ h

theorem State.setSync_canonical (s : State) (a : Nat) (ds : List Dword) (h : s.canonical) : (s.setSync a ds).canonical :=
  ⟨h.1, h.2.1, writeBytes_wf _ h.2.2.1, h.2.2.2⟩

/-- A monadic fold of checks keeps what each of its steps keeps. -/
theorem foldlM_keeps {α β : Type} {P : β → Prop} {f : β → α → Check β} (h : ∀ b a t, P b → f b a = .ok t → P t) (l : List α) :
    ∀ {b t : β}, P b → l.foldlM f b = .ok t → P t := by
  induction l with
  | nil => intro b t p e; cases e; exact p
  | cons a r ih =>
    intro b t p e
    simp only [List.foldlM_cons, bind, Except.bind] at e
    split at e
    · cases e
    · next u hu => exact ih (h _ _ _ p hu) e

theorem State.saveAcc_canonical (s : State) (part ctx : Nat) (h : s.canonical) : (s.saveAcc part ctx).1.canonical :=
  s.writeParts_canonical _ _ h

theorem State.loadAcc_canonical {s : State} {part ctx : Nat} {t : State} (h : s.canonical) (e : s.loadAcc part ctx = .ok t) :
    t.canonical := by
  simp only [State.loadAcc, bind, Except.bind] at e
  repeat' first
    | (split at e)
    | (cases e; done)
  · cases e; exact h
  · next hm =>
    cases e
    refine ⟨h.1, h.2.1, h.2.2.1, ?_, h.2.2.2.2⟩
    refine foldlM_keeps (P := fun m => Memory.wf m = true) ?_ _ h.2.2.2.1 hm
    intro m p u w hu
    split at hu
    · cases hu
    · cases hu; exact cellSet_wf _ _ w

end Sys2Proof.Machine
end

