-- ==== Sys2Proof/Laws/Issue.lean ====
section
/-! SUPPORT. What the issue of a sequencer instruction does, said once: moving schedule time leaves all but the registers of landed
results, and an instruction before which nothing stands ends as its own effect says. -/

namespace Sys2Proof.Machine

/-! What landing results leaves as it was. -/

/-- The parts of a context that landing a result never changes. -/
structure Context.SameBeyondResults (c d : Context) : Prop where
  pc : d.pc = c.pc
  prv : d.prv = c.prv
  held : d.held = c.held
  loops : d.loops = c.loops
  p : d.p = c.p
  h : d.h = c.h
  lq : d.lq = c.lq
  chk : d.chk = c.chk
  sup : d.sup = c.sup
  flags : d.flags = c.flags
  acc : d.acc = c.acc
  gen : d.gen = c.gen
  vbusy : d.vbusy = c.vbusy
  stopped : d.stopped = c.stopped
  launch : d.launch = c.launch
  ctxid : d.ctxid = c.ctxid
  mark : d.mark = c.mark
  serial : d.serial = c.serial
  urgent : d.urgent = c.urgent
  rrb : d.rrb = c.rrb
  row0 : d.row0 = c.row0
  landT : d.landT = c.landT
  landS : d.landS = c.landS
  lid : d.lid = c.lid
  taskNo : d.taskNo = c.taskNo
  walk : d.walk = c.walk
  fbuf : d.fbuf = c.fbuf
  fill : d.fill = c.fill
  windows : d.windows = c.windows
  permit : d.permit = c.permit
  gang : d.gang = c.gang
  claimed : d.claimed = c.claimed

theorem Context.SameBeyondResults.rfl' {c : Context} : c.SameBeyondResults c := by constructor <;> rfl

theorem Context.SameBeyondResults.trans {a b c : Context} (h : a.SameBeyondResults b) (k : b.SameBeyondResults c) :
    a.SameBeyondResults c := by
  constructor
  all_goals first
    | exact k.pc.trans h.pc | exact k.prv.trans h.prv | exact k.held.trans h.held | exact k.loops.trans h.loops
    | exact k.p.trans h.p | exact k.h.trans h.h | exact k.lq.trans h.lq | exact k.chk.trans h.chk | exact k.sup.trans h.sup
    | exact k.flags.trans h.flags | exact k.acc.trans h.acc | exact k.gen.trans h.gen | exact k.vbusy.trans h.vbusy
    | exact k.stopped.trans h.stopped | exact k.launch.trans h.launch | exact k.ctxid.trans h.ctxid
    | exact k.mark.trans h.mark | exact k.serial.trans h.serial | exact k.urgent.trans h.urgent
    | exact k.rrb.trans h.rrb | exact k.row0.trans h.row0 | exact k.landT.trans h.landT | exact k.landS.trans h.landS
    | exact k.lid.trans h.lid | exact k.taskNo.trans h.taskNo | exact k.walk.trans h.walk | exact k.fbuf.trans h.fbuf
    | exact k.fill.trans h.fill | exact k.windows.trans h.windows | exact k.permit.trans h.permit | exact k.gang.trans h.gang
    | exact k.claimed.trans h.claimed

theorem Context.write_same (c : Context) (r : Code) (v : Dword) : c.SameBeyondResults (c.write r v) := by
  unfold Context.write; dsimp only; split
  · constructor <;> rfl
  · split <;> constructor <;> rfl

theorem Context.land_same (c : Context) (p : Pending) : c.SameBeyondResults (c.land p) := by
  have h := c.write_same p.dest p.value
  exact ⟨h.pc, h.prv, h.held, h.loops, h.p, h.h, h.lq, h.chk, h.sup, h.flags, h.acc, h.gen, h.vbusy, h.stopped, h.launch, h.ctxid,
    h.mark, h.serial, h.urgent, h.rrb, h.row0, h.landT, h.landS, h.lid, h.taskNo, h.walk, h.fbuf, h.fill, h.windows, h.permit, h.gang,
    h.claimed⟩

theorem landThrough_same (u : Nat) : ∀ (ps : List Pending) (c : Context), c.SameBeyondResults (landThrough u ps c)
  | [], c => by constructor <;> rfl
  | p :: r, c => by
    unfold landThrough; split
    · exact (c.land_same p).trans (landThrough_same u r _)
    · constructor <;> rfl

theorem Context.advance_same (c : Context) (u : Nat) : c.SameBeyondResults (c.advance u) := by
  have h := landThrough_same u c.pend c
  exact ⟨h.pc, h.prv, h.held, h.loops, h.p, h.h, h.lq, h.chk, h.sup, h.flags, h.acc, h.gen, h.vbusy, h.stopped, h.launch, h.ctxid,
    h.mark, h.serial, h.urgent, h.rrb, h.row0, h.landT, h.landS, h.lid, h.taskNo, h.walk, h.fbuf, h.fill, h.windows, h.permit, h.gang,
    h.claimed⟩

theorem Context.limited_same (c : Context) (lat : Nat) : c.SameBeyondResults (c.limited lat) := by
  unfold Context.limited; split
  · split
    · exact c.advance_same _
    · exact .rfl'
  · exact .rfl'

/-- R100: an instruction of latency 0 or 1 issues where it stands. -/
theorem Context.limited_short (c : Context) {lat : Nat} (h : lat < 2) : c.limited lat = c := by
  unfold Context.limited; split
  · rw [if_neg (by omega)]
  · rfl

theorem Instr.settled_same (i : Instr) (c : Context) : c.SameBeyondResults (Instr.settled i c) := by
  unfold Instr.settled; split
  · split
    · exact c.advance_same _
    · exact .rfl'
  · exact .rfl'

theorem Context.passed_same (c : Context) (sh : Shape) : c.SameBeyondResults (c.passed sh) := c.advance_same _

/-- R99: with no load outstanding no register is interlocked. -/
theorem Context.interlocked_of_back {c : Context} (h : c.loadsBack = true) (codes : List Code) : c.interlocked codes = false := by
  simp only [Context.loadsBack, List.all_eq_true] at h
  simp only [Context.interlocked, List.any_eq_false]
  intro e he; simp [h e he]

/-- R99: nor is a result held up. -/
theorem Context.heldUp_of_back {c : Context} (h : c.loadsBack = true) : c.heldUp = false := by
  unfold Context.heldUp; split
  · simp [c.interlocked_of_back h]
  · rfl

end Sys2Proof.Machine

namespace Sys2Proof

open Machine

/-- The answer is a completion: not a trap or a wait. -/
def Machine.Res.ends : Res → Bool
  | .done _ _ | .goto _ _ _ _ | .boundary _ _ _ _ _ | .bound _ _ _ | .left _ | .entered _ => true
  | .trap _ _ | .wait _ => false

/-- Check mode lets the instruction's answer stand where it finds no breach. -/
theorem Issues.checked {i : Instr} {s : State} {c : Context} (h : Issues i s c) (r : Res) :
    r.checked i.form (Instr.settled i (c.atIssue i)) = r := by
  have hs : (Instr.settled i (c.atIssue i)).chk = c.chk := (Instr.settled_same i _).chk.trans (c.limited_same i.form.lat).chk
  unfold Res.checked
  rcases h.schedule with hc | hb
  · rw [show bit (Instr.settled i (c.atIssue i)).chk 0 = false by rw [hs, hc]]; rfl
  · simp only [hb, ite_self]

/-- What `issue` answers where nothing stands before the instruction and its privilege suffices. -/
theorem issue_of_issues {i : Instr} {s : State} {c : Context} (h : Issues i s c) (priv : Context → Option Dword)
    (hp : priv (c.atIssue i) = none) (body : State → Context → Res) :
    issue i priv body s = .next (settleRes i.form s c (c.atIssue i) (body s (c.atIssue i))) := by
  have hg : gate i i.form priv s = .go (c.atIssue i) := by
    unfold gate
    rw [h.active]
    simp only [h.running, Nat.not_lt.mpr h.slotReady, h.windows, h.fields, h.free, Bool.false_eq_true, or_self, if_false]
    rw [show c.limited i.form.lat = c.atIssue i from rfl, h.landed, hp]
    rfl
  unfold issue
  rw [hg, h.active]
  simp only [h.checked]

/-- No held cause is due where the instruction's effect runs. -/
theorem Issues.not_due {i : Instr} {s : State} {c : Context} (h : Issues i s c) : (c.atIssue i).due = false := by
  have hs := c.limited_same i.form.lat
  unfold Context.due Context.atIssue
  rw [hs.held, hs.prv]
  rcases h.notDue with hd | hd <;> simp [hd]

/-- An instruction before which nothing stands, and whose effect answers a completion, ends as that effect says. -/
theorem finishes_of_body {i : Instr} {s : State} {c : Context} {priv : Context → Option Dword} {body : State → Context → Res}
    {r : Res} (hx : exec i s = issue i priv body s) (h : Issues i s c) (hp : priv (c.atIssue i) = none)
    (hb : body s (c.atIssue i) = r) (hr : r.ends = true) : Finishes i s c r := by
  have hd := h.not_due
  have hpc : (c.atIssue i).pc = c.pc := (c.limited_same i.form.lat).pc
  have he := hx.trans (issue_of_issues h priv hp body)
  rw [hb] at he
  unfold Finishes
  cases r with
  | done s' c' => simpa only [settleRes, hd, hpc, Bool.false_eq_true, if_false, afterIssue] using he
  | goto s' c' pc how => simpa only [settleRes, hd, hpc, Bool.false_eq_true, if_false, afterIssue] using he
  | boundary s' c' pc how ch => simpa only [settleRes, hd, hpc, Bool.false_eq_true, if_false, afterIssue] using he
  | left s' => simpa only [settleRes, hd, Bool.false_eq_true, if_false] using he
  | bound s' c' mets => simpa only [settleRes, hd, hpc, Bool.false_eq_true, if_false, afterIssue] using he
  | entered s' => exact he
  | trap k v => exact absurd hr Bool.false_ne_true
  | wait d => exact absurd hr Bool.false_ne_true

/-- The same where the statement's effect and the model's answer are each a completion that leaves the same state. -/
theorem completes_of_body {i : Instr} {ready : State → Context → Prop} {effect body : State → Context → Res}
    {priv : Context → Option Dword} (hx : ∀ s, exec i s = issue i priv body s) (hp : ∀ c s, ready s c → priv c = none)
    (hb : ∀ s c, ready s c → body s c = effect s c)
    (hr : ∀ s c, ready s c → (effect s c).ends = true) : Completes i ready effect :=
  fun s _ h hy => finishes_of_body (hx s) h (hp _ _ hy) (hb _ _ hy) (hr _ _ hy)

/-- A fixed-latency result of the operands, stated of any expression equal to the meaning's. -/
theorem results_of_fixed {i : Instr} {d : Code} {lat : Nat} {f g : Context → Dword}
    (hx : ∀ s, exec i s = issue i anyLevel (fixedResult d lat g) s) (hf : ∀ c, g c = f c) : Results i d lat f :=
  completes_of_body hx (fun _ _ _ => rfl) (fun _ c _ => by unfold fixedResult; rw [hf c]) fun _ _ _ => rfl

/-- A load that bound its value at issue and met no marker ends as any other completion. -/
theorem finishes_bound_none {i : Instr} {s : State} {c : Context} {s' : State} {c' : Context} :
    Finishes i s c (.bound s' c' []) ↔ Finishes i s c (.done s' c') := Iff.rfl

end Sys2Proof
end

