-- ==== Sys2Proof/Laws/PerInstr.lean ====
section
/-! SUPPORT. What holds of every instruction as syntax, one lemma for each constructor. -/

namespace Sys2Proof.Laws

/-- R107, R44: a sequencer instruction's encoding has as many words as its form takes at issue, two for majors 0x30 to 0x33 and one
otherwise; an engine word is one word, and an event of the table has none. -/
def WordCount.Statement (i : Instr) : Prop :=
  match i.shape with
  | some sh => (encode i).length = sh.words
  | none => (encode i).length ≤ 1

theorem WordCount.add (s : BitVec 2) (d a b : Code) : WordCount.Statement (.add s d a b) := rfl
theorem WordCount.sub (s : BitVec 2) (d a b : Code) : WordCount.Statement (.sub s d a b) := rfl
theorem WordCount.and (s : BitVec 2) (d a b : Code) : WordCount.Statement (.and s d a b) := rfl
theorem WordCount.or (s : BitVec 2) (d a b : Code) : WordCount.Statement (.or s d a b) := rfl
theorem WordCount.xor (s : BitVec 2) (d a b : Code) : WordCount.Statement (.xor s d a b) := rfl
theorem WordCount.andn (s : BitVec 2) (d a b : Code) : WordCount.Statement (.andn s d a b) := rfl
theorem WordCount.shl (s : BitVec 2) (d a b : Code) : WordCount.Statement (.shl s d a b) := rfl
theorem WordCount.shr (s : BitVec 2) (d a b : Code) : WordCount.Statement (.shr s d a b) := rfl
theorem WordCount.sra (s : BitVec 2) (d a b : Code) : WordCount.Statement (.sra s d a b) := rfl
theorem WordCount.rotr (s : BitVec 2) (d a b : Code) : WordCount.Statement (.rotr s d a b) := rfl
theorem WordCount.min (s : BitVec 2) (d a b : Code) : WordCount.Statement (.min s d a b) := rfl
theorem WordCount.max (s : BitVec 2) (d a b : Code) : WordCount.Statement (.max s d a b) := rfl
theorem WordCount.minn (s : BitVec 2) (d a b : Code) : WordCount.Statement (.minn s d a b) := rfl
theorem WordCount.maxn (s : BitVec 2) (d a b : Code) : WordCount.Statement (.maxn s d a b) := rfl
theorem WordCount.seq (s : BitVec 2) (d a b : Code) : WordCount.Statement (.seq s d a b) := rfl
theorem WordCount.sne (s : BitVec 2) (d a b : Code) : WordCount.Statement (.sne s d a b) := rfl
theorem WordCount.slt (s : BitVec 2) (d a b : Code) : WordCount.Statement (.slt s d a b) := rfl
theorem WordCount.sltn (s : BitVec 2) (d a b : Code) : WordCount.Statement (.sltn s d a b) := rfl
theorem WordCount.sle (s : BitVec 2) (d a b : Code) : WordCount.Statement (.sle s d a b) := rfl
theorem WordCount.slen (s : BitVec 2) (d a b : Code) : WordCount.Statement (.slen s d a b) := rfl
theorem WordCount.adds (s : BitVec 2) (d a b : Code) : WordCount.Statement (.adds s d a b) := rfl
theorem WordCount.subs (s : BitVec 2) (d a b : Code) : WordCount.Statement (.subs s d a b) := rfl
theorem WordCount.clz (s : BitVec 2) (d a : Code) : WordCount.Statement (.clz s d a) := rfl
theorem WordCount.ctz (s : BitVec 2) (d a : Code) : WordCount.Statement (.ctz s d a) := rfl
theorem WordCount.popc (s : BitVec 2) (d a : Code) : WordCount.Statement (.popc s d a) := rfl
theorem WordCount.bswap (s : BitVec 2) (d a : Code) : WordCount.Statement (.bswap s d a) := rfl
theorem WordCount.sxb (s : BitVec 2) (d a : Code) : WordCount.Statement (.sxb s d a) := rfl
theorem WordCount.sxh (s : BitVec 2) (d a : Code) : WordCount.Statement (.sxh s d a) := rfl
theorem WordCount.sxw (s : BitVec 2) (d a : Code) : WordCount.Statement (.sxw s d a) := rfl
theorem WordCount.zxb (s : BitVec 2) (d a : Code) : WordCount.Statement (.zxb s d a) := rfl
theorem WordCount.zxh (s : BitVec 2) (d a : Code) : WordCount.Statement (.zxh s d a) := rfl
theorem WordCount.zxw (s : BitVec 2) (d a : Code) : WordCount.Statement (.zxw s d a) := rfl
theorem WordCount.sel (s : BitVec 2) (d a b : Code) : WordCount.Statement (.sel s d a b) := rfl
theorem WordCount.addi (s : BitVec 2) (d a : Code) (i : BitVec 12) : WordCount.Statement (.addi s d a i) := rfl
theorem WordCount.andi (s : BitVec 2) (d a : Code) (i : BitVec 12) : WordCount.Statement (.andi s d a i) := rfl
theorem WordCount.ori (s : BitVec 2) (d a : Code) (i : BitVec 12) : WordCount.Statement (.ori s d a i) := rfl
theorem WordCount.xori (s : BitVec 2) (d a : Code) (i : BitVec 12) : WordCount.Statement (.xori s d a i) := rfl
theorem WordCount.shli (s : BitVec 2) (d a : Code) (i : BitVec 6) : WordCount.Statement (.shli s d a i) := rfl
theorem WordCount.shri (s : BitVec 2) (d a : Code) (i : BitVec 6) : WordCount.Statement (.shri s d a i) := rfl
theorem WordCount.srai (s : BitVec 2) (d a : Code) (i : BitVec 6) : WordCount.Statement (.srai s d a i) := rfl
theorem WordCount.slti (s : BitVec 2) (d a : Code) (i : BitVec 12) : WordCount.Statement (.slti s d a i) := rfl
theorem WordCount.sltni (s : BitVec 2) (d a : Code) (i : BitVec 12) : WordCount.Statement (.sltni s d a i) := rfl
theorem WordCount.li (s : BitVec 2) (d : Code) (i : BitVec 32) : WordCount.Statement (.li s d i) := rfl
theorem WordCount.lhi (s : BitVec 2) (d a : Code) (i : BitVec 32) : WordCount.Statement (.lhi s d a i) := rfl
theorem WordCount.addl (s : BitVec 2) (d a : Code) (i : BitVec 32) : WordCount.Statement (.addl s d a i) := rfl
theorem WordCount.mul (s : BitVec 2) (d a b : Code) : WordCount.Statement (.mul s d a b) := rfl
theorem WordCount.mulh (s : BitVec 2) (d a b : Code) : WordCount.Statement (.mulh s d a b) := rfl
theorem WordCount.mulhn (s : BitVec 2) (d a b : Code) : WordCount.Statement (.mulhn s d a b) := rfl
theorem WordCount.div (s : BitVec 2) (d a b : Code) : WordCount.Statement (.div s d a b) := rfl
theorem WordCount.divn (s : BitVec 2) (d a b : Code) : WordCount.Statement (.divn s d a b) := rfl
theorem WordCount.rem (s : BitVec 2) (d a b : Code) : WordCount.Statement (.rem s d a b) := rfl
theorem WordCount.remn (s : BitVec 2) (d a b : Code) : WordCount.Statement (.remn s d a b) := rfl
theorem WordCount.fadd (s t : BitVec 2) (d a b : Code) (r : BitVec 3) : WordCount.Statement (.fadd s t d a b r) := rfl
theorem WordCount.fsub (s t : BitVec 2) (d a b : Code) (r : BitVec 3) : WordCount.Statement (.fsub s t d a b r) := rfl
theorem WordCount.fmul (s t : BitVec 2) (d a b : Code) (r : BitVec 3) : WordCount.Statement (.fmul s t d a b r) := rfl
theorem WordCount.fdiv (s t : BitVec 2) (d a b : Code) (r : BitVec 3) : WordCount.Statement (.fdiv s t d a b r) := rfl
theorem WordCount.fsqrt (s t : BitVec 2) (d a : Code) (r : BitVec 3) : WordCount.Statement (.fsqrt s t d a r) := rfl
theorem WordCount.fmin (s t : BitVec 2) (d a b : Code) : WordCount.Statement (.fmin s t d a b) := rfl
theorem WordCount.fmax (s t : BitVec 2) (d a b : Code) : WordCount.Statement (.fmax s t d a b) := rfl
theorem WordCount.fma (s t : BitVec 2) (d a b : Code) (r : BitVec 3) : WordCount.Statement (.fma s t d a b r) := rfl
theorem WordCount.feq (s : BitVec 2) (d a b : Code) (t : BitVec 2) : WordCount.Statement (.feq s d a b t) := rfl
theorem WordCount.flt (s : BitVec 2) (d a b : Code) (t : BitVec 2) : WordCount.Statement (.flt s d a b t) := rfl
theorem WordCount.fle (s : BitVec 2) (d a b : Code) (t : BitVec 2) : WordCount.Statement (.fle s d a b t) := rfl
theorem WordCount.fun (s : BitVec 2) (d a b : Code) (t : BitVec 2) : WordCount.Statement (.fun s d a b t) := rfl
theorem WordCount.fclass (s : BitVec 2) (d a : Code) (t : BitVec 2) : WordCount.Statement (.fclass s d a t) := rfl
theorem WordCount.fneg (s : BitVec 2) (d a : Code) (t : BitVec 2) : WordCount.Statement (.fneg s d a t) := rfl
theorem WordCount.fabs (s : BitVec 2) (d a : Code) (t : BitVec 2) : WordCount.Statement (.fabs s d a t) := rfl
theorem WordCount.cvt (s : BitVec 2) (d a : Code) (e u : BitVec 4) (r : BitVec 3) : WordCount.Statement (.cvt s d a e u r) := rfl
theorem WordCount.br (s : BitVec 2) (i : BitVec 18) : WordCount.Statement (.br s i) := rfl
theorem WordCount.beqz (s : BitVec 2) (a : Code) (i : BitVec 18) : WordCount.Statement (.beqz s a i) := rfl
theorem WordCount.bnez (s : BitVec 2) (a : Code) (i : BitVec 18) : WordCount.Statement (.bnez s a i) := rfl
theorem WordCount.bltz (s : BitVec 2) (a : Code) (i : BitVec 18) : WordCount.Statement (.bltz s a i) := rfl
theorem WordCount.bgez (s : BitVec 2) (a : Code) (i : BitVec 18) : WordCount.Statement (.bgez s a i) := rfl
theorem WordCount.bgtz (s : BitVec 2) (a : Code) (i : BitVec 18) : WordCount.Statement (.bgtz s a i) := rfl
theorem WordCount.blez (s : BitVec 2) (a : Code) (i : BitVec 18) : WordCount.Statement (.blez s a i) := rfl
theorem WordCount.call (s : BitVec 2) (a : Code) (i : BitVec 18) : WordCount.Statement (.call s a i) := rfl
theorem WordCount.jr (s : BitVec 2) (a : Code) : WordCount.Statement (.jr s a) := rfl
theorem WordCount.jalr (s : BitVec 2) (d a : Code) : WordCount.Statement (.jalr s d a) := rfl
theorem WordCount.loop (s : BitVec 2) (a : Code) (i : BitVec 18) : WordCount.Statement (.loop s a i) := rfl
theorem WordCount.endl (s : BitVec 2) : WordCount.Statement (.endl s) := rfl
theorem WordCount.yield (s : BitVec 2) : WordCount.Statement (.yield s) := rfl
theorem WordCount.eret (s : BitVec 2) : WordCount.Statement (.eret s) := rfl
theorem WordCount.tend (s : BitVec 2) : WordCount.Statement (.tend s) := rfl
theorem WordCount.hget (s : BitVec 2) (d n : Code) : WordCount.Statement (.hget s d n) := rfl
theorem WordCount.nop (s : BitVec 2) : WordCount.Statement (.nop s) := rfl
theorem WordCount.lexit (s : BitVec 2) : WordCount.Statement (.lexit s) := rfl
theorem WordCount.sget (s : BitVec 2) (d : Code) (i : BitVec 12) : WordCount.Statement (.sget s d i) := rfl
theorem WordCount.sset (s : BitVec 2) (a : Code) (i : BitVec 12) : WordCount.Statement (.sset s a i) := rfl
theorem WordCount.hset (s : BitVec 2) (d a : Code) (i : BitVec 12) : WordCount.Statement (.hset s d a i) := rfl
theorem WordCount.trap (s : BitVec 2) (i : BitVec 12) : WordCount.Statement (.trap s i) := rfl
theorem WordCount.xsendi (s : BitVec 2) (e : BitVec 4) (w0 w1 : BitVec 16) : WordCount.Statement (.xsendi s e w0 w1) := rfl
theorem WordCount.xsend (s : BitVec 2) (e : BitVec 4) (a b : Code) : WordCount.Statement (.xsend s e a b) := rfl
theorem WordCount.xsendw (s : BitVec 2) (e : BitVec 4) (a b : Code) : WordCount.Statement (.xsendw s e a b) := rfl
theorem WordCount.xseq (s : BitVec 2) (e : BitVec 4) (a : Code) : WordCount.Statement (.xseq s e a) := rfl
theorem WordCount.xwait (s : BitVec 2) (e : BitVec 4) (a : Code) : WordCount.Statement (.xwait s e a) := rfl
theorem WordCount.xsendm (s : BitVec 2) (e : BitVec 4) (a : Code) (h : BitVec 4) (i : BitVec 8) : WordCount.Statement (.xsendm s e a h i) := rfl
theorem WordCount.ldI64 (s : BitVec 2) (d a : Code) (h : BitVec 4) (i : BitVec 8) : WordCount.Statement (.ldI64 s d a h i) := rfl
theorem WordCount.ldI32 (s : BitVec 2) (d a : Code) (h : BitVec 4) (i : BitVec 8) : WordCount.Statement (.ldI32 s d a h i) := rfl
theorem WordCount.stI64 (s : BitVec 2) (d a : Code) (h : BitVec 4) (i : BitVec 8) : WordCount.Statement (.stI64 s d a h i) := rfl
theorem WordCount.stI32 (s : BitVec 2) (d a : Code) (h : BitVec 4) (i : BitVec 8) : WordCount.Statement (.stI32 s d a h i) := rfl
theorem WordCount.ldI8 (s : BitVec 2) (d n b : Code) : WordCount.Statement (.ldI8 s d n b) := rfl
theorem WordCount.ldN8 (s : BitVec 2) (d n b : Code) : WordCount.Statement (.ldN8 s d n b) := rfl
theorem WordCount.ldI16 (s : BitVec 2) (d n b : Code) : WordCount.Statement (.ldI16 s d n b) := rfl
theorem WordCount.ldN16 (s : BitVec 2) (d n b : Code) : WordCount.Statement (.ldN16 s d n b) := rfl
theorem WordCount.ldI32Reg (s : BitVec 2) (d n b : Code) : WordCount.Statement (.ldI32Reg s d n b) := rfl
theorem WordCount.ldN32 (s : BitVec 2) (d n b : Code) : WordCount.Statement (.ldN32 s d n b) := rfl
theorem WordCount.ldI64Reg (s : BitVec 2) (d n b : Code) : WordCount.Statement (.ldI64Reg s d n b) := rfl
theorem WordCount.stI8 (s : BitVec 2) (d n b : Code) : WordCount.Statement (.stI8 s d n b) := rfl
theorem WordCount.stI16 (s : BitVec 2) (d n b : Code) : WordCount.Statement (.stI16 s d n b) := rfl
theorem WordCount.stI32Reg (s : BitVec 2) (d n b : Code) : WordCount.Statement (.stI32Reg s d n b) := rfl
theorem WordCount.stI64Reg (s : BitVec 2) (d n b : Code) : WordCount.Statement (.stI64Reg s d n b) := rfl
theorem WordCount.ldAcqN32 (s : BitVec 2) (d n b : Code) (c : BitVec 3) : WordCount.Statement (.ldAcqN32 s d n b c) := rfl
theorem WordCount.ldAcqI64 (s : BitVec 2) (d n b : Code) (c : BitVec 3) : WordCount.Statement (.ldAcqI64 s d n b c) := rfl
theorem WordCount.stRelI32 (s : BitVec 2) (d n b : Code) (c : BitVec 3) : WordCount.Statement (.stRelI32 s d n b c) := rfl
theorem WordCount.stRelI64 (s : BitVec 2) (d n b : Code) (c : BitVec 3) : WordCount.Statement (.stRelI64 s d n b c) := rfl
theorem WordCount.mark (s : BitVec 2) (c : BitVec 3) : WordCount.Statement (.mark s c) := rfl
theorem WordCount.pfDc (s : BitVec 2) (n b : Code) : WordCount.Statement (.pfDc s n b) := rfl
theorem WordCount.pfLlc (s : BitVec 2) (n b : Code) : WordCount.Statement (.pfLlc s n b) := rfl
theorem WordCount.dld (s : BitVec 2) (d n b : Code) (t : BitVec 3) (u : BitVec 2) : WordCount.Statement (.dld s d n b t u) := rfl
theorem WordCount.dst (s : BitVec 2) (d n b : Code) (t r : BitVec 3) : WordCount.Statement (.dst s d n b t r) := rfl
theorem WordCount.tld (s : BitVec 2) (d n b : Code) (k : BitVec 3) : WordCount.Statement (.tld s d n b k) := rfl
theorem WordCount.tst (s : BitVec 2) (d n b : Code) (k : BitVec 3) : WordCount.Statement (.tst s d n b k) := rfl
theorem WordCount.cpub (s : BitVec 2) (d n b : Code) (c : BitVec 3) : WordCount.Statement (.cpub s d n b c) := rfl
theorem WordCount.cinv (s : BitVec 2) (d n b : Code) (c : BitVec 3) : WordCount.Statement (.cinv s d n b c) := rfl
theorem WordCount.ifence (s : BitVec 2) : WordCount.Statement (.ifence s) := rfl
theorem WordCount.cprobe (s : BitVec 2) (d a : Code) (h : BitVec 4) (i : BitVec 8) : WordCount.Statement (.cprobe s d a h i) := rfl
theorem WordCount.aswp (s : BitVec 2) (d n b : Code) (w : BitVec 1) : WordCount.Statement (.aswp s d n b w) := rfl
theorem WordCount.aadd (s : BitVec 2) (d n b : Code) (w : BitVec 1) : WordCount.Statement (.aadd s d n b w) := rfl
theorem WordCount.aand (s : BitVec 2) (d n b : Code) (w : BitVec 1) : WordCount.Statement (.aand s d n b w) := rfl
theorem WordCount.aor (s : BitVec 2) (d n b : Code) (w : BitVec 1) : WordCount.Statement (.aor s d n b w) := rfl
theorem WordCount.axor (s : BitVec 2) (d n b : Code) (w : BitVec 1) : WordCount.Statement (.axor s d n b w) := rfl
theorem WordCount.amin (s : BitVec 2) (d n b : Code) (w : BitVec 1) : WordCount.Statement (.amin s d n b w) := rfl
theorem WordCount.amax (s : BitVec 2) (d n b : Code) (w : BitVec 1) : WordCount.Statement (.amax s d n b w) := rfl
theorem WordCount.aminn (s : BitVec 2) (d n b : Code) (w : BitVec 1) : WordCount.Statement (.aminn s d n b w) := rfl
theorem WordCount.amaxn (s : BitVec 2) (d n b : Code) (w : BitVec 1) : WordCount.Statement (.amaxn s d n b w) := rfl
theorem WordCount.acas (s : BitVec 2) (d n b : Code) (w : BitVec 1) : WordCount.Statement (.acas s d n b w) := rfl
theorem WordCount.afadd (s : BitVec 2) (d n b : Code) (w : BitVec 1) : WordCount.Statement (.afadd s d n b w) := rfl
theorem WordCount.barrive (s : BitVec 2) (d n b : Code) : WordCount.Statement (.barrive s d n b) := rfl
theorem WordCount.bwait (s : BitVec 2) (d n b : Code) : WordCount.Statement (.bwait s d n b) := rfl
theorem WordCount.btest (s : BitVec 2) (d n b : Code) : WordCount.Statement (.btest s d n b) := rfl
theorem WordCount.rres (s : BitVec 2) (d n b : Code) : WordCount.Statement (.rres s d n b) := rfl
theorem WordCount.rpost (s : BitVec 2) (d n b : Code) : WordCount.Statement (.rpost s d n b) := rfl
theorem WordCount.rwfree (s : BitVec 2) (d n b : Code) : WordCount.Statement (.rwfree s d n b) := rfl
theorem WordCount.rtfree (s : BitVec 2) (d n b : Code) : WordCount.Statement (.rtfree s d n b) := rfl
theorem WordCount.rtake (s : BitVec 2) (d n b : Code) : WordCount.Statement (.rtake s d n b) := rfl
theorem WordCount.rfree (s : BitVec 2) (d n b : Code) : WordCount.Statement (.rfree s d n b) := rfl
theorem WordCount.rwfill (s : BitVec 2) (d n b : Code) : WordCount.Statement (.rwfill s d n b) := rfl
theorem WordCount.rtfill (s : BitVec 2) (d n b : Code) : WordCount.Statement (.rtfill s d n b) := rfl
theorem WordCount.vadd (s : BitVec 2) (d a b : BitVec 5) (p : BitVec 3) (m : BitVec 2) : WordCount.Statement (.vadd s d a b p m) := rfl
theorem WordCount.vsub (s : BitVec 2) (d a b : BitVec 5) (p : BitVec 3) (m : BitVec 2) : WordCount.Statement (.vsub s d a b p m) := rfl
theorem WordCount.vmul (s : BitVec 2) (d a b : BitVec 5) (p : BitVec 3) (m : BitVec 2) : WordCount.Statement (.vmul s d a b p m) := rfl
theorem WordCount.vfma (s : BitVec 2) (d a b : BitVec 5) (p : BitVec 3) (m : BitVec 2) : WordCount.Statement (.vfma s d a b p m) := rfl
theorem WordCount.vmin (s : BitVec 2) (d a b : BitVec 5) (p : BitVec 3) (m : BitVec 2) : WordCount.Statement (.vmin s d a b p m) := rfl
theorem WordCount.vmax (s : BitVec 2) (d a b : BitVec 5) (p : BitVec 3) (m : BitVec 2) : WordCount.Statement (.vmax s d a b p m) := rfl
theorem WordCount.vdiv (s : BitVec 2) (d a b : BitVec 5) (p : BitVec 3) (m : BitVec 2) : WordCount.Statement (.vdiv s d a b p m) := rfl
theorem WordCount.vsqrt (s : BitVec 2) (d a : BitVec 5) (p : BitVec 3) (m : BitVec 2) : WordCount.Statement (.vsqrt s d a p m) := rfl
theorem WordCount.vexp2 (s : BitVec 2) (d a : BitVec 5) (p : BitVec 3) (m : BitVec 2) : WordCount.Statement (.vexp2 s d a p m) := rfl
theorem WordCount.vneg (s : BitVec 2) (d a : BitVec 5) (p : BitVec 3) (m : BitVec 2) : WordCount.Statement (.vneg s d a p m) := rfl
theorem WordCount.vabs (s : BitVec 2) (d a : BitVec 5) (p : BitVec 3) (m : BitVec 2) : WordCount.Statement (.vabs s d a p m) := rfl
theorem WordCount.vcvt (s : BitVec 2) (d a : BitVec 5) (p : BitVec 3) (m : BitVec 2) : WordCount.Statement (.vcvt s d a p m) := rfl
theorem WordCount.vmulh (s : BitVec 2) (d a b : BitVec 5) (p : BitVec 3) (m : BitVec 2) : WordCount.Statement (.vmulh s d a b p m) := rfl
theorem WordCount.vdotb (s : BitVec 2) (d a b : BitVec 5) (p : BitVec 3) : WordCount.Statement (.vdotb s d a b p) := rfl
theorem WordCount.vqe8 (s : BitVec 2) (d a : BitVec 5) (p : BitVec 3) : WordCount.Statement (.vqe8 s d a p) := rfl
theorem WordCount.vqn4 (s : BitVec 2) (d a : BitVec 5) (p : BitVec 3) : WordCount.Statement (.vqn4 s d a p) := rfl
theorem WordCount.vand (s : BitVec 2) (d a b : BitVec 5) (p : BitVec 3) (m : BitVec 2) : WordCount.Statement (.vand s d a b p m) := rfl
theorem WordCount.vor (s : BitVec 2) (d a b : BitVec 5) (p : BitVec 3) (m : BitVec 2) : WordCount.Statement (.vor s d a b p m) := rfl
theorem WordCount.vxor (s : BitVec 2) (d a b : BitVec 5) (p : BitVec 3) (m : BitVec 2) : WordCount.Statement (.vxor s d a b p m) := rfl
theorem WordCount.vandn (s : BitVec 2) (d a b : BitVec 5) (p : BitVec 3) (m : BitVec 2) : WordCount.Statement (.vandn s d a b p m) := rfl
theorem WordCount.vshl (s : BitVec 2) (d a b : BitVec 5) (p : BitVec 3) (m : BitVec 2) : WordCount.Statement (.vshl s d a b p m) := rfl
theorem WordCount.vshr (s : BitVec 2) (d a b : BitVec 5) (p : BitVec 3) (m : BitVec 2) : WordCount.Statement (.vshr s d a b p m) := rfl
theorem WordCount.vsra (s : BitVec 2) (d a b : BitVec 5) (p : BitVec 3) (m : BitVec 2) : WordCount.Statement (.vsra s d a b p m) := rfl
theorem WordCount.vclz (s : BitVec 2) (d a : BitVec 5) (p : BitVec 3) (m : BitVec 2) : WordCount.Statement (.vclz s d a p m) := rfl
theorem WordCount.vpopc (s : BitVec 2) (d a : BitVec 5) (p : BitVec 3) (m : BitVec 2) : WordCount.Statement (.vpopc s d a p m) := rfl
theorem WordCount.vceq (s : BitVec 2) (d a b : BitVec 5) (p : BitVec 3) (m : BitVec 2) : WordCount.Statement (.vceq s d a b p m) := rfl
theorem WordCount.vclt (s : BitVec 2) (d a b : BitVec 5) (p : BitVec 3) (m : BitVec 2) : WordCount.Statement (.vclt s d a b p m) := rfl
theorem WordCount.vcle (s : BitVec 2) (d a b : BitVec 5) (p : BitVec 3) (m : BitVec 2) : WordCount.Statement (.vcle s d a b p m) := rfl
theorem WordCount.vcun (s : BitVec 2) (d a b : BitVec 5) (p : BitVec 3) (m : BitVec 2) : WordCount.Statement (.vcun s d a b p m) := rfl
theorem WordCount.vsel (s : BitVec 2) (d a b : BitVec 5) (p : BitVec 3) (m : BitVec 2) : WordCount.Statement (.vsel s d a b p m) := rfl
theorem WordCount.pand (s : BitVec 2) (d a b : BitVec 5) : WordCount.Statement (.pand s d a b) := rfl
theorem WordCount.por (s : BitVec 2) (d a b : BitVec 5) : WordCount.Statement (.por s d a b) := rfl
theorem WordCount.pxor (s : BitVec 2) (d a b : BitVec 5) : WordCount.Statement (.pxor s d a b) := rfl
theorem WordCount.pandn (s : BitVec 2) (d a b : BitVec 5) : WordCount.Statement (.pandn s d a b) := rfl
theorem WordCount.pnor (s : BitVec 2) (d a b : BitVec 5) : WordCount.Statement (.pnor s d a b) := rfl
theorem WordCount.pnand (s : BitVec 2) (d a b : BitVec 5) : WordCount.Statement (.pnand s d a b) := rfl
theorem WordCount.pnot (s : BitVec 2) (d a : BitVec 5) : WordCount.Statement (.pnot s d a) := rfl
theorem WordCount.pfill (s : BitVec 2) (d : BitVec 5) : WordCount.Statement (.pfill s d) := rfl
theorem WordCount.vpcnt (s : BitVec 2) (d a : BitVec 5) : WordCount.Statement (.vpcnt s d a) := rfl
theorem WordCount.vplo (s : BitVec 2) (d a : BitVec 5) : WordCount.Statement (.vplo s d a) := rfl
theorem WordCount.vphi (s : BitVec 2) (d a : BitVec 5) : WordCount.Statement (.vphi s d a) := rfl
theorem WordCount.vmov (s : BitVec 2) (d a : BitVec 5) (p : BitVec 3) (m : BitVec 2) : WordCount.Statement (.vmov s d a p m) := rfl
theorem WordCount.vbcast (s : BitVec 2) (d : BitVec 5) (p : BitVec 3) (m : BitVec 2) : WordCount.Statement (.vbcast s d p m) := rfl
theorem WordCount.viota (s : BitVec 2) (d : BitVec 5) (p : BitVec 3) (m : BitVec 2) : WordCount.Statement (.viota s d p m) := rfl
theorem WordCount.vmovx (s : BitVec 2) (d a : BitVec 5) (p : BitVec 3) : WordCount.Statement (.vmovx s d a p) := rfl
theorem WordCount.vperm (s : BitVec 2) (d a b : BitVec 5) (p : BitVec 3) (m : BitVec 2) : WordCount.Statement (.vperm s d a b p m) := rfl
theorem WordCount.vslide (s : BitVec 2) (d a b : BitVec 5) (p : BitVec 3) (m : BitVec 2) : WordCount.Statement (.vslide s d a b p m) := rfl
theorem WordCount.vcompress (s : BitVec 2) (d a : BitVec 5) (p : BitVec 3) : WordCount.Statement (.vcompress s d a p) := rfl
theorem WordCount.vexpand (s : BitVec 2) (d a : BitVec 5) (p : BitVec 3) : WordCount.Statement (.vexpand s d a p) := rfl
theorem WordCount.vred (s : BitVec 2) (d a : BitVec 5) (p : BitVec 3) (m : BitVec 2) : WordCount.Statement (.vred s d a p m) := rfl
theorem WordCount.vscan (s : BitVec 2) (d a : BitVec 5) (p : BitVec 3) (m : BitVec 2) : WordCount.Statement (.vscan s d a p m) := rfl
theorem WordCount.vmatch (s : BitVec 2) (d a b : BitVec 5) (p : BitVec 3) : WordCount.Statement (.vmatch s d a b p) := rfl
theorem WordCount.vstop (s : BitVec 2) (d a b : BitVec 5) (p : BitVec 3) : WordCount.Statement (.vstop s d a b p) := rfl
theorem WordCount.vfence (s : BitVec 2) : WordCount.Statement (.vfence s) := rfl
theorem WordCount.vld (s : BitVec 2) (d : BitVec 5) (p : BitVec 3) (m : BitVec 2) : WordCount.Statement (.vld s d p m) := rfl
theorem WordCount.vst (s : BitVec 2) (d : BitVec 5) (p : BitVec 3) (m : BitVec 2) : WordCount.Statement (.vst s d p m) := rfl
theorem WordCount.vldg (s : BitVec 2) (d b : BitVec 5) (p : BitVec 3) : WordCount.Statement (.vldg s d b p) := rfl
theorem WordCount.vstg (s : BitVec 2) (d b : BitVec 5) (p : BitVec 3) : WordCount.Statement (.vstg s d b p) := rfl
theorem WordCount.engPush (v : BitVec 15) : WordCount.Statement (.engPush v) := Nat.le_refl 1
theorem WordCount.engLit8 (n : BitVec 8) : WordCount.Statement (.engLit8 n) := Nat.le_refl 1
theorem WordCount.engShl (n : BitVec 8) : WordCount.Statement (.engShl n) := Nat.le_refl 1
theorem WordCount.engPick (n : BitVec 8) : WordCount.Statement (.engPick n) := Nat.le_refl 1
theorem WordCount.mset (f : BitVec 8) : WordCount.Statement (.mset f) := Nat.le_refl 1
theorem WordCount.mfmt (b a : BitVec 4) : WordCount.Statement (.mfmt b a) := Nat.le_refl 1
theorem WordCount.mtr (t : BitVec 1) : WordCount.Statement (.mtr t) := Nat.le_refl 1
theorem WordCount.mcos (c : BitVec 1) : WordCount.Statement (.mcos c) := Nat.le_refl 1
theorem WordCount.mlev (l : BitVec 3) : WordCount.Statement (.mlev l) := Nat.le_refl 1
theorem WordCount.mstr (g : BitVec 3) : WordCount.Statement (.mstr g) := Nat.le_refl 1
theorem WordCount.mepi (e : BitVec 1) : WordCount.Statement (.mepi e) := Nat.le_refl 1
theorem WordCount.mgo (s : BitVec 1) : WordCount.Statement (.mgo s) := Nat.le_refl 1
theorem WordCount.mstat (c : BitVec 1) : WordCount.Statement (.mstat c) := Nat.le_refl 1
theorem WordCount.mgrp (g : BitVec 4) : WordCount.Statement (.mgrp g) := Nat.le_refl 1
theorem WordCount.msfm (f : BitVec 3) : WordCount.Statement (.msfm f) := Nat.le_refl 1
theorem WordCount.msds (g : BitVec 1) : WordCount.Statement (.msds g) := Nat.le_refl 1
theorem WordCount.fget (e r : BitVec 1) (h : BitVec 4) : WordCount.Statement (.fget e r h) := Nat.le_refl 1
theorem WordCount.fwarm (h : BitVec 4) : WordCount.Statement (.fwarm h) := Nat.le_refl 1
theorem WordCount.aget (w : BitVec 1) (h : BitVec 4) : WordCount.Statement (.aget w h) := Nat.le_refl 1
theorem WordCount.apin (w : BitVec 1) (h : BitVec 4) : WordCount.Statement (.apin w h) := Nat.le_refl 1
theorem WordCount.aunpin (h : BitVec 4) : WordCount.Statement (.aunpin h) := Nat.le_refl 1
theorem WordCount.aalloc (h : BitVec 4) : WordCount.Statement (.aalloc h) := Nat.le_refl 1
theorem WordCount.apub (h : BitVec 4) : WordCount.Statement (.apub h) := Nat.le_refl 1
theorem WordCount.aabort (h : BitVec 4) : WordCount.Statement (.aabort h) := Nat.le_refl 1
theorem WordCount.wclaim (h : BitVec 4) : WordCount.Statement (.wclaim h) := Nat.le_refl 1
theorem WordCount.wstat (h : BitVec 4) : WordCount.Statement (.wstat h) := Nat.le_refl 1
theorem WordCount.wlaunch (h : BitVec 4) : WordCount.Statement (.wlaunch h) := Nat.le_refl 1
theorem WordCount.yarv (p : BitVec 1) : WordCount.Statement (.yarv p) := Nat.le_refl 1
theorem WordCount.yred (o : BitVec 3) (h : BitVec 4) : WordCount.Statement (.yred o h) := Nat.le_refl 1
theorem WordCount.yadd (w : BitVec 1) (h : BitVec 4) : WordCount.Statement (.yadd w h) := Nat.le_refl 1
theorem WordCount.lret (c : BitVec 3) : WordCount.Statement (.lret c) := Nat.le_refl 1
theorem WordCount.lhold (h : BitVec 1) : WordCount.Statement (.lhold h) := Nat.le_refl 1
theorem WordCount.lstat (h : BitVec 4) : WordCount.Statement (.lstat h) := Nat.le_refl 1
theorem WordCount.lseq (h : BitVec 4) : WordCount.Statement (.lseq h) := Nat.le_refl 1
theorem WordCount.engNop : WordCount.Statement (.engNop) := Nat.le_refl 1
theorem WordCount.engDup : WordCount.Statement (.engDup) := Nat.le_refl 1
theorem WordCount.engDrop : WordCount.Statement (.engDrop) := Nat.le_refl 1
theorem WordCount.engSwap : WordCount.Statement (.engSwap) := Nat.le_refl 1
theorem WordCount.engOver : WordCount.Statement (.engOver) := Nat.le_refl 1
theorem WordCount.engCat : WordCount.Statement (.engCat) := Nat.le_refl 1
theorem WordCount.engAdd : WordCount.Statement (.engAdd) := Nat.le_refl 1
theorem WordCount.engSub : WordCount.Statement (.engSub) := Nat.le_refl 1
theorem WordCount.engMul : WordCount.Statement (.engMul) := Nat.le_refl 1
theorem WordCount.engAnd : WordCount.Statement (.engAnd) := Nat.le_refl 1
theorem WordCount.engOr : WordCount.Statement (.engOr) := Nat.le_refl 1
theorem WordCount.mswp : WordCount.Statement (.mswp) := Nat.le_refl 1
theorem WordCount.mcpy : WordCount.Statement (.mcpy) := Nat.le_refl 1
theorem WordCount.mrst : WordCount.Statement (.mrst) := Nat.le_refl 1
theorem WordCount.mgeo : WordCount.Statement (.mgeo) := Nat.le_refl 1
theorem WordCount.msra : WordCount.Statement (.msra) := Nat.le_refl 1
theorem WordCount.msrb : WordCount.Statement (.msrb) := Nat.le_refl 1
theorem WordCount.mdst : WordCount.Statement (.mdst) := Nat.le_refl 1
theorem WordCount.mssr : WordCount.Statement (.mssr) := Nat.le_refl 1
theorem WordCount.mbsf : WordCount.Statement (.mbsf) := Nat.le_refl 1
theorem WordCount.mtsc : WordCount.Statement (.mtsc) := Nat.le_refl 1
theorem WordCount.mzero : WordCount.Statement (.mzero) := Nat.le_refl 1
theorem WordCount.msave : WordCount.Statement (.msave) := Nat.le_refl 1
theorem WordCount.mload : WordCount.Statement (.mload) := Nat.le_refl 1
theorem WordCount.mgclr : WordCount.Statement (.mgclr) := Nat.le_refl 1
theorem WordCount.msar : WordCount.Statement (.msar) := Nat.le_refl 1
theorem WordCount.msdb : WordCount.Statement (.msdb) := Nat.le_refl 1
theorem WordCount.frel : WordCount.Statement (.frel) := Nat.le_refl 1
theorem WordCount.fdrop : WordCount.Statement (.fdrop) := Nat.le_refl 1
theorem WordCount.wrel : WordCount.Statement (.wrel) := Nat.le_refl 1
theorem WordCount.wstop : WordCount.Statement (.wstop) := Nat.le_refl 1
theorem WordCount.wdrain : WordCount.Statement (.wdrain) := Nat.le_refl 1
theorem WordCount.ccopy (s d : BitVec 4) : WordCount.Statement (.ccopy s d) := Nat.le_refl 1
theorem WordCount.c2d (s d : BitVec 4) : WordCount.Statement (.c2d s d) := Nat.le_refl 1
theorem WordCount.cfill (d : BitVec 4) : WordCount.Statement (.cfill d) := Nat.le_refl 1
theorem WordCount.cgath (s d : BitVec 4) : WordCount.Statement (.cgath s d) := Nat.le_refl 1
theorem WordCount.cscat (s d : BitVec 4) : WordCount.Statement (.cscat s d) := Nat.le_refl 1
theorem WordCount.czip (s d : BitVec 4) : WordCount.Statement (.czip s d) := Nat.le_refl 1
theorem WordCount.cunz (s d : BitVec 4) : WordCount.Statement (.cunz s d) := Nat.le_refl 1
theorem WordCount.cdf (s d : BitVec 4) : WordCount.Statement (.cdf s d) := Nat.le_refl 1
theorem WordCount.crput (s : BitVec 4) : WordCount.Statement (.crput s) := Nat.le_refl 1
theorem WordCount.crget (d : BitVec 4) : WordCount.Statement (.crget d) := Nat.le_refl 1
theorem WordCount.crred (s : BitVec 4) : WordCount.Statement (.crred s) := Nat.le_refl 1
theorem WordCount.lstep : WordCount.Statement (.lstep) := Nat.le_refl 1
theorem WordCount.mxOperationComplete : WordCount.Statement (.mxOperationComplete) := Nat.zero_le 1
theorem WordCount.fetchPinsTaken (ctx : Nat) : WordCount.Statement (.fetchPinsTaken ctx) := Nat.zero_le 1
theorem WordCount.fetchComplete (ctx : Nat) : WordCount.Statement (.fetchComplete ctx) := Nat.zero_le 1
theorem WordCount.fetchRelease (ctx num : Nat) : WordCount.Statement (.fetchRelease ctx num) := Nat.zero_le 1
theorem WordCount.fwarmComplete (ctx : Nat) : WordCount.Statement (.fwarmComplete ctx) := Nat.zero_le 1
theorem WordCount.adapterAction (ctx : Nat) : WordCount.Statement (.adapterAction ctx) := Nat.zero_le 1
theorem WordCount.localWalkComplete (walk : Nat) : WordCount.Statement (.localWalkComplete walk) := Nat.zero_le 1
theorem WordCount.syOperationComplete (ctx : Nat) : WordCount.Statement (.syOperationComplete ctx) := Nat.zero_le 1
theorem WordCount.copyOperationStart (eng ctx : Nat) : WordCount.Statement (.copyOperationStart eng ctx) := Nat.zero_le 1
theorem WordCount.copyOperationComplete (eng ctx : Nat) : WordCount.Statement (.copyOperationComplete eng ctx) := Nat.zero_le 1
theorem WordCount.lstepResume (part : Nat) : WordCount.Statement (.lstepResume part) := Nat.zero_le 1
theorem WordCount.retireRecord : WordCount.Statement (.retireRecord) := Nat.zero_le 1
theorem WordCount.llcmd (part port : Nat) (words : BitVec 64) : WordCount.Statement (.llcmd part port words) := Nat.zero_le 1
theorem WordCount.resultLanding (slot : Bool) : WordCount.Statement (.resultLanding slot) := Nat.zero_le 1
theorem WordCount.loadReturn (slot : Bool) (idx : Nat) (fresh : Bool) : WordCount.Statement (.loadReturn slot idx fresh) := Nat.zero_le 1
theorem WordCount.storePerformed (slot : Bool) : WordCount.Statement (.storePerformed slot) := Nat.zero_le 1
theorem WordCount.vectorComplete (slot : Bool) : WordCount.Statement (.vectorComplete slot) := Nat.zero_le 1
theorem WordCount.fetchFill (slot : Bool) (line : Nat) : WordCount.Statement (.fetchFill slot line) := Nat.zero_le 1
theorem WordCount.asyncEntry : WordCount.Statement (.asyncEntry) := Nat.zero_le 1
theorem WordCount.urgentPreemptionRequest (slot : Bool) : WordCount.Statement (.urgentPreemptionRequest slot) := Nat.zero_le 1
theorem WordCount.preemptlate (slot : Bool) : WordCount.Statement (.preemptlate slot) := Nat.zero_le 1
theorem WordCount.contextSave (slot : Bool) : WordCount.Statement (.contextSave slot) := Nat.zero_le 1
theorem WordCount.contextRestore (slot : Bool) (ctx : Nat) : WordCount.Statement (.contextRestore slot ctx) := Nat.zero_le 1
theorem WordCount.taskEndCounted (launch task : Nat) (byFault : Bool) : WordCount.Statement (.taskEndCounted launch task byFault) := Nat.zero_le 1
theorem WordCount.queueNotify (part queue : Nat) (tail : BitVec 64) : WordCount.Statement (.queueNotify part queue tail) := Nat.zero_le 1
theorem WordCount.queueSlotRelease (qslot : Nat) : WordCount.Statement (.queueSlotRelease qslot) := Nat.zero_le 1
theorem WordCount.launchActivation (qslot : Nat) : WordCount.Statement (.launchActivation qslot) := Nat.zero_le 1
theorem WordCount.dependencesMet (launch : Nat) : WordCount.Statement (.dependencesMet launch) := Nat.zero_le 1
theorem WordCount.timeSliceEnd (part : Nat) : WordCount.Statement (.timeSliceEnd part) := Nat.zero_le 1
theorem WordCount.launchRetirement (launch : Nat) : WordCount.Statement (.launchRetirement launch) := Nat.zero_le 1
theorem WordCount.wickTakeLaunch (launch : Nat) : WordCount.Statement (.wickTakeLaunch launch) := Nat.zero_le 1
theorem WordCount.taskHandOff : WordCount.Statement (.taskHandOff) := Nat.zero_le 1
theorem WordCount.claimGrant (launch cluster : Nat) : WordCount.Statement (.claimGrant launch cluster) := Nat.zero_le 1
theorem WordCount.gangHandOff (launch : Nat) : WordCount.Statement (.gangHandOff launch) := Nat.zero_le 1
theorem WordCount.taskStart (slot : Bool) : WordCount.Statement (.taskStart slot) := Nat.zero_le 1
theorem WordCount.drainComplete (launch : Nat) : WordCount.Statement (.drainComplete launch) := Nat.zero_le 1
theorem WordCount.arrival (addr bytes : Nat) (poison : Bool) (src : ArrSrc) : WordCount.Statement (.arrival addr bytes poison src) := Nat.zero_le 1
theorem WordCount.childFlip (child phase : Nat) (poison : Bool) : WordCount.Statement (.childFlip child phase poison) := Nat.zero_le 1
theorem WordCount.ringSpanApplied (idx : Nat) : WordCount.Statement (.ringSpanApplied idx) := Nat.zero_le 1
theorem WordCount.waitSatisfied (slot : Bool) : WordCount.Statement (.waitSatisfied slot) := Nat.zero_le 1
theorem WordCount.syncSramError (addr : Nat) : WordCount.Statement (.syncSramError addr) := Nat.zero_le 1
theorem WordCount.homeRead (word from_ : Nat) : WordCount.Statement (.homeRead word from_) := Nat.zero_le 1
theorem WordCount.homeRegistration (word from_ : Nat) (mask : BitVec 4) (data : BitVec 32) : WordCount.Statement (.homeRegistration word from_ mask data) := Nat.zero_le 1
theorem WordCount.homeWriteBack (word from_ : Nat) (data : BitVec 32) : WordCount.Statement (.homeWriteBack word from_ data) := Nat.zero_le 1
theorem WordCount.forwardedRead (word for_ : Nat) : WordCount.Statement (.forwardedRead word for_) := Nat.zero_le 1
theorem WordCount.revoke (word goal : Nat) : WordCount.Statement (.revoke word goal) := Nat.zero_le 1
theorem WordCount.registrationAck (word : Nat) (data : BitVec 32) : WordCount.Statement (.registrationAck word data) := Nat.zero_le 1
theorem WordCount.lineEviction (word : Nat) : WordCount.Statement (.lineEviction word) := Nat.zero_le 1
theorem WordCount.hostAccess (port addr : Nat) (write : Bool) (data : List (BitVec 8)) : WordCount.Statement (.hostAccess port addr write data) := Nat.zero_le 1
theorem WordCount.hostLineWriteback (port line : Nat) (data : Option (List (BitVec 8))) : WordCount.Statement (.hostLineWriteback port line data) := Nat.zero_le 1
theorem WordCount.uncorrectableError (line : Nat) (latent : Bool) : WordCount.Statement (.uncorrectableError line latent) := Nat.zero_le 1
theorem WordCount.sdreq (part : Nat) (v : BitVec 64) : WordCount.Statement (.sdreq part v) := Nat.zero_le 1
theorem WordCount.shootdownComplete (part : Nat) : WordCount.Statement (.shootdownComplete part) := Nat.zero_le 1
theorem WordCount.agentDead (module : Bool) (id : Nat) : WordCount.Statement (.agentDead module id) := Nat.zero_le 1
theorem WordCount.snufferScrub (line : Nat) : WordCount.Statement (.snufferScrub line) := Nat.zero_le 1
theorem WordCount.pctl (part : Nat) (v : BitVec 64) : WordCount.Statement (.pctl part v) := Nat.zero_le 1
theorem WordCount.ptbase (part : Nat) (v : BitVec 64) : WordCount.Statement (.ptbase part v) := Nat.zero_le 1
theorem WordCount.swin (part : Nat) (v : BitVec 64) : WordCount.Statement (.swin part v) := Nat.zero_le 1
theorem WordCount.sdesc (part : Nat) (v : BitVec 64) : WordCount.Statement (.sdesc part v) := Nat.zero_le 1
theorem WordCount.evring (part : Nat) (v : BitVec 64) : WordCount.Statement (.evring part v) := Nat.zero_le 1
theorem WordCount.waymask (part : Nat) (v : BitVec 64) : WordCount.Statement (.waymask part v) := Nat.zero_le 1
theorem WordCount.reclaimVisit (part line : Nat) : WordCount.Statement (.reclaimVisit part line) := Nat.zero_le 1
theorem WordCount.reclaimComplete (part : Nat) : WordCount.Statement (.reclaimComplete part) := Nat.zero_le 1
theorem WordCount.rgo (part : Nat) (v : BitVec 64) : WordCount.Statement (.rgo part v) := Nat.zero_le 1
theorem WordCount.clusterRelease (part cluster : Nat) : WordCount.Statement (.clusterRelease part cluster) := Nat.zero_le 1
theorem WordCount.icreq (part : Nat) (v : BitVec 64) : WordCount.Statement (.icreq part v) := Nat.zero_le 1
theorem WordCount.icreqComplete (part : Nat) : WordCount.Statement (.icreqComplete part) := Nat.zero_le 1
theorem WordCount.roleToMemoryOnly (layer : Nat) : WordCount.Statement (.roleToMemoryOnly layer) := Nat.zero_le 1
theorem WordCount.roleToCompute (layer : Nat) : WordCount.Statement (.roleToCompute layer) := Nat.zero_le 1
theorem WordCount.roleCancelDrain (layer : Nat) : WordCount.Statement (.roleCancelDrain layer) := Nat.zero_le 1
theorem WordCount.layerDrainEnd (layer : Nat) : WordCount.Statement (.layerDrainEnd layer) := Nat.zero_le 1
theorem WordCount.layerPowerUpComplete (layer : Nat) : WordCount.Statement (.layerPowerUpComplete layer) := Nat.zero_le 1
theorem WordCount.dead (v : BitVec 64) : WordCount.Statement (.dead v) := Nat.zero_le 1
theorem WordCount.hattach (v : BitVec 64) : WordCount.Statement (.hattach v) := Nat.zero_le 1
theorem WordCount.managementRegisterWrite (off : Nat) (v : BitVec 64) : WordCount.Statement (.managementRegisterWrite off v) := Nat.zero_le 1
theorem WordCount.bwInterval (queues : List (List Nat)) : WordCount.Statement (.bwInterval queues) := Nat.zero_le 1
theorem WordCount.islandFrequencyInterval (readings : List IslandReading) (watts : Nat) : WordCount.Statement (.islandFrequencyInterval readings watts) := Nat.zero_le 1
theorem WordCount.heartbeatPeriod : WordCount.Statement (.heartbeatPeriod) := Nat.zero_le 1
theorem WordCount.hostHeartbeat (port : Nat) : WordCount.Statement (.hostHeartbeat port) := Nat.zero_le 1
theorem WordCount.flitData (link : Nat) (flit : Flit) : WordCount.Statement (.flitData link flit) := Nat.zero_le 1
theorem WordCount.flitReadRequest (link : Nat) (flit : Flit) : WordCount.Statement (.flitReadRequest link flit) := Nat.zero_le 1
theorem WordCount.flitAcknowledgement (link : Nat) (flit : Flit) : WordCount.Statement (.flitAcknowledgement link flit) := Nat.zero_le 1
theorem WordCount.flitBarrierArrival (link : Nat) (flit : Flit) : WordCount.Statement (.flitBarrierArrival link flit) := Nat.zero_le 1
theorem WordCount.flitBarrierFlip (link : Nat) (flit : Flit) : WordCount.Statement (.flitBarrierFlip link flit) := Nat.zero_le 1
theorem WordCount.flitHeartbeat (link : Nat) (flit : Flit) : WordCount.Statement (.flitHeartbeat link flit) := Nat.zero_le 1
theorem WordCount.flitRefusal (link : Nat) (flit : Flit) : WordCount.Statement (.flitRefusal link flit) := Nat.zero_le 1
theorem WordCount.bringUp : WordCount.Statement (.bringUp) := Nat.zero_le 1
theorem WordCount.reFlash (image : Image) : WordCount.Statement (.reFlash image) := Nat.zero_le 1
theorem WordCount.expansionDeviceLost (port : Nat) : WordCount.Statement (.expansionDeviceLost port) := Nat.zero_le 1
theorem WordCount.linkLoss (link : Nat) : WordCount.Statement (.linkLoss link) := Nat.zero_le 1
theorem WordCount.writeBackAcknowledgement (word : Nat) : WordCount.Statement (.writeBackAcknowledgement word) := Nat.zero_le 1
theorem WordCount.flitCheckCodeFailure (link : Nat) (flit : Flit) : WordCount.Statement (.flitCheckCodeFailure link flit) := Nat.zero_le 1
theorem WordCount.reservedEncoding (w : BitVec 32) : WordCount.Statement (.reservedEncoding w) := Nat.le_refl 1
theorem WordCount.unassignedEngineOpcode (w : BitVec 16) : WordCount.Statement (.unassignedEngineOpcode w) := Nat.le_refl 1

end Sys2Proof.Laws
end

