-- ==== Sys2Proof/Tests/Slice0.lean ====
section
/-! SUPPORT. Tests of the model: ill-formed instructions that WellFormed refuses, words written out from the spec's encodings, one step of
a few instructions with results worked out from the spec's rules, and for each statement a state that meets its hypotheses. -/

set_option Elab.async false

namespace Sys2Proof.Tests

open Sys2Proof.Machine

/-! The bench: one partition with four page-table levels, a page of code, a page of data with the handle table, a page of encoded
elements, and one launch. -/

/-- Memory: page tables (32 MiB at 0 readable and executable; data at 0x2000000; E4M3 blocks of 8 at 0x2010000), and the handle entries
0 global, 1 scratchpad, 2 sync, 3 encoded elements, 4 code; with bytes of code between them and further data after them. -/
def benchMem (code data : Cells 8) : Cells 8 :=
  (0x1000, 0x1) :: (0x1001, 0x20) :: (0x2000, 0x1) :: (0x2001, 0x30) :: (0x3000, 0x17) :: (0x3008, 0x1) :: (0x3009, 0x40) ::
  (0x4000, 0xF) :: (0x4002, 0x1) :: (0x4008, 0xF) :: (0x4009, 0xA) :: (0x400A, 0x2) :: code ++
  (0x10001, 0x10) :: (0x10003, 0x2) :: (0x10009, 0x10) :: (0x10010, 0x10) :: (0x10029, 0x10) :: (0x10030, 0x11) :: (0x10049, 0x10) ::
  (0x10050, 0x12) :: (0x10062, 0x1) :: (0x10063, 0x2) :: (0x10069, 0x10) :: (0x10070, 0x10) :: (0x10074, 0x40) :: (0x10081, 0x80) ::
  (0x10089, 0x10) :: (0x10090, 0x13) :: data

/-- A sealed plain line at 0x8000 with the given bytes, every slot but its second a start and a target; a sealed entry line at 0x8080. -/
def codeLines (word : Cells 8) : Cells 8 :=
  word ++ [(0x8078, 0xFD), (0x8079, 0xFF), (0x807A, 0xFF), (0x807B, 0xBF), (0x807C, 0xFD), (0x807D, 0xFF), (0x807E, 0xFF), (0x807F, 0x3F),
   (0x80F8, 0x1), (0x80FB, 0x80), (0x80FC, 0x1), (0x80FF, 0x40)]

/-- A nest of four tasks at virtual 0x2001000; a serving descriptor at 0x2001100 with its completion ring at 0x2001140. -/
def engineData : Cells 8 :=
  [(0x11001, 0x80), (0x11008, 8), (0x11010, 4),
   (0x11100, 0x80), (0x11101, 0x11), (0x11103, 2), (0x11108, 0x40), (0x11109, 0x11), (0x1110B, 2), (0x11120, 0x04), (0x11121, 0x20),
   (0x11123, 2), (0x11138, 4), (0x11150, 4)]

/-- What the bench's launch may use. -/
def benchRes : Resolved := { Resolved.widest with policy := .trap, trapv := 0x8080, htab := 0x2000000 + 15 }

def benchLaunch : Launch := { Launch.fresh 7 0 0 0 0 none with st := .running, res := benchRes, lid := 5 }

/-- The machine with context c in slot 0, the given bytes of memory, a barrier object at 0 that expects two arrivals, and a ring object of
16 slots at 32 with five reserved and three filled. -/
def bench (code data : Cells 8) (c : Context) : State :=
  let s := State.reset
  { s with
    fab := { s.fab with mem := benchMem code data }
    core := { s.core with slot0 := some c, acown := ownerWord 0 }
    sync := { s.sync with sram := [(7, 0x40), (8, 2), (32, 4), (39, 0x80), (40, 5), (44, 3)] }
    disp := { s.disp with launches := [benchLaunch], live := [0] }
    mgmt := { s.mgmt with hbm := 2 ^ 30, up := true, roles := Vector.replicate 16 .compute }
    parts := s.parts.set 0 { PartRegs.reset with
      en := true, ptbase := 0x1000, ptset := true, swin := 0x400000000000000, asbase := 0x2000000, adesc := 0x2000000, sdesc := 0x2001100, ppeer := 0x80F8 } }

/-- A task's context at 0x8000: x1 = 6, x2 = 64, x3 = −1, x4 = 1. -/
def ctx0 : Context :=
  { freshContext with
    pc := 0x8000, reach := .other, launch := 7, lid := 5, serial := 1,
    x := ((((Vector.replicate 32 0#64).set 1 6).set 2 64).set 3 (-1)).set 4 1 }

def atLevel (l : Level) : Context := { ctx0 with prv := ⟨l, false⟩ }

def run (c : Context) : State := bench [] [] c

/-- The same with code at 0x8000. -/
def coded (word : Cells 8) (c : Context) : State := bench (codeLines word) [] c

/-- The current context after a step. -/
def after (r : Answer) : Context :=
  match r with
  | .next t => t.current.getD ctx0
  | _ => ctx0

/-- Nothing stands before an instruction whose fields are good, in the bench's slot. -/
theorem issues_run {i : Instr} {c : Context} (h : i.form.fault = none)
    (hc : c.stopped = false ∧ c.chk = 0 ∧ c.lq = [] ∧ c.held = []) : Issues i (run c) c := by
  obtain ⟨h1, h2, h3, h4⟩ := hc
  have hb : c.loadsBack = true := by simp [Context.loadsBack, h3]
  refine ⟨rfl, h1, by show (0 : Nat) ≤ 0; decide, ?_, h, c.interlocked_of_back hb _, Context.heldUp_of_back ?_, ?_, .inl h4⟩
  · simp [State.windowsPending, h2, bit]
  · rw [Context.loadsBack, (Instr.settled_same i _).lq, (show (c.atIssue i).lq = c.lq from (c.limited_same _).lq)]; exact hb
  · simp [bit, h2]

/-- A check that decides to succeed has a value. -/
theorem ok_of {α : Type} {r : Check α} (h : r.toOption.isSome = true) : ∃ a, r = .ok a := by
  cases r with
  | ok a => exact ⟨a, rfl⟩
  | error e => simp [Except.toOption] at h

/-- A check that succeeds with a known value. -/
theorem is_ok {α : Type} {r : Check α} {a : α} (h : r.toOption = some a) : r = .ok a := by
  cases r with
  | ok b => exact congrArg _ (Option.some.inj h)
  | error e => simp [Except.toOption] at h

/-- A check that succeeds with a value of which p holds. -/
theorem ok_and {α : Type} {r : Check α} {p : α → Bool} (h : (match r with | .ok a => p a | .error _ => false) = true) :
    ∃ a, r = .ok a ∧ p a = true := by
  cases r with
  | ok a => exact ⟨a, rfl, h⟩
  | error e => exact absurd h Bool.false_ne_true

/-- An answer that is a next state. -/
def goesOn (r : Answer) : Bool :=
  match r with
  | .next _ => true
  | _ => false

theorem next_of {r : Answer} (h : goesOn r = true) : ∃ t, r = .next t := by
  cases r with
  | next t => exact ⟨t, rfl⟩
  | fault f => exact absurd h Bool.false_ne_true
  | refused f => exact absurd h Bool.false_ne_true

/-! Ill-formed terms, one for each check. -/

/-- R94, R108, R125, R148, R187, R192, R196, R333: an operand field that may not hold its value. -/
theorem test_bad_fields_refused :
    [Instr.add 0 0 43 0, .add 0 0 0 63, .add 0 40 0 0, .sel 0 44 0 0, .acas 0 3 0 0 0, .acas 0 32 0 0 0, .hget 0 0 16, .ldI8 0 0 16 0,
      .vadd 0 31 0 0 0 1, .vadd 0 0 25 0 0 3, .vceq 0 8 0 0 0 0, .pand 0 0 8 0, .vmovx 0 0 0 1].all (fun i => !i.wf) = true := by rfl

/-- R63, R104, R127, R128, R43, R82, R124: a reserved rounding code, type, control-register number, engine, scope, element type or loop
end. -/
theorem test_reserved_codes_refused :
    [Instr.fadd 0 0 0 0 0 5, .fsqrt 0 0 0 0 5, .cvt 0 0 0 15 0 0, .cvt 0 0 0 0 15 0, .cvt 0 0 0 0 0 5, .loop 0 0 0, .loop 0 0 0x20000,
      .sget 0 0 0x15, .sset 0 0 0x15, .sset 0 0 0, .sset 0 0 0xF, .xsendi 0 8 0 0, .xsend 0 8 0 0, .xsendw 0 8 0 0, .xsendm 0 8 0 0 0,
      .xseq 0 8 0, .xwait 0 8 0, .ldAcqN32 0 0 0 0 5, .stRelI64 0 0 0 0 5, .mark 0 5, .dld 0 0 0 0 5 0, .dst 0 0 0 0 0 5,
      .dst 0 0 0 0 3 1, .cpub 0 0 0 0 5, .cinv 0 0 0 0 5].all (fun i => !i.wf) = true := by rfl

/-- R45, R231, R267, R342, R379: an argument that the engine's table does not assign. -/
theorem test_bad_arguments_refused :
    [Instr.engShl 64, .engPick 8, .mlev 6, .msfm 1, .msfm 5, .lret 2, .yred 7 0].all (fun i => !i.wf) = true := by rfl

/-! Words written out from the encodings. -/

/-- Words written out field by field from the encodings of R111, R112. -/
theorem test_decode_integer : [0x81B5BD80, 0x81B5BD81, 0x81B5BD82, 0x81B5BD83, 0x81B5BD84, 0x81B5BD85, 0x81B5BD86, 0x81B5BD87, 0x81B5BD88, 0x81B5BD89,
    0x81B5BD8A, 0x81B5BD8B, 0x81B5BD8C, 0x81B5BD8D, 0x81B5BD8E, 0x81B5BD8F, 0x81B5BD90, 0x81B5BD91, 0x81B5BD92, 0x81B5BD93,
    0x81B5BD94, 0x81B5BD95, 0x81B5BA96, 0x81B5BA97, 0x81B5BA98, 0x81B5BA99, 0x81B5BA9A, 0x81B5BA9B, 0x81B5BA9C, 0x81B5BA9D,
    0x81B5BA9E, 0x81B5BA9F, 0x81B5BDA0, 0x82B5BDB6, 0x83B5BDB6, 0x84B5BDB6, 0x85B5BDB6, 0x86B5B036, 0x87B5B036, 0x88B5B036,
    0x89B5BDB6, 0x8AB5BDB6].map (fun w => decodeSeq w 0) =
    ([.add 2 45 27 54, .sub 2 45 27 54, .and 2 45 27 54, .or 2 45 27 54, .xor 2 45 27 54, .andn 2 45 27 54, .shl 2 45 27 54,
    .shr 2 45 27 54, .sra 2 45 27 54, .rotr 2 45 27 54, .min 2 45 27 54, .max 2 45 27 54, .minn 2 45 27 54,
    .maxn 2 45 27 54, .seq 2 45 27 54, .sne 2 45 27 54, .slt 2 45 27 54, .sltn 2 45 27 54, .sle 2 45 27 54,
    .slen 2 45 27 54, .adds 2 45 27 54, .subs 2 45 27 54, .clz 2 45 27, .ctz 2 45 27, .popc 2 45 27, .bswap 2 45 27,
    .sxb 2 45 27, .sxh 2 45 27, .sxw 2 45 27, .zxb 2 45 27, .zxh 2 45 27, .zxw 2 45 27, .sel 2 45 27 54,
    .addi 2 45 27 3510, .andi 2 45 27 3510, .ori 2 45 27 3510, .xori 2 45 27 3510, .shli 2 45 27 54, .shri 2 45 27 54,
    .srai 2 45 27 54, .slti 2 45 27 3510, .sltni 2 45 27 3510] : List Instr).map .ok := by rfl

/-- Words written out field by field from the encodings of R114, R115, R116, R117. -/
theorem test_decode_multiply_float : [0x8BB5BD80, 0x8BB5BD81, 0x8BB5BD82, 0x8BB5BD83, 0x8BB5BD84, 0x8BB5BD85, 0x8BB5BD86, 0x8D6F6547, 0x8D6F654F, 0x8D6F6557,
    0x8D6F655F, 0x8D6F6AA4, 0x8D6F6568, 0x8D6F6570, 0x8D6F657F, 0x90B5BD90, 0x90B5BD91, 0x90B5BD92, 0x90B5BD93, 0x90B5BAA4,
    0x90B5BAA5, 0x90B5BAA6, 0x91B5B65E].map (fun w => decodeSeq w 0) =
    ([.mul 2 45 27 54, .mulh 2 45 27 54, .mulhn 2 45 27 54, .div 2 45 27 54, .divn 2 45 27 54, .rem 2 45 27 54,
    .remn 2 45 27 54, .fadd 2 1 27 54 21 7, .fsub 2 1 27 54 21 7, .fmul 2 1 27 54 21 7, .fdiv 2 1 27 54 21 7,
    .fsqrt 2 1 27 54 4, .fmin 2 1 27 54 21, .fmax 2 1 27 54 21, .fma 2 1 27 54 21 7, .feq 2 45 27 54 1, .flt 2 45 27 54 1,
    .fle 2 45 27 54 1, .fun 2 45 27 54 1, .fclass 2 45 27 2, .fneg 2 45 27 2, .fabs 2 45 27 2, .cvt 2 45 27 6 5 7] : List Instr).map .ok := by rfl

/-- Words written out field by field from the encodings of R118, R119, R121, R122, R123, R124. -/
theorem test_decode_control : [0x92AADB6D, 0x93B5B6DB, 0x94B5B6DB, 0x95B5B6DB, 0x96B5B6DB, 0x97B5B6DB, 0x98B5B6DB, 0x99B5B6DB, 0x9AAADA80, 0x9AB5BA81,
    0x9BB5B6DB, 0xA0AAAA80, 0xA0AAAA81, 0xA0AAAA86].map (fun w => decodeSeq w 0) =
    ([.br 2 187245, .beqz 2 45 112347, .bnez 2 45 112347, .bltz 2 45 112347, .bgez 2 45 112347, .bgtz 2 45 112347,
    .blez 2 45 112347, .call 2 45 112347, .jr 2 45, .jalr 2 45 27, .loop 2 45 112347, .endl 2, .yield 2, .lexit 2] : List Instr).map .ok := by rfl

/-- Words written out field by field from the encodings of R125, R126, R134, R135, R136. -/
theorem test_decode_system : [0xA0AAAA82, 0xA0AAAA83, 0xA0B5BA84, 0xA0AAAA85, 0x9CB6A014, 0x9DAAD014, 0x9EB5BDB6, 0x9FAAAB6D].map (fun w => decodeSeq w 0) =
    ([.eret 2, .tend 2, .hget 2 45 27, .nop 2, .sget 2 45 20, .sset 2 45 20, .hset 2 45 27 3510, .trap 2 2925] : List Instr).map .ok := by rfl

/-- Words written out field by field from the encodings of R128, R129. -/
theorem test_decode_send : [0xA2D1BD80, 0xA2D1BD81, 0xA261BA82, 0xA261BA83, 0xA335B655].map (fun w => decodeSeq w 0) =
    ([.xsend 2 13 27 54, .xsendw 2 13 27 54, .xseq 2 6 27, .xwait 2 6 27, .xsendm 2 13 27 6 85] : List Instr).map .ok := by rfl

/-- Words written out field by field from the encodings of R145, R146, R154, R155. -/
theorem test_decode_load_store : [0xA4B5B655, 0xA5B5B655, 0xA6B5B655, 0xA7B5B655, 0xA8B5BD80, 0xA8B5BD81, 0xA8B5BD82, 0xA8B5BD83, 0xA8B5BD84, 0xA8B5BD85,
    0xA8B5BD86, 0xA8B5BD88, 0xA8B5BD89, 0xA8B5BD8A, 0xA8B5BD8B, 0xA9B5BD85, 0xA9B5BD8D, 0xA9B5BD95, 0xA9B5BD9D, 0xA9AAAAA4].map (fun w => decodeSeq w 0) =
    ([.ldI64 2 45 27 6 85, .ldI32 2 45 27 6 85, .stI64 2 45 27 6 85, .stI32 2 45 27 6 85, .ldI8 2 45 27 54, .ldN8 2 45 27 54,
    .ldI16 2 45 27 54, .ldN16 2 45 27 54, .ldI32Reg 2 45 27 54, .ldN32 2 45 27 54, .ldI64Reg 2 45 27 54, .stI8 2 45 27 54,
    .stI16 2 45 27 54, .stI32Reg 2 45 27 54, .stI64Reg 2 45 27 54, .ldAcqN32 2 45 27 54 5, .ldAcqI64 2 45 27 54 5,
    .stRelI32 2 45 27 54 5, .stRelI64 2 45 27 54 5, .mark 2 4] : List Instr).map .ok := by rfl

/-- Words written out field by field from the encodings of R156, R157, R158, R159, R175, R176, R177, R178. -/
theorem test_decode_ordered_publish : [0xA9AAD6E8, 0xA9AAD6E9, 0xAAB5BDAE, 0xABB5BDA3, 0xABB5BDB5, 0xABB5BDBD, 0xACB5BD85, 0xACB5BD8D, 0xACAAAA90, 0xADB5B655].map (fun w => decodeSeq w 0) =
    ([.pfDc 2 45 27, .pfLlc 2 45 27, .dld 2 45 27 54 5 3, .dst 2 45 27 54 4 3, .tld 2 45 27 54 5, .tst 2 45 27 54 5,
    .cpub 2 45 27 54 5, .cinv 2 45 27 54 5, .ifence 2, .cprobe 2 45 27 6 85] : List Instr).map .ok := by rfl

/-- Words written out field by field from the encodings of R332, R333, R334, R335, R336, R337, R338, R339. -/
theorem test_decode_sync : [0xAEB5BD81, 0xAEB5BD83, 0xAEB5BD85, 0xAEB5BD87, 0xAEB5BD89, 0xAEB5BD8B, 0xAEB5BD8D, 0xAEB5BD8F, 0xAEB5BD91, 0xAEB5BD93,
    0xAEB5BD95, 0xAEB5BDA0, 0xAEB5BDA1, 0xAEB5BDA2, 0xAEB5BDA8, 0xAEB5BDA9, 0xAEB5BDAA, 0xAEB5BDAB, 0xAEB5BDB0, 0xAEB5BDB1,
    0xAEB5BDB2, 0xAEB5BDB3].map (fun w => decodeSeq w 0) =
    ([.aswp 2 45 27 54 1, .aadd 2 45 27 54 1, .aand 2 45 27 54 1, .aor 2 45 27 54 1, .axor 2 45 27 54 1, .amin 2 45 27 54 1,
    .amax 2 45 27 54 1, .aminn 2 45 27 54 1, .amaxn 2 45 27 54 1, .acas 2 45 27 54 1, .afadd 2 45 27 54 1,
    .barrive 2 45 27 54, .bwait 2 45 27 54, .btest 2 45 27 54, .rres 2 45 27 54, .rpost 2 45 27 54, .rwfree 2 45 27 54,
    .rtfree 2 45 27 54, .rtake 2 45 27 54, .rfree 2 45 27 54, .rwfill 2 45 27 54, .rtfill 2 45 27 54] : List Instr).map .ok := by rfl

/-- Words written out field by field from the encodings of R197, R203, R213, R214, R215. -/
theorem test_decode_vector_arithmetic : [0xBC06EED7, 0xBC16EED7, 0xBC26EED7, 0xBC36EED7, 0xBC46EED7, 0xBC56EED7, 0xBC66EED7, 0xBC76EC19, 0xBC86EC19, 0xBC96EC19,
    0xBCA6EC19, 0xBCB6EC19, 0xBCC6EED7, 0xBCD6EED4, 0xBCE6EC18, 0xBCF6EC18].map (fun w => decodeSeq w 0) =
    ([.vadd 2 13 27 22 5 3, .vsub 2 13 27 22 5 3, .vmul 2 13 27 22 5 3, .vfma 2 13 27 22 5 3, .vmin 2 13 27 22 5 3,
    .vmax 2 13 27 22 5 3, .vdiv 2 13 27 22 5 3, .vsqrt 2 13 27 6 1, .vexp2 2 13 27 6 1, .vneg 2 13 27 6 1,
    .vabs 2 13 27 6 1, .vcvt 2 13 27 6 1, .vmulh 2 13 27 22 5 3, .vdotb 2 13 27 22 5, .vqe8 2 13 27 6, .vqn4 2 13 27 6] : List Instr).map .ok := by rfl

/-- Words written out field by field from the encodings of R198, R199, R200. -/
theorem test_decode_vector_logic : [0xBD06EED7, 0xBD16EED7, 0xBD26EED7, 0xBD36EED7, 0xBD46EED7, 0xBD56EED7, 0xBD66EED7, 0xBD76EC19, 0xBD86EC19, 0xBD96EED7,
    0xBDA6EED7, 0xBDB6EED7, 0xBDC6EED7, 0xBDD6EED7].map (fun w => decodeSeq w 0) =
    ([.vand 2 13 27 22 5 3, .vor 2 13 27 22 5 3, .vxor 2 13 27 22 5 3, .vandn 2 13 27 22 5 3, .vshl 2 13 27 22 5 3,
    .vshr 2 13 27 22 5 3, .vsra 2 13 27 22 5 3, .vclz 2 13 27 6 1, .vpopc 2 13 27 6 1, .vceq 2 13 27 22 5 3,
    .vclt 2 13 27 22 5 3, .vcle 2 13 27 22 5 3, .vcun 2 13 27 22 5 3, .vsel 2 13 27 22 5 3] : List Instr).map .ok := by rfl

/-- Words written out field by field from the encodings of R201, R202. -/
theorem test_decode_vector_predicate : [0xBDE6EEC0, 0xBDE6EEC4, 0xBDE6EEC8, 0xBDE6EECC, 0xBDE6EED0, 0xBDE6EED4, 0xBDE6EC18, 0xBDE6801C, 0xBDF6EC00, 0xBDF6EC04,
    0xBDF6EC08].map (fun w => decodeSeq w 0) =
    ([.pand 2 13 27 22, .por 2 13 27 22, .pxor 2 13 27 22, .pandn 2 13 27 22, .pnor 2 13 27 22, .pnand 2 13 27 22,
    .pnot 2 13 27, .pfill 2 13, .vpcnt 2 13 27, .vplo 2 13 27, .vphi 2 13 27] : List Instr).map .ok := by rfl

/-- Words written out field by field from the encodings of R204, R205, R206, R207, R208. -/
theorem test_decode_vector_move : [0xBE06EC19, 0xBE16800E, 0xBE26800E, 0xBE36EC18, 0xBE46EED7, 0xBE56EED7, 0xBE66EC18, 0xBE76EC18, 0xBE86EC19, 0xBE96EC19,
    0xBEA6EED4].map (fun w => decodeSeq w 0) =
    ([.vmov 2 13 27 6 1, .vbcast 2 13 3 2, .viota 2 13 3 2, .vmovx 2 13 27 6, .vperm 2 13 27 22 5 3, .vslide 2 13 27 22 5 3,
    .vcompress 2 13 27 6, .vexpand 2 13 27 6, .vred 2 13 27 6 1, .vscan 2 13 27 6 1, .vmatch 2 13 27 22 5] : List Instr).map .ok := by rfl

/-- Words written out field by field from the encodings of R210, R211, R212, R216, R217. -/
theorem test_decode_vector_memory : [0xBEB6EED4, 0xBEC00000, 0xBF06800E, 0xBF16800E, 0xBF268378, 0xBF368378].map (fun w => decodeSeq w 0) =
    ([.vstop 2 13 27 22 5, .vfence 2, .vld 2 13 3 2, .vst 2 13 3 2, .vldg 2 13 27 6, .vstg 2 13 27 6] : List Instr).map .ok := by rfl

/-- R113, R127: the long forms, with their second words. -/
theorem test_decode_long :
    [decodeSeq 0xB1B6A000 0x89ABCDEF, decodeSeq 0xB2B5B000 0x89ABCDEF, decodeSeq 0xB3B5B000 0x89ABCDEF, decodeSeq 0x30000000 0x01008123] =
    ([.li 2 45 0x89ABCDEF, .lhi 2 45 27 0x89ABCDEF, .addl 2 45 27 0x89ABCDEF, .xsendi 0 0 0x8123 0x0100] : List Instr).map .ok := by rfl

/-- The words every engine reads, here on engine 7. -/
theorem test_decode_common : [0xA082, 0x0000, 0x0100, 0x0200, 0x0300, 0x0400, 0x0500, 0x0682, 0x0700, 0x0800, 0x0900, 0x0A82, 0x0B00, 0x0C00, 0x0D82].map (decodeEng 7) =
    ([.engPush 8322, .engNop, .engDup, .engDrop, .engSwap, .engOver, .engCat, .engLit8 130, .engAdd, .engSub, .engMul,
    .engShl 130, .engAnd, .engOr, .engPick 130] : List Instr).map some := by rfl

/-- The words of engine 0. -/
theorem test_decode_matrix : [0x1082, 0x1100, 0x1200, 0x1300, 0x1400, 0x1500, 0x1600, 0x1700, 0x1800, 0x192D, 0x1A00, 0x1B01, 0x1C01, 0x1D02, 0x1E02,
    0x1F01, 0x2000, 0x2101, 0x2200, 0x2301, 0x2400, 0x2500, 0x6002, 0x6100, 0x6202, 0x6300, 0x6400, 0x6501].map (decodeEng 0) =
    ([.mset 130, .mswp, .mcpy, .mrst, .mgeo, .msra, .msrb, .mdst, .mssr, .mfmt 2 13, .mbsf, .mtr 1, .mcos 1, .mlev 2,
    .mstr 2, .mepi 1, .mtsc, .mgo 1, .mzero, .mstat 1, .msave, .mload, .mgrp 2, .mgclr, .msfm 2, .msar, .msdb, .msds 1] : List Instr).map some := by rfl

/-- The words of engine 1. -/
theorem test_decode_fetch : [0x101B, 0x1102, 0x1200, 0x1300].map (decodeEng 1) =
    ([.fget 0 1 11, .fwarm 2, .frel, .fdrop] : List Instr).map some := by rfl

/-- The words of engine 2. -/
theorem test_decode_adapter : [0x100D, 0x110D, 0x1202, 0x1302, 0x1402, 0x1502].map (decodeEng 2) =
    ([.aget 0 13, .apin 0 13, .aunpin 2, .aalloc 2, .apub 2, .aabort 2] : List Instr).map some := by rfl

/-- The words of engine 3. -/
theorem test_decode_wick : [0x1002, 0x1102, 0x1202, 0x1300, 0x1400, 0x1500].map (decodeEng 3) =
    ([.wclaim 2, .wstat 2, .wlaunch 2, .wrel, .wstop, .wdrain] : List Instr).map some := by rfl

/-- The words of engine 4. -/
theorem test_decode_sync_engine : [0x1001, 0x112D, 0x120D].map (decodeEng 4) =
    ([.yarv 1, .yred 2 13, .yadd 0 13] : List Instr).map some := by rfl

/-- The words of engine 5 (and 6). -/
theorem test_decode_copy : [0x102D, 0x112D, 0x1202, 0x132D, 0x142D, 0x152D, 0x162D, 0x172D, 0x1802, 0x1902, 0x1A02].map (decodeEng 5) =
    ([.ccopy 2 13, .c2d 2 13, .cfill 2, .cgath 2 13, .cscat 2 13, .czip 2 13, .cunz 2 13, .cdf 2 13, .crput 2, .crget 2,
    .crred 2] : List Instr).map some := by rfl

/-- The words of engine 7. -/
theorem test_decode_lamplighter : [0x1000, 0x1102, 0x1201, 0x1302, 0x1402].map (decodeEng 7) =
    ([.lstep, .lret 2, .lhold 1, .lstat 2, .lseq 2] : List Instr).map some := by rfl

/-! For each statement with hypotheses, a state and operands that meet them. -/

/-- IntegerRegisterResults, IntegerImmediateResults, MultiplyDivideResults, FloatArithmeticResults, FloatComparisonResults,
HandleSlotInstructions, RegisterFormsFrame: nothing stands before any form of the families they name. -/
theorem witness_register_forms :
    ∀ i ∈ [Instr.add 0 5 1 2, .sub 3 5 1 42, .and 0 5 1 2, .or 0 39 1 2, .xor 0 5 49 2, .andn 0 5 1 2, .shl 0 5 1 2, .shr 0 5 1 2,
      .sra 0 5 1 2, .rotr 0 5 1 2, .min 0 5 1 2, .max 0 5 1 2, .minn 0 5 1 2, .maxn 0 5 1 2, .seq 0 5 1 2, .sne 0 5 1 2, .slt 0 5 1 2,
      .sltn 0 5 1 2, .sle 0 5 1 2, .slen 0 5 1 2, .adds 0 5 1 2, .subs 0 5 1 2, .clz 0 5 1, .ctz 0 5 1, .popc 0 5 1, .bswap 0 5 1,
      .sxb 0 5 1, .sxh 0 5 1, .sxw 0 5 1, .zxb 0 5 1, .zxh 0 5 1, .zxw 0 5 1, .sel 0 5 1 2, .addi 0 5 1 7, .andi 0 5 1 7, .ori 0 5 1 7,
      .xori 0 5 1 7, .shli 0 5 1 63, .shri 0 5 1 7, .srai 0 5 1 7, .slti 0 5 1 7, .sltni 0 5 1 7, .li 0 5 7, .lhi 0 5 1 7, .addl 0 5 1 7,
      .mul 0 5 1 2, .mulh 0 5 1 2, .mulhn 0 5 1 2, .div 0 5 1 2, .divn 0 5 1 42, .rem 0 5 1 2, .remn 0 5 1 2, .fadd 0 0 5 1 2 4,
      .fsub 0 1 5 1 2 0, .fmul 0 2 5 1 2 0, .fdiv 0 3 5 1 2 0, .fsqrt 0 0 5 1 0, .fma 0 0 5 1 2 0, .fmin 0 0 5 1 2, .fmax 0 0 5 1 2,
      .feq 0 5 1 2 0, .flt 0 5 1 2 1, .fle 0 5 1 2 2, .fun 0 5 1 2 3, .fclass 0 5 1 0, .fneg 0 5 1 0, .fabs 0 5 1 0, .cvt 0 5 1 0 3 0,
      .hget 0 5 15, .hset 0 15 1 7, .nop 0, .pfDc 0 0 1, .pfLlc 0 0 1, .sget 0 5 0, .sset 0 1 7], Issues i (run ctx0) ctx0 :=
  fun i h => issues_run (by revert i; decide) ⟨rfl, rfl, rfl, rfl⟩

/-- The words of the three integer statements that are refused. -/
theorem witness_refused_words :
    (0x01000021 / 2 ^ 24 % 64 = 1 ∧ 33 ≤ 0x01000021 % 64) ∧ (0x01000016 / 2 ^ 24 % 64 = 1 ∧ 0x01000016 % 64 = 22 ∧ 0x01000016 / 2 ^ 6 % 64 ≠ 42 ∧
      writable (.ofNat 6 (0x01000016 / 2 ^ 18)) = true ∧ readable (.ofNat 6 (0x01000016 / 2 ^ 12)) = true) ∧
    (0x06000040 / 2 ^ 24 % 64 = 6 ∧ 0x06000040 / 2 ^ 6 % 64 ≠ 0) ∧ (0x33000800 / 2 ^ 24 % 64 = 0x33 ∧ 0x33000800 % 2 ^ 12 ≠ 0) ∧
    (0x31000000 / 2 ^ 24 % 64 = 0x31 ∧ 0x31000000 % 2 ^ 12 = 0 ∧ 0x31000000 / 2 ^ 12 % 64 ≠ 42 ∧ writable (.ofNat 6 (0x31000000 / 2 ^ 18)) = true) ∧
    (0x0B000007 / 2 ^ 24 % 64 = 0x0B ∧ 7 ≤ 0x0B000007 % 64) := by decide

/-- BranchesTakenAndNot, CallsAndJumps: a target that passes its checks, an entry line's for a call, and a register's. -/
theorem witness_transfers :
    (∃ r, checkTransfer (coded [] ctx0) ctx0 false false 0x8008 = .ok r) ∧ (∃ r, checkTransfer (coded [] ctx0) ctx0 false true 0x8080 = .ok r) ∧
    (∃ r, checkTransfer (coded [] { ctx0 with x := ctx0.x.set 1 0x8080 }) { ctx0 with x := ctx0.x.set 1 0x8080 } false true 0x8080 = .ok r) ∧
    (∀ i ∈ [Instr.br 0 2, .beqz 0 0 2, .bnez 0 1 2, .bltz 0 3 2, .bgez 0 0 2, .bgtz 0 1 2, .blez 0 0 2, .call 0 5 32, .jr 0 1, .jalr 0 5 1],
      Issues i (run ctx0) ctx0) ∧ ctx0.pc + 4 * (2 : BitVec 18).signExtend 64 = 0x8008 ∧ ctx0.pc + 4 * (32 : BitVec 18).signExtend 64 = 0x8080 ∧
    ctx0.read 0 = 0 ∧ (ctx0.read 3).toInt < 0 ∧ 0 < (ctx0.read 1).toInt :=
  ⟨ok_of (by decide +kernel), ok_of (by decide +kernel), ok_of (by decide +kernel),
    fun i h => issues_run (by revert i; decide) ⟨rfl, rfl, rfl, rfl⟩, by decide +kernel⟩

/-- A context at the end of a loop level of n iterations, at index k. -/
def inLoop (k n : Word) : Context := { ctx0 with loops := [⟨k, n, 0x7FF0, 0x8000⟩] }

/-- LoopsCountAndLeave: a level to push and a body to skip, a level at its end that goes back and one that leaves, and the other slot
free for `yield`. -/
theorem witness_loops :
    (Issues (.loop 0 1 2) (run ctx0) ctx0 ∧ ctx0.loops.length < 6 ∧ (ctx0.read 1).truncate 32 ≠ 0#32) ∧
    (Issues (.loop 0 0 2) (run ctx0) ctx0 ∧ (ctx0.read 0).truncate 32 = 0#32) ∧
    (Issues (.endl 0) (run (inLoop 0 2)) (inLoop 0 2) ∧ (inLoop 0 2).pc = 0x8000 ∧ (inLoop 0 2).vbusy = 0 ∧ (inLoop 0 2).urgent = none) ∧
    (Issues (.endl 0) (run (inLoop 1 2)) (inLoop 1 2) ∧ (2 : Word).toNat ≤ (1 : Word).toNat + 1) ∧
    Issues (.lexit 0) (run (inLoop 0 2)) (inLoop 0 2) ∧ (Issues (.yield 0) (run ctx0) ctx0 ∧ ctx0.vbusy = 0 ∧ ctx0.urgent = none) := by
  refine ⟨⟨issues_run rfl ⟨rfl, rfl, rfl, rfl⟩, by decide +kernel⟩, ⟨issues_run rfl ⟨rfl, rfl, rfl, rfl⟩, by decide⟩,
    ⟨issues_run rfl ⟨rfl, rfl, rfl, rfl⟩, rfl, rfl, rfl⟩, ⟨issues_run rfl ⟨rfl, rfl, rfl, rfl⟩, by decide⟩,
    issues_run rfl ⟨rfl, rfl, rfl, rfl⟩, ⟨issues_run rfl ⟨rfl, rfl, rfl, rfl⟩, rfl, rfl⟩⟩

/-- ControlRegisterReads, ControlRegisterWrites: every register at the level it needs, and below it; ACFG with another type. -/
theorem witness_control_registers :
    (∀ n < 0x15, Issues (.sget 0 5 (.ofNat 12 n)) (run (atLevel .machine)) (atLevel .machine)) ∧
    (∀ n < 0x15, n ≠ 0 → n ≠ 15 → Issues (.sset 0 1 (.ofNat 12 n)) (run (atLevel .machine)) (atLevel .machine)) ∧
    (∀ n < 0x15, Issues (.sget 0 5 (.ofNat 12 n)) (run ctx0) ctx0) ∧
    (∀ n < 0x15, n ≠ 0 → n ≠ 15 → Issues (.sset 0 1 (.ofNat 12 n)) (run ctx0) ctx0) ∧
    ctx0.prv.cur = .task ∧ (atLevel .machine).prv.cur = .machine ∧ ctx0.vbusy = 0 ∧
    (let c : Context := { ctx0 with x := ctx0.x.set 1 0xF0B }
     bits (c.read 1) 3 0 ∈ [2, 8, 9, 10, 11] ∧ bits (c.read 1) 3 0 ≠ c.acc.toNat ∧ bits (c.read 1) 7 4 = 0 ∧ bits (c.read 1) 63 12 = 0) := by
  refine ⟨fun n h => issues_run ?_ ⟨rfl, rfl, rfl, rfl⟩, fun n h h0 h1 => issues_run ?_ ⟨rfl, rfl, rfl, rfl⟩,
    fun n h => issues_run ?_ ⟨rfl, rfl, rfl, rfl⟩, fun n h h0 h1 => issues_run ?_ ⟨rfl, rfl, rfl, rfl⟩, rfl, rfl, rfl, by decide⟩
  · revert n; decide
  · revert n; decide
  · revert n; decide
  · revert n; decide

/-- RegisterFormsFrame: an `sget` of an exception register where its privilege is held, and a rounding form. -/
theorem witness_system_frame :
    (let c := atLevel .supervisor
     Issues (.sget 0 5 9) (run c) c ∧ c.pend = [] ∧ (∃ u, exec (.sget 0 5 9) (run c) = .next u) ∧ c.prv.cur ≠ .task ∧ c.vbusy = 0) ∧
    (Issues (.fadd 0 0 5 1 2 4) (run ctx0) ctx0 ∧ ctx0.pend = [] ∧ ∃ u, exec (.fadd 0 0 5 1 2 4) (run ctx0) = .next u) :=
  ⟨⟨issues_run rfl ⟨rfl, rfl, rfl, rfl⟩, rfl, next_of (by decide +kernel), by decide, rfl⟩,
    issues_run rfl ⟨rfl, rfl, rfl, rfl⟩, rfl, next_of (by decide +kernel)⟩

/-- StaticChecksComeFirst: an ILLOP form and an ILLOPD form. -/
theorem witness_static_checks :
    (Instr.fadd 0 0 0 0 0 5).form.fault = some .illop ∧ (Instr.add 0 44 0 0).form.fault = some (.illopd 44) ∧
    (run ctx0).current = some ctx0 ∧ ctx0.stopped = false ∧ (run ctx0).core.busyTill ≤ (run ctx0).core.now ∧
    (run ctx0).windowsPending ctx0 = false :=
  ⟨rfl, rfl, rfl, rfl, by decide, rfl⟩

/-- The same machine with a machine vector (the bytes at 0x10000). -/
def armed (c : Context) : State := { run c with mgmt := { (run c).mgmt with root := 0xFFB8 } }

/-- EntriesSave, EntriesAreRouted, SoftTrapTaken: a task's fault and a held cause go to supervisor, a supervisor's fault to machine. -/
theorem witness_entries :
    (run ctx0).route ctx0 .bound none = .supervisor 0x8080 ∧ (run ctx0).route ctx0 .poison (some .task) = .supervisor 0x8080 ∧
    (armed (atLevel .supervisor)).route (atLevel .supervisor) .bound none = .machine 0x2001000 ∧ (run ctx0).launch ctx0.launch = some benchLaunch ∧
    benchLaunch.res.policy = .trap ∧
    (Issues (.trap 0 7) (run ctx0) ctx0 ∧ ctx0.prv.cur ≠ .machine ∧ ctx0.loadsBack = true ∧ ctx0.vbusy = 0) ∧
    Issues (.trap 0 7) (run (atLevel .machine)) (atLevel .machine) := by
  refine ⟨by decide +kernel, by decide +kernel, by decide +kernel, by decide +kernel, rfl, ⟨issues_run rfl ⟨rfl, rfl, rfl, rfl⟩, by decide, rfl, rfl⟩, issues_run rfl ⟨rfl, rfl, rfl, rfl⟩⟩

/-- A context whose exception bank returns to the level of code k. -/
def returning (l : Level) (k : BitVec 3) : Context := { atLevel l with sup := ⟨0, 0x8004, 0, k, 0⟩ }

/-- ExceptionReturn, TaskEndFreesSlot: a task, a supervisor returning to task, to code 3 and to machine. -/
theorem witness_returns :
    Issues (.eret 0) (run ctx0) ctx0 ∧
    (Issues (.eret 0) (run (returning .supervisor 4)) (returning .supervisor 4) ∧ bits (4 : BitVec 3) 1 0 ≤ Level.supervisor.code ∧
      (returning .supervisor 4).loadsBack = true ∧ (returning .supervisor 4).vbusy = 0) ∧
    (Issues (.eret 0) (run (returning .supervisor 3)) (returning .supervisor 3) ∧ bits (3 : BitVec 3) 1 0 = 3) ∧
    (Issues (.eret 0) (run (returning .supervisor 2)) (returning .supervisor 2) ∧ bits (2 : BitVec 3) 1 0 = 2) ∧
    (Issues (.tend 0) (run ctx0) ctx0 ∧ ctx0.vbusy = 0 ∧ ctx0.atomics = 0) ∧
    (Issues (.tend 0) (run { ctx0 with vbusy := 1 }) { ctx0 with vbusy := 1 } ∧ ({ ctx0 with vbusy := 1 } : Context).vbusy ≠ 0) :=
  ⟨issues_run rfl ⟨rfl, rfl, rfl, rfl⟩, ⟨issues_run rfl ⟨rfl, rfl, rfl, rfl⟩, by decide, rfl, rfl⟩, ⟨issues_run rfl ⟨rfl, rfl, rfl, rfl⟩, by decide⟩,
    ⟨issues_run rfl ⟨rfl, rfl, rfl, rfl⟩, by decide⟩, ⟨issues_run rfl ⟨rfl, rfl, rfl, rfl⟩, rfl, rfl⟩,
    ⟨issues_run rfl ⟨rfl, rfl, rfl, rfl⟩, by decide⟩⟩

/-- CommandsAreSent: the sending forms with room in the queue and no mark, at engine 0, whose accumulator the context owns. -/
theorem witness_sends :
    (∀ i ∈ [Instr.xsendi 0 0 0x8123 0x0100, .xsend 0 7 1 2, .xsendw 0 1 1 2, .xsendm 0 7 4 1 0, .xseq 0 7 5, .xwait 0 7 4],
      Issues i (run ctx0) ctx0) ∧
    ((run ctx0).storeMayGo (run ctx0).core.active ctx0 = true ∧ (run ctx0).queuedTo 0 < 16 ∧ ctx0.vbusy = 0 ∧ (run ctx0).moving = false ∧
    ((run ctx0).sq (run ctx0).core.active).all (!·.whole) = true ∧ (run ctx0).core.owner = some ctx0.ctxid.toNat) ∧
    (∃ m, checkBlock (run ctx0) ctx0 1 (ctx0.read 0) 2 = .ok m ∧
      (let r := bindLoad (run ctx0) false 1 m.handle.space m.handle.policy ((run ctx0).sectorLook m.addrs) ((run ctx0).poolLine 0 m.leaves) m.addrs
       let s' := r.2.2.holdLeaves 0 m.leaves
       ((run ctx0).firstMet false ctx0 m).isNone && (run ctx0).loadReady false ctx0 m.handle.space m.addrs &&
       !(run ctx0).loadWaits ctx0 m.handle.space m.addrs && s'.storeMayGo false ctx0 && decide (s'.queuedTo 0 < 16) && !s'.moving &&
       s'.core.owner == some ctx0.ctxid.toNat) = true) ∧ upTo ((ctx0.read 0).truncate 32) ((run ctx0).engCtx 7 ctx0.ctxid.toNat).seq = true :=
  ⟨fun i h => issues_run (by revert i; decide) ⟨rfl, rfl, rfl, rfl⟩, by decide +kernel, ok_and (by decide +kernel), by decide +kernel⟩

/-- PlainLoadsAreSent, PlainStoresAreQueued, OrderedAccesses: checks that pass for global memory at the last aligned place of the handle
and in the scratchpad, queues with room, and no older access in the way. -/
theorem witness_accesses :
    (∃ m, checkHere (run ctx0) ctx0 0 0xFF8 8 .read = .ok m) ∧ (∃ m, checkHere (run ctx0) ctx0 0 0xFF8 8 .write = .ok m) ∧
    (∃ m, checkHere (run ctx0) ctx0 1 0xFFF 1 .read = .ok m) ∧ (∃ m, checkHere (run ctx0) ctx0 1 4 4 .write = .ok m) ∧
    (∃ m, checkHere (run ctx0) ctx0 1 2 2 .read = .ok m) ∧
    (∀ i ∈ [Instr.ldI64 0 5 0 0 255, .ldI32 0 5 0 0 1, .ldI8 0 5 0 1, .ldN8 0 5 0 1, .ldI16 0 5 0 1, .ldN16 0 5 0 1, .ldI32Reg 0 5 0 2,
      .ldN32 0 5 0 2, .ldI64Reg 0 5 0 2, .stI64 0 5 0 0 255, .stI32 0 5 0 0 1, .stI8 0 5 0 1, .stI16 0 5 0 1, .stI32Reg 0 5 0 2,
      .stI64Reg 0 5 0 2, .ldAcqN32 0 5 0 2 0, .ldAcqI64 0 5 0 2 4, .stRelI32 0 5 0 2 3, .stRelI64 0 5 0 2 1, .mark 0 4],
      Issues i (run ctx0) ctx0) ∧
    (run ctx0).loadReady false ctx0 .global [0x11FF8] = true ∧ (run ctx0).storeReady false ctx0 .global [0x11FF8] = true ∧
    (run ctx0).storeMayGo false (ctx0.addMark .s) = true ∧ (run ctx0).loadWaits ctx0 .global [0x11FF8] = false ∧
    (bindLoad ((run ctx0).receiveAll fun _ => true) false 1 .global .normal (fun _ => .newest)
      (((run ctx0).receiveAll fun _ => true).poolLine 0 []) [0x11FF8]).2.1 = none ∧
    ctx0.lq.length < 64 ∧ (run ctx0).storesHeld false ctx0 < 64 ∧ (run ctx0).spansPending ctx0 = false :=
  ⟨ok_of (by decide +kernel), ok_of (by decide +kernel), ok_of (by decide +kernel), ok_of (by decide +kernel), ok_of (by decide +kernel),
    fun i h => issues_run (by revert i; decide) ⟨rfl, rfl, rfl, rfl⟩, by decide +kernel⟩

/-- The encoded elements' handle, as the bench's table holds it. -/
def elemHandle : Handle := ⟨0x2010000, 0x1000, 64, 0, .normal, .global, 0, 0⟩

theorem elems_handle_read (off : Dword) (h : off = 8 ∨ off = 64) :
    readHandle (run ctx0) ((run ctx0).threadByte false) ((run ctx0).access 7) 3 3 off = .ok elemHandle := by
  rcases h with rfl | rfl <;> exact is_ok (by decide +kernel)

/-- DecodingAccesses: an element within ELEN, its check, and the first offset past ELEN. -/
theorem witness_decoding :
    Issues (.dld 0 5 3 2 1 1) (run ctx0) ctx0 ∧ Issues (.dst 0 5 3 2 1 0) (run ctx0) ctx0 ∧ Stored.ofCode 1 = some (.elem e4m3) ∧
    elemHandle.past 63 = false ∧ elemHandle.past 64 = true ∧
    (∃ e, checkElems (run ctx0) ((run ctx0).threadByte false) ((run ctx0).access 7) elemHandle 3 8 (.elem e4m3) false false (·.bytesOf 8) = .ok e) ∧
    (∃ e, checkElems (run ctx0) ((run ctx0).threadByte false) ((run ctx0).access 7) elemHandle 3 8 (.elem e4m3) true false
      (fun pf => (pf.reached 64 [8]).flatMap pf.bytesOf) = .ok e) :=
  ⟨issues_run rfl ⟨rfl, rfl, rfl, rfl⟩, issues_run rfl ⟨rfl, rfl, rfl, rfl⟩, by decide, by decide, by decide, ok_of (by decide +kernel),
    ok_of (by decide +kernel)⟩

/-- A geometry of two rows of 32 bytes, 64 apart, at tile row 126: the last that holds them. -/
def tileCtx : Context := { ctx0 with x := ctx0.x.set 5 0x7E010040 }

/-- TileAccesses: a geometry that parses and a range that passes for a load and a store. -/
theorem witness_tiles :
    (∃ g, Geometry.parse (tileCtx.read 5) = some g ∧ (∃ m, checkTile (run tileCtx) tileCtx 1 0 g .read = .ok m) ∧
      ∃ m, checkTile (run tileCtx) tileCtx 1 0 g .write = .ok m) ∧
    Issues (.tld 0 5 1 0 7) (run tileCtx) tileCtx ∧ Issues (.tst 0 5 1 0 7) (run tileCtx) tileCtx ∧
    (run tileCtx).tileHeld tileCtx (7 : BitVec 3).toNat = false :=
  ⟨⟨⟨false, false, 1, 32, 126, 2, 64⟩, by decide, ok_of (by decide +kernel), ok_of (by decide +kernel)⟩,
    issues_run rfl ⟨rfl, rfl, rfl, rfl⟩, issues_run rfl ⟨rfl, rfl, rfl, rfl⟩, rfl⟩

/-- PublishingInstructions: a range of one line of code, a probe of a mapped, unmarked line. -/
theorem witness_publishing :
    (∃ p, checkPublish (run ctx0) ctx0 4 0 128 = .ok p) ∧
    (∀ i ∈ [Instr.cpub 0 5 4 0 3, .cinv 0 5 4 0 3, .ifence 0, .cprobe 0 5 0 4 0], Issues i (run ctx0) ctx0) ∧ ctx0.loadsBack = true ∧
    (∃ h, readHandle (run ctx0) ((run ctx0).threadByte false) ((run ctx0).access 7) 4 4 0 = .ok h ∧ h.space = .code ∧
      checkBound (run ctx0) ((run ctx0).access 7) h 4 0 128 = .ok () ∧ (h.va 0).toNat % 128 = 0) ∧
    (run ctx0).storeMayGo false (ctx0.addMark .d) = true ∧ (run ctx0).loadReady false ctx0 .global [] = true ∧
    (∃ leaf, mapOne (run ctx0) ((run ctx0).threadByte false) 0 .none 0x8000 = .ok leaf ∧
      ((((run ctx0).meets (leaf.phys 0x8000)).isNone) && !(run ctx0).loadWaits ctx0 .global (span (leaf.phys 0x8000) 128)) = true) :=
  ⟨ok_of (by decide +kernel), fun i h => issues_run (by revert i; decide) ⟨rfl, rfl, rfl, rfl⟩, rfl,
    ⟨⟨0x8000, 0x1000, 0, 0, .normal, .code, 0, 0⟩, is_ok (by decide +kernel), rfl, is_ok (by decide +kernel), by decide +kernel⟩, by decide +kernel, by decide +kernel,
    ok_and (by decide +kernel)⟩

/-- x5 = span 0 to 2, x6 = span 3 to 4. -/
def syncCtx : Context := { ctx0 with x := (ctx0.x.set 5 0x200000000).set 6 0x100000003 }

/-- AtomicsAreSent, ObjectUpdatesAreSent: global and sync addresses that pass, objects through slot 2, queues with room. -/
theorem witness_sync_sends :
    (∃ m, checkAtomic (run syncCtx) ((run syncCtx).threadByte false) ((run syncCtx).access 7) 2 2 0xFF8 8 = .ok m) ∧
    (∃ m, checkAtomic (run syncCtx) ((run syncCtx).threadByte false) ((run syncCtx).access 7) 0 0 0xFFC 4 = .ok m) ∧
    (run syncCtx).bothReady syncCtx = true ∧ checkObject (run syncCtx) syncCtx 2 0 = .ok 0 ∧ checkObject (run syncCtx) syncCtx 2 32 = .ok 32 ∧
    (∀ i ∈ [Instr.aswp 0 5 2 0 1, .aadd 0 5 2 0 1, .aand 0 5 2 0 1, .aor 0 5 2 0 1, .axor 0 5 2 0 1, .amin 0 5 2 0 1, .amax 0 5 2 0 1,
      .aminn 0 5 2 0 1, .amaxn 0 5 2 0 1, .acas 0 30 2 0 1, .afadd 0 5 2 0 0, .barrive 0 1 2 0, .rres 0 1 2 0, .rtake 0 1 2 0,
      .rpost 0 6 2 0, .rfree 0 6 2 0], Issues i (run syncCtx) syncCtx) ∧
    bits (syncCtx.read 1) 62 32 = 0 ∧ 0 < (syncCtx.read 1).toNat ∧ (syncCtx.read 1).toNat < 2 ^ 16 ∧
    bits (syncCtx.read 6) 63 48 = 0 ∧ bits (syncCtx.read 6) 47 32 ≠ 0 ∧ (run syncCtx).storeMayGo false (syncCtx.addMark .p) = true ∧
    (run syncCtx).spanBehind 0 32 false ((syncCtx.read 6).truncate 32) = false ∧
    (run syncCtx).spanBehind 0 32 true ((syncCtx.read 6).truncate 32) = false ∧ ((run syncCtx).takeEntry 0 32).isSome = true ∧
    (run syncCtx).storeMayGo false (syncCtx.addMark .s) = true :=
  ⟨ok_of (by decide +kernel), ok_of (by decide +kernel), by decide +kernel, is_ok (by decide +kernel), is_ok (by decide +kernel),
    fun i h => issues_run (by revert i; decide) ⟨rfl, rfl, rfl, rfl⟩, by decide +kernel⟩

/-- ObjectTestsAnswer: a barrier whose phase is met, a ring whose span is filled and freed. -/
theorem witness_sync_tests :
    (run syncCtx).readReady syncCtx 0 = true ∧ (run syncCtx).readReady syncCtx 32 = true ∧
    (∃ o, (run syncCtx).barrierFor 0 0 = some o ∧ upTo ((syncCtx.read 0).truncate 32) (.ofNat 32 o.phase) = true) ∧
    (∃ r, (run syncCtx).ring 0 32 = some r ∧ r.filled ((syncCtx.read 5).truncate 32 + .ofNat 32 (bits (syncCtx.read 5) 47 32)) = true ∧
      r.freed ((syncCtx.read 5).truncate 32 + .ofNat 32 (bits (syncCtx.read 5) 47 32)) = true) ∧
    (∀ i ∈ [Instr.btest 0 0 2 0, .bwait 0 0 2 0, .rtfill 0 5 2 0, .rtfree 0 5 2 0, .rwfill 0 5 2 0, .rwfree 0 5 2 0],
      Issues i (run syncCtx) syncCtx) :=
  ⟨by decide +kernel, by decide +kernel, ⟨⟨false, false, false, false, 0, 0, 2, 0, 0, 0, 0, 0⟩, by decide +kernel⟩,
    ⟨⟨4, 3, 5, 0, 0⟩, by decide +kernel⟩,
    fun i h => issues_run (by revert i; decide) ⟨rfl, rfl, rfl, rfl⟩⟩

theorem owned {c : Context} : (run c).core.owner = some 0 := by
  show (if bit (ownerWord 0) 14 = true then some (bits (ownerWord 0) 13 0) else none) = some 0
  decide

/-- A context with a control word. -/
def vctx (o0 o1 : Dword) : Context := { ctx0 with o := ((Vector.replicate 8 0#64).set 0 o0).set 1 o1 }

/-- A control word that the bench's context holds and that an instruction accepts. -/
theorem controls_run {u : Uses} {g : Governs} {pg : BitVec 3} {n : Nat} {names : List (BitVec 5)} {ok okO0 : Ctl → Bool} (o0 o1 : Dword)
    (t : NumType) (h : reservedCtl o1 = false ∧ g.bad (bits o1 13 12) pg = false ∧
      (if u = .nothing then t = .int false 8 else laneType (vctx o0 o1) o1 = some t) ∧
      (⟨o0, o1, t, pg, n⟩ : Ctl).accepts u ok = true ∧ okO0 ⟨o0, o1, t, pg, n⟩ = true) :
    Controls u g pg n names ok okO0 ⟨o0, o1, t, pg, n⟩ (run (vctx o0 o1)) (vctx o0 o1) :=
  ⟨rfl, rfl, rfl, rfl, h.1, h.2.1, h.2.2.1, h.2.2.2.1, h.2.2.2.2, fun _ => ⟨rfl, rfl, .inr owned⟩⟩

/-- LEN 16 and f32 lanes; LEN 64 and u8 lanes; the same with MZ and predicate 3. -/
def f32Word : Dword := 0x10000009
def u8Word : Dword := 0x40000007
def maskedWord : Dword := 0x10002009

/-- VectorArithmeticLanes: a control word each acceptance condition accepts, and forms whose fields are good at the last register. -/
theorem witness_vector_arithmetic :
    Controls .lanes .byMode 0 8 [24, 0, 8] rmOk anyOk ⟨0, f32Word, .flt f32, 0, 8⟩ (run (vctx 0 f32Word)) (vctx 0 f32Word) ∧
    Controls .lanes .byMode 3 1 [31, 0, 8] fltOk anyOk ⟨0, maskedWord, .flt f32, 3, 1⟩ (run (vctx 0 maskedWord)) (vctx 0 maskedWord) ∧
    Controls .lanes .byMode 0 1 [31, 0] (fun k => onlyF32 k && decide (k.rm ≤ 4)) anyOk ⟨0, f32Word, .flt f32, 0, 1⟩ (run (vctx 0 f32Word))
      (vctx 0 f32Word) ∧
    Controls .lanes .byMode 0 1 [31, 0, 8] intOk anyOk ⟨0, u8Word, .int false 8, 0, 1⟩ (run (vctx 0 u8Word)) (vctx 0 u8Word) ∧
    (∀ i ∈ [Instr.vadd 0 24 0 8 0 3, .vsub 0 31 0 8 0 0, .vmul 0 31 0 8 0 0, .vfma 0 31 0 8 3 0, .vmin 0 31 0 8 0 0, .vmax 0 31 0 8 0 0,
      .vdiv 0 31 0 8 0 0, .vsqrt 0 31 0 0 0, .vexp2 0 31 0 0 0, .vneg 0 31 0 0 0, .vabs 0 31 0 0 0, .vmulh 0 31 0 8 0 0, .vand 0 31 0 8 0 0,
      .vor 0 31 0 8 0 0, .vxor 0 31 0 8 0 0, .vandn 0 31 0 8 0 0, .vshl 0 31 0 8 0 0, .vshr 0 31 0 8 0 0, .vsra 0 31 0 8 0 0,
      .vclz 0 31 0 0 0, .vpopc 0 31 0 0 0], ∀ o1, Issues i (run (vctx 0 o1)) (vctx 0 o1)) :=
  ⟨controls_run _ _ _ (by decide), controls_run _ _ _ (by decide), controls_run _ _ _ (by decide), controls_run _ _ _ (by decide),
    fun i h _ => issues_run (by revert i; decide) ⟨rfl, rfl, rfl, rfl⟩⟩

/-- VectorPredicates: compares of any type and of floating lanes, selection, and predicate logic. -/
theorem witness_vector_predicates :
    Controls .lanes .byMode 0 4 [0, 8] anyOk anyOk ⟨0, f32Word, .flt f32, 0, 4⟩ (run (vctx 0 f32Word)) (vctx 0 f32Word) ∧
    Controls .lanes .byMode 0 1 [0, 8] (fun k => k.t.isFloat) anyOk ⟨0, f32Word, .flt f32, 0, 1⟩ (run (vctx 0 f32Word)) (vctx 0 f32Word) ∧
    Controls .len .always 7 1 [31, 0, 8] anyOk anyOk ⟨0, f32Word, .flt f32, 7, 1⟩ (run (vctx 0 f32Word)) (vctx 0 f32Word) ∧
    Controls .len .always 0 1 [] anyOk anyOk ⟨0, u8Word, .int false 8, 0, 1⟩ (run (vctx 0 u8Word)) (vctx 0 u8Word) ∧
    (∀ i ∈ [Instr.vceq 0 4 0 8 0 2, .vclt 0 7 0 8 0 0, .vcle 0 7 0 8 0 0, .vcun 0 7 0 8 0 0, .vsel 0 31 0 8 7 0, .pand 0 7 0 1, .por 0 7 0 1,
      .pxor 0 7 0 1, .pandn 0 7 0 1, .pnor 0 7 0 1, .pnand 0 7 0 1, .pnot 0 7 0, .pfill 0 7, .vpcnt 0 31 7, .vplo 0 31 7, .vphi 0 31 7],
      ∀ o1, Issues i (run (vctx 0 o1)) (vctx 0 o1)) :=
  ⟨controls_run _ _ _ (by decide), controls_run _ _ _ (by decide), controls_run _ _ _ (by decide), controls_run _ _ _ (by decide),
    fun i h _ => issues_run (by revert i; decide) ⟨rfl, rfl, rfl, rfl⟩⟩

/-- VectorMovesAndReductions: each acceptance condition, with o0 at the last value its limit allows. -/
theorem witness_vector_moves :
    Controls .lanes .byMode 0 1 [31, 0] (fun k => k.source.isSome && decide (k.rm ≤ 4)) anyOk ⟨0, 0x100000D9, .flt f32, 0, 1⟩
      (run (vctx 0 0x100000D9)) (vctx 0 0x100000D9) ∧
    Controls .vt .never 0 1 [0] anyOk (fun k => decide (k.o0.toNat < k.lanes)) ⟨511, u8Word, .int false 8, 0, 1⟩ (run (vctx 511 u8Word))
      (vctx 511 u8Word) ∧
    Controls .lanes .byMode 0 1 [31, 0, 8] anyOk (fun k => decide (k.o0.toNat ≤ k.lanes)) ⟨512, u8Word, .int false 8, 0, 1⟩
      (run (vctx 512 u8Word)) (vctx 512 u8Word) ∧
    Controls .lanes .byMode 0 1 [31, 0] (redOk 6) anyOk ⟨0, 0x10600009, .flt f32, 0, 1⟩ (run (vctx 0 0x10600009)) (vctx 0 0x10600009) ∧
    Controls .lanes .byMode 0 1 [31, 0, 8] (fun k => redOk 5 k && !k.bx) (fun k => decide (k.o0.toNat < 8)) ⟨7, 0x10500009, .flt f32, 0, 1⟩
      (run (vctx 7 0x10500009)) (vctx 7 0x10500009) ∧
    Controls .lanes .byMode 0 1 [31, 0] onlyF32 (fun k => bits k.o0 63 48 == 0) ⟨0xFFFFFFFFFFFF, f32Word, .flt f32, 0, 1⟩
      (run (vctx 0xFFFFFFFFFFFF f32Word)) (vctx 0xFFFFFFFFFFFF f32Word) ∧
    Controls .lanes .byMode 0 1 [31, 0] (fun k => onlyF32 k && decide (k.fn ≤ 1)) quantL8Operand ⟨7, f32Word, .flt f32, 0, 1⟩
      (run (vctx 7 f32Word)) (vctx 7 f32Word) ∧
    Controls .nothing .never 0 1 [0, 8] (fun k => k.block.isSome) dotOperand ⟨256, 0x500000000000, .int false 8, 0, 1⟩
      (run (vctx 256 0x500000000000)) (vctx 256 0x500000000000) ∧
    Controls .nothing .always 0 1 [] anyOk anyOk ⟨0, f32Word, .int false 8, 0, 1⟩ (run (vctx 0 f32Word)) (vctx 0 f32Word) ∧
    (∀ i ∈ [Instr.vcvt 0 31 0 0 0, .vmov 0 31 0 0 0, .vbcast 0 31 0 0, .viota 0 31 0 0, .vmovx 0 31 0 0, .vperm 0 31 0 8 0 0,
      .vslide 0 31 0 8 0 0, .vcompress 0 31 0 0, .vexpand 0 31 0 0, .vred 0 31 0 0 0, .vscan 0 31 0 0 0, .vmatch 0 31 0 8 0,
      .vqn4 0 31 0 0, .vqe8 0 31 0 0, .vdotb 0 31 0 8 0, .vfence 0], ∀ o0 o1, Issues i (run (vctx o0 o1)) (vctx o0 o1)) :=
  ⟨controls_run _ _ _ (by decide), controls_run _ _ _ (by decide), controls_run _ _ _ (by decide), controls_run _ _ _ (by decide),
    controls_run _ _ _ (by decide), controls_run _ _ _ (by decide), controls_run _ _ _ (by decide), controls_run _ _ _ (by decide),
    controls_run _ _ _ (by decide), fun i h _ _ => issues_run (by revert i; decide) ⟨rfl, rfl, rfl, rfl⟩⟩

/-- LanewiseRowsWritten: eight repetitions of 128 f32 lanes, to the last register name. -/
theorem witness_lanewise :
    (let k : Ctl := ⟨0, f32Word, .flt f32, 0, 8⟩
     k.lanes * k.w = 512 ∧ k.lanes ≤ 512 ∧ 24 + k.reps ≤ 32 ∧ k.used ≤ k.lanes) ∧ Memory.wf (run ctx0).core.acc = true := by decide +kernel

/-- LEN 2, f32 lanes: raw in the scratchpad through slot 1, and E4M3 elements through slot 3; u32 lanes for `vstop`. -/
def rawWord : Dword := 0x02010009
def elemWord : Dword := 0x02030029
def stopWord : Dword := 0x02010003
def rawCtl : Ctl := ⟨0, rawWord, .flt f32, 0, 1⟩
def elemCtl : Ctl := ⟨0, elemWord, .flt f32, 0, 1⟩
def scratchHandle : Handle := ⟨0, 0x1000, 0, 0, .normal, .scratch, 0, 0⟩
def rawCtx : Context := vctx 0 rawWord
def elemCtx : Context := vctx 0 elemWord

/-- VectorMemoryCompletes, raw forms: the handle, the checks, the queues' room. -/
theorem witness_vector_memory_raw :
    (∀ i ∈ [Instr.vld 0 31 0 0, .vst 0 31 0 0, .vldg 0 31 8 0, .vstg 0 31 8 0], Issues i (run rawCtx) rawCtx) ∧
    Controls .lanes .byMode 0 1 [31] (memoryOk false) (fun _ => true) rawCtl (run rawCtx) rawCtx ∧
    Controls .lanes .byMode 0 1 [31] (memoryOk true) (fun _ => true) rawCtl (run rawCtx) rawCtx ∧
    rawCtl.handle (run rawCtx) rawCtx 0 = .ok scratchHandle ∧ rawCtl.st = 0 ∧
    (∃ q, checkRawRuns rawCtl (run rawCtx) rawCtx scratchHandle .read = .ok q ∧
      vectorReady (run rawCtx) rawCtx false 1 .scratch q.1.flatten = true) ∧
    (∃ q, checkRawRuns rawCtl (run rawCtx) rawCtx scratchHandle .write = .ok q ∧
      vectorReady (run rawCtx) rawCtx true 1 .scratch q.1.flatten = true) ∧
    (∃ q, checkRawLanes rawCtl (run rawCtx) rawCtx scratchHandle .read ((rawCtl.gathered (run rawCtx) rawCtx 8).map (·.2)) = .ok q ∧
      vectorReady (run rawCtx) rawCtx false 1 .scratch q.1.flatten = true) ∧
    (∃ q, checkRawLanes rawCtl (run rawCtx) rawCtx scratchHandle .write ((rawCtl.gathered (run rawCtx) rawCtx 8).map (·.2)) = .ok q ∧
      vectorReady (run rawCtx) rawCtx true 1 .scratch q.1.flatten = true) ∧
    firstOffset rawCtl (rawCtl.gathered (run rawCtx) rawCtx 8) = 0 :=
  ⟨fun i h => issues_run (by revert i; decide) ⟨rfl, rfl, rfl, rfl⟩, controls_run _ _ _ (by decide), controls_run _ _ _ (by decide),
    is_ok (by decide +kernel), by decide, ok_and (by decide +kernel), ok_and (by decide +kernel), ok_and (by decide +kernel),
    ok_and (by decide +kernel), by decide +kernel⟩

/-- VectorMemoryCompletes, decoding forms. -/
theorem witness_vector_memory_elems :
    (∀ i ∈ [Instr.vld 0 31 0 0, .vst 0 31 0 0, .vldg 0 31 8 0, .vstg 0 31 8 0], Issues i (run elemCtx) elemCtx) ∧
    Controls .lanes .byMode 0 1 [31] (memoryOk false) (fun _ => true) elemCtl (run elemCtx) elemCtx ∧
    Controls .lanes .byMode 0 1 [31] (memoryOk true) (fun _ => true) elemCtl (run elemCtx) elemCtx ∧
    elemCtl.handle (run elemCtx) elemCtx 0 = .ok elemHandle ∧ elemCtl.st ≠ 0 ∧
    (∃ e, checkVectorElems elemCtl (run elemCtx) elemCtx elemHandle 0 false (fun pf => (((List.range 1).flatMap fun i =>
        (elemCtl.elemsOf i (List.range elemCtl.used)).map (·.2)).filter fun i => !elemHandle.past i).flatMap pf.bytesOf) = .ok e ∧
      vectorReady (run elemCtx) elemCtx false 1 .global (e.addrs.map (·.2)) = true) ∧
    (∃ e, checkVectorElems elemCtl (run elemCtx) elemCtx elemHandle 0 true (fun pf => ((List.range 1).map fun i =>
        elemCtl.elemsOf i (elemCtl.actives elemCtx)).flatMap fun r => (pf.reached 64 (r.map (·.2))).flatMap pf.bytesOf) = .ok e ∧
      (run elemCtx).editReady false elemCtx (e.addrs.map (·.2)) = true) ∧
    (∃ e, checkLaneElems elemCtl (run elemCtx) elemCtx elemHandle false [0, 0] = .ok e ∧
      vectorReady (run elemCtx) elemCtx false 1 .global (e.addrs.map (·.2)) = true) ∧
    (∃ e, checkLaneElems elemCtl (run elemCtx) elemCtx elemHandle true [0, 0] = .ok e ∧
      (run elemCtx).editReady false elemCtx (e.addrs.map (·.2)) = true) ∧
    elemCtl.gathered (run elemCtx) elemCtx 8 = [(0, 0), (1, 0)] :=
  ⟨fun i h => issues_run (by revert i; decide) ⟨rfl, rfl, rfl, rfl⟩, controls_run _ _ _ (by decide), controls_run _ _ _ (by decide),
    is_ok (by decide +kernel), by decide, ok_and (by decide +kernel), ok_and (by decide +kernel), ok_and (by decide +kernel),
    ok_and (by decide +kernel), by decide +kernel⟩

/-- StopTestsTokens: a partition with a context in the Lamplighter, two lanes whose entries lie in the scratchpad. -/
theorem witness_stop :
    (let s := run (vctx 0 stopWord)
     let t : State := { s with eng := { s.eng with ll := [⟨0, 0, false, [], [], none, false, 0, none⟩] } }
     let c := vctx 0 stopWord
     let k : Ctl := ⟨0, stopWord, .int false 32, 0, 1⟩
     t.serving (t.partOf c.launch) = true ∧ Controls .lanes .byMode 0 1 [0, 8] (fun k => k.t = .int false 32) (fun _ => true) k t c ∧
     k.handle t c 0 = .ok scratchHandle ∧ (stopLanes k t c 0 8).length = 2 ∧
     ∃ q, checkStops k t c scratchHandle (stopLanes k t c 0 8) = .ok q ∧ vectorReady t c false 1 .scratch q.1.flatten = true) ∧
    Issues (.vstop 0 7 0 8 0) (run (vctx 0 stopWord)) (vctx 0 stopWord) :=
  ⟨⟨by decide +kernel, ⟨rfl, rfl, rfl, rfl, by decide, by decide, by decide, by decide, rfl, fun _ => ⟨rfl, rfl, .inr owned⟩⟩,
    is_ok (by decide +kernel), by decide +kernel, ok_and (by decide +kernel)⟩, issues_run rfl ⟨rfl, rfl, rfl, rfl⟩⟩

/-- The accumulator with no owner; with context 0's contents saved in its area, whose second dword says so. -/
def unowned : State := { run ctx0 with core := { (run ctx0).core with acown := 0 } }
def savedOnce : State :=
  let s := bench [(0x8009, 0x40)] [] ctx0
  { s with core := { s.core with acown := 0 }, parts := s.parts.set 0 { s.part 0 with asbase := 0x8000 } }

/-- AccumulatorFirstTouch: its own, another's, none, and none with contents saved. -/
theorem witness_first_touch :
    (run ctx0).moving = false ∧ ctx0.prv.cur ≠ .machine ∧ (run ctx0).core.owner = some ctx0.ctxid.toNat ∧
    ({ run ctx0 with core := { (run ctx0).core with acown := ownerWord 3 } } : State).core.owner = some 3 ∧ unowned.core.owner = none ∧
    deviceDword unowned 0 0x2000008 = .ok 0x1000 ∧ savedOnce.core.owner = none ∧ deviceDword savedOnce 0 0x8008 = .ok 0x4000 :=
  ⟨rfl, by decide, owned, by decide +kernel, by decide +kernel, is_ok (by decide +kernel), by decide +kernel, is_ok (by decide +kernel)⟩

/-! Engine words: a command at the head, with its context's stack. -/

def issuer (l : Level) : Issuer := ⟨0, false, 0, 7, none, 0, l, ctx0.h, 9⟩
def cmd (e : Nat) (l : Level) : Cmd := ⟨e, issuer l, none, [0], 0, 0, true, none, 0, []⟩
def engine (e : Nat) (l : Level) (st : List Dword) : State :=
  { bench [] engineData ctx0 with eng := { (run ctx0).eng with
    cmds := [cmd e l], ctxs := [⟨e, 0, st, 0, [], 0⟩], ll := [⟨0, 0, false, [], [], none, false, 0, none⟩] } }

theorem word_runs {e : Nat} {l : Level} {st : List Dword} (h : st.length ≤ 8) (hb : (engine e l st).heldBack (cmd e l) = false)
    (hs : ((engine e l st).engCtx e 0).stack = st) : WordRuns (engine e l st) (cmd e l) st := ⟨rfl, hb, hs.symm, h⟩

/-- CommonWordsCompute, CommandsEndAtFaults, MatrixSettersWriteShadow: nothing stands before a word of engine 0, with a stack of any
depth; the first and the last argument each range refuses. -/
theorem witness_common_words :
    (∀ n ≤ 8, WordRuns (engine 0 .task (List.replicate n 3)) (cmd 0 .task) (List.replicate n 3)) ∧
    (63 : BitVec 8).toNat < 64 ∧ 64 ≤ (64 : BitVec 8).toNat ∧ (7 : BitVec 8).toNat < 8 ∧ 8 ≤ (8 : BitVec 8).toNat ∧
    (0x0100 + 1 < 0x1000 ∧ (0x0100 + 1) / 256 ∉ [0x06, 0x0A, 0x0D] ∧ (0x0100 + 1) % 256 ≠ 0) ∧ (0x0E00 < 0x1000 ∧ 0x0E ≤ 0x0E00 / 256) ∧
    ((0x40 : BitVec 8).toNat < 128 ∧ reservedField 0x40 = false) ∧ (5 : BitVec 3).toNat < 6 ∧ (4 : BitVec 3).toNat ∈ [2, 3, 4] ∧
    ((127 : Dword).toNat < 128 ∧ (1023 : Dword).toNat < 1024) := by
  refine ⟨fun n hn => word_runs ?_ rfl ?_, by decide +kernel⟩
  · simpa using hn
  · rfl

/-- CommandsEndAtFaults: a command that brings a ninth entry. -/
theorem witness_full_stack :
    (let k : Cmd := { cmd 0 .task with param := some 7 }
     let s : State := { engine 0 .task (List.replicate 8 3) with eng := { (engine 0 .task (List.replicate 8 3)).eng with cmds := [k] } }
     s.eng.cmds.head? = some k ∧ s.heldBack k = false ∧ k.param = some 7 ∧ 8 ≤ (s.engCtx k.eng k.iss.ctx).stack.length) := by decide +kernel

/-- MatrixOperationsLaunch: a set that `mgo` accepts, the last rows of `mzero` and `mstat`, and the housekeeping words at both levels. -/
theorem witness_matrix_operations :
    (∀ st ∈ [[], [16, 0, 8, 120], [127]], WordRuns (engine 0 .task st) (cmd 0 .task) st) ∧
    AccType.ofCode 9 = some (.flt f32) ∧ Fields.reset.ok (.flt f32) = true ∧ Fields.reset.sideOk (.flt f32) = true ∧
    ((8 : Dword) ≠ 0 ∧ (16 : Dword) ≠ 0 ∧ (120 : Dword).toNat + (8 : Dword).toNat ≤ 128 ∧
      (0 : Dword).toNat + (16 : Dword).toNat ≤ 512 / AccType.bytes (.flt f32)) ∧ (127 : Dword).toNat < 128 ∧
    WordRuns (engine 0 .machine []) (cmd 0 .machine) [] ∧ (cmd 0 .machine).iss.level = .machine ∧ (cmd 0 .task).iss.level ≠ .machine :=
  ⟨fun st h => word_runs (by revert st; decide) rfl rfl, by decide, by decide +kernel, by decide +kernel, by decide, by decide,
    word_runs (by decide) rfl rfl, rfl, by decide⟩

/-- One memory row of 32 bytes to tile row 0. -/
def fetchGeo : Dword := 0x3E000000

/-- TileFetchWordsLaunch: a geometry `fget` and `fwarm` accept and a check that passes. -/
theorem witness_tile_fetch :
    (FetchGeo.parse fetchGeo).ok true = true ∧ (FetchGeo.parse fetchGeo).ok false = true ∧
    (∃ p, checkFetch (engine 1 .task [0, fetchGeo]) (issuer .task) 0 0 (FetchGeo.parse fetchGeo) = .ok p) ∧
    (∀ st ∈ [[0, fetchGeo], [0, fetchGeo, 1], [0, fetchGeo, 1, 32], [1], []], WordRuns (engine 1 .task st) (cmd 1 .task) st) ∧
    (bits (32 : Dword) 4 0 = 0 ∧ bits (32 : Dword) 63 26 = 0) :=
  ⟨by decide, by decide, ok_of (by decide +kernel), fun st h => word_runs (by revert st; decide) rfl rfl, by decide⟩

/-- AdapterWordsLaunch: a descriptor, a record, and the operands at the ends of their ranges. -/
theorem witness_adapter_words :
    (∃ d, (engine 2 .task []).adapterDesc 0 = .ok d ∧ decide ((0x1000 : Dword).toNat < d.count) = true) ∧
    ((engine 2 .task []).part 0).adesc ≠ 0 ∧ (∃ r, checkRecord (engine 2 .task []) (issuer .task) 0 0 (32 + 2 * 1) = .ok r) ∧
    barOperand 0x41 = some (some 64) ∧ barOperand 0 = some none ∧
    (∀ st ∈ [[0, 0, 0, 256, 0x41], [0, 0, 256, 0x41], [0, 0, 0xFFFFFFFF, 0], [0, 0, 1, 1, 0, 0], [0, 0, 1, 0]],
      WordRuns (engine 2 .task st) (cmd 2 .task) st) ∧
    (256 : Dword).toNat ≤ 256 ∧ (0xFFFFFFFF : Dword).toNat < 2 ^ 32 ∧ (1 : Dword) ≠ 0 :=
  ⟨ok_and (by decide +kernel), by decide +kernel, ok_of (by decide +kernel), by decide, by decide,
    fun st h => word_runs (by revert st; decide) rfl rfl, by decide +kernel⟩

/-- WickWordsAct: a record, a local nest that parses, a permit, and a drainable launch. -/
theorem witness_wick_words :
    (∃ r, checkRecord (engine 3 .task []) (issuer .task) 0 32 32 = .ok r ∧
      (!(engine 3 .task []).spotWaits (Spot.of r.handle.space (r.handle.base + 32) r.leaves) 0 32) = true) ∧
    (∃ x, readLocalNest (engine 3 .task []) (issuer .task) 0 0 = .ok x ∧
      (match Nest.parse x.1 x.2.1 with | some n => n.total != 0 | none => false) = true) ∧
    (∀ st ∈ [[32, 64, 0], [32, 0], [0, 0x41], []], WordRuns (engine 3 .task st) (cmd 3 .task) st) ∧
    ((engine 3 .task []).slotOf 0 = some false ∧ (engine 3 .task []).ctx false = some ctx0 ∧ ctx0.permit = true) ∧
    (cmd 3 .supervisor).iss.level ≠ .task ∧ WordRuns (engine 3 .supervisor []) (cmd 3 .supervisor) [] ∧
    ({ benchLaunch with res := { benchRes with preempt := true }, walk := some (.start ⟨0, 0, .lex, 1, 0, 0, [1]⟩ 0 []) } : Launch).drainable
      = true :=
  ⟨ok_and (by decide +kernel), ok_and (by decide +kernel), fun st h => word_runs (by revert st; decide) rfl rfl,
    ⟨by decide +kernel, rfl, rfl⟩, by decide, word_runs (by decide) rfl rfl, by decide⟩

/-- SyncWordsLaunch: a barrier, a reduction of two words from the scratchpad, an addition to a sync word. -/
theorem witness_sync_words :
    barOperand 0x41 = some (some 64) ∧ redWidth 3 = some 4 ∧
    (∃ x, checkReduce (engine 4 .task [0, 1, 0, 2, 0]) (issuer .task) 0 0 1 0 2 4 = .ok x) ∧
    (∃ t, (engine 4 .task [0, 1, 0, 2, 0]).takeRanges [⟨0, 8, false, 4, 0, 0⟩] = some t) ∧
    (∃ m, checkAtomic (engine 4 .task [0, 1]) (engine 4 .task [0, 1]).coherentByte ((engine 4 .task [0, 1]).accessOf (issuer .task)) 2 2 0 8
      = .ok m) ∧
    (∀ st ∈ [[0x41, 0xFFFFFFFF], [0, 1, 0, 2, 0], [0, 1]], WordRuns (engine 4 .task st) (cmd 4 .task) st) ∧
    (1 ≤ (2 : Dword).toNat ∧ (2 : Dword).toNat ≤ 2 ^ 20 ∧ (15 : Dword).toNat ≤ 15) :=
  ⟨by decide, by decide, ok_of (by decide +kernel), ⟨_, rfl⟩, ok_of (by decide +kernel),
    fun st h => word_runs (by revert st; decide) rfl rfl, by decide⟩

/-- CopyWordsLaunch: operands at the ends of their ranges, ranges of the scoreboard that are free, a module that can be reached. -/
theorem witness_copy_words :
    (∀ st ∈ [[0, 0, 0x40000000, 0], [0, 0, 0x10000, 0, 0x41], [0, 1, 0, 0], [0, 0, 0, 1, 0], [0, 0, 1, 32, 0], [0, 0, 1, 96, 0],
      [0, 0, 1, 0, 0]], WordRuns (engine 5 .task st) (cmd 5 .task) st) ∧
    (∃ t, (engine 5 .task [0, 0, 0x40000000, 0]).takeRanges
      (rangesOf (engine 5 .task [0, 0, 0x40000000, 0]) (cmd 5 .task) 0 (.copy 1 0 0 0 0x40000000)) = some t) ∧
    (1 ≤ (0x40000000 : Dword).toNat ∧ (0x40000000 : Dword).toNat ≤ 2 ^ 30) ∧
    (bits (0x3FF00100000 : Dword) 63 48 = 0 ∧ 1 ≤ bits (0x3FF00100000 : Dword) 31 0 ∧ bits (0x3FF00100000 : Dword) 31 0 ≤ 2 ^ 20 ∧
      (bits (0x3FF00100000 : Dword) 47 32 + 1) * bits (0x3FF00100000 : Dword) 31 0 ≤ 2 ^ 30) ∧
    (∃ x, listSpec 0 1 = some x) ∧ (∃ x, zspecOf 0x400000 = some x) ∧ (32 ≤ (32 : Dword).toNat ∧ 96 ≤ (96 : Dword).toNat) ∧
    remoteOk { engine 5 .task [] with fab := { (run ctx0).fab with mem := benchMem (codeLines []) [] } } 0 0x80000000000000 = true ∧
    (bits (0x40FFFFF : Dword) 63 27 = 0 ∧ bits (0x40FFFFF : Dword) 23 20 = 0 ∧ bits (0x40FFFFF : Dword) 26 24 ≤ 4) :=
  ⟨fun st h => word_runs (by revert st; decide) rfl rfl, Option.isSome_iff_exists.mp (by decide +kernel), by decide, by decide, ⟨_, rfl⟩, ⟨_, rfl⟩, by decide +kernel⟩

/-- LamplighterWordsAct: a partition with a context there, a step whose structures read, records that can be written. -/
theorem witness_lamplighter_words :
    (let s := engine 7 .task [0]
     s.lamp 0 = some ⟨0, 0, false, [], [], none, false, 0, none⟩ ∧
     (stepLamp 0 (issuer .task) 0 0 none (s.setEngCtx (s.engCtx 7 0).launchOp)).any s.wroteAll = true ∧ s.markAwaits 0 4095 = false ∧
     s.wroteAll (s.markSeq 0 4095 3 0) = true ∧ (∃ d, s.lampDesc 0 = .ok d) ∧
     (∃ bs, lampStat ⟨0, 0, false, [], [], none, false, 0, none⟩ s = .ok bs) ∧ (∃ bs, lampSeq ⟨0, 0, false, [], [], none, false, 0, none⟩ 4 s = .ok bs)) ∧
    (∃ r, checkRecord (engine 7 .task [0x100, 0]) (issuer .task) 0 0xFC0 64 = .ok r ∧
      (!(engine 7 .task []).spotWaits (Spot.of r.handle.space (r.handle.base + 0xFC0) r.leaves) 0 64) = true) ∧
    (∀ st ∈ [[0], [4095], [], [0xFC0, 0], [0xFC0, 4, 0]], WordRuns (engine 7 .task st) (cmd 7 .task) st) ∧
    (4095 : Dword).toNat < 4096 ∧ (3 : BitVec 3).toNat = 3 :=
  ⟨⟨by decide +kernel, by decide +kernel, by decide +kernel, by decide +kernel, ok_of (by decide +kernel), ok_of (by decide +kernel), ok_of (by decide +kernel)⟩,
    ok_and (by decide +kernel), fun st h => word_runs (by revert st; decide) rfl rfl, by decide +kernel⟩

/-! Events. -/

/-- The bench with its context changed and its slot's store queue set. -/
def storing (sp : Space) (bs : List (Nat × Byte)) : State :=
  { run ctx0 with core := { (run ctx0).core with sq0 := [⟨1, sp, .normal, bs, ⟨7, none, 0, 0⟩, none, true, []⟩] } }

/-- A context that waits in `bwait` for phase 0 of the barrier at 0, whose word stands at its pc. -/
def waitingCtx : Context := { ctx0 with waiting := some (.phase 0 0) }
def waitingState : State := coded [(0x8000, 0xA1), (0x8001, 0xBD), (0x8002, 0xB5), (0x8003, 0xAE)] waitingCtx

/-- A context with three sectors of its own line read. -/
def filling : Context := { ctx0 with fill := some ⟨0x8000, [3, 0, 1].map ((coded [] ctx0).fillSector 0x8000)⟩ }

/-- Code whose page's translation is held. -/
def translated : State :=
  let s := coded [] ctx0
  { s with fab := { s.fab with tlb := [⟨0, 0, 0x2000000, 0x17⟩] } }

/-- CoreEventsHappen: a result at its cycle, a load and an atomic to return, a store that may leave, a vector instruction under way, a sealed
line, a held cause at a boundary, a met wait before its own instruction. -/
theorem witness_core_events :
    (((⟨0, 5, 7⟩ : Pending).due ≤ ctx0.sched ∧ ctx0.interlocked [5] = false) ∧
    ((run ctx0).awaitsScrub (span 0x11000 8) = false ∧ (run ctx0).arrivingAt ctx0.ctxid.toNat (span 64 8) = false) ∧
    (translated.codeHeld 0 0x8000 = true ∧ translated.ctx false = some ctx0 ∧ translated.fetchCopy ctx0 0x8000 = none ∧ translated.meets 0x8000 = none ∧
      lineSeal (translated.fillData ctx0 0x8000) = 2 ∧ lineKind (translated.fillData ctx0 0x8000) < 2) ∧
    ((run ctx0).updateMayGo false ctx0 [] ⟨1, .scratch, .normal, span 8 8, 8, .atomic .add 1 0, 5, false⟩ = true) ∧
    (storing .scratch [(4, 1)]).mayLeave false ⟨1, .scratch, .normal, [(4, 1)], ⟨7, none, 0, 0⟩, none, true, []⟩ = true ∧
    ((run ctx0).populated 0x8000 = true ∧ inFrames 0x8000 = false ∧ (coded [] ctx0).fetchCopy ctx0 0x8000 = none ∧ (coded [] ctx0).meets 0x8000 = none ∧
      lineSeal ((coded [] ctx0).fillData ctx0 0x8000) = 2 ∧ lineKind ((coded [] ctx0).fillData ctx0 0x8000) < 2 ∧
      fillOrder[(ctx0.fillGot 0x8000).length + 1]? = some 0) ∧
    ((coded [] filling).fetchCopy filling 0x8000 = none ∧ lineSeal ((coded [] filling).fillData filling 0x8000) = 2 ∧
      lineKind ((coded [] filling).fillData filling 0x8000) < 2 ∧ fillOrder[(filling.fillGot 0x8000).length + 1]? = none) ∧
    (run ctx0).queuedTo 7 ≤ 16) ∧
    (ctx0.prv.emask = false ∧ ctx0.quiet = true) ∧
    (waitingState.waitMet waitingCtx = true ∧ (∃ r, fetchNext waitingState waitingCtx false = .ok r ∧
      (r.2.2.1 == 0xAEB5BDA1) = true) ∧ decodeSeq 0xAEB5BDA1 0 = .ok (.bwait 2 45 27 54)) := by
  refine ⟨by decide +kernel, ⟨rfl, by decide +kernel⟩, by decide +kernel, ok_and (by decide +kernel), rfl⟩

/-- A held cause at a boundary, and an `add` there that raises none. -/
def heldCtx : Context := { ctx0 with held := [⟨.poison, 0, 0x40, .task⟩] }
def heldState : State := coded [(0x8001, 0x11), (0x8002, 0x14), (0x8003, 0x01)] heldCtx

/-- CoreEventsHappen: what the delivery of a held cause asks of the instruction at the boundary. -/
theorem witness_delivery :
    (heldState.ctx false = some heldCtx ∧ heldState.core.active = false ∧ heldCtx.stopped = false ∧
      heldState.core.busyTill ≤ heldState.core.now ∧ heldCtx.prv.emask = false ∧ heldCtx.quiet = true) ∧
    (∀ t, exec (.add 0 5 1 4) t = issue (.add 0 5 1 4) anyLevel (fixedResult 5 1 (binary 1 4 fun a b => a + b)) t) ∧
    (∃ x, fetchNext heldState heldCtx false = .ok x ∧
      (decide ((decodeSeq x.2.2.1.toNat x.2.2.2.toNat).toOption = some (.add 0 5 1 4)) &&
       (match gate (.add 0 5 1 4) (Instr.add 0 5 1 4).form anyLevel (x.1.setCtx false (some x.2.1)) with
        | .go c => decide (c = x.2.1.atIssue (.add 0 5 1 4))
        | _ => false) &&
       (match (fixedResult 5 1 (binary 1 4 fun a b => a + b) (x.1.setCtx false (some x.2.1)) (x.2.1.atIssue (.add 0 5 1 4))).checked
          (Instr.add 0 5 1 4).form (Instr.settled (.add 0 5 1 4) (x.2.1.atIssue (.add 0 5 1 4))) with
        | .trap _ _ => false
        | _ => true)) = true) ∧
    ({ heldState with script := [.event .asyncEntry] } : State).script = .event .asyncEntry :: [] := by
  refine ⟨?_, fun _ => rfl, ok_and ?_, rfl⟩ <;> decide +kernel

def fetchOp (w : Bool) (st : FetchStage) : Fetch :=
  ⟨issuer .task, 0, fetchGeo, 0, 0x2001000, 0, 0, 0, 0, .normal, [(0x2000000, 0x10000, 0x10000)], none, none, w, st, false, [0x11000]⟩
def copyOp (started : Bool) : CpOp :=
  ⟨5, issuer .task, 0, .fill 1 0 4 0, none, started, none, if started then some ⟨0, 0x1000, 0, 0, .normal, .scratch, 0, 0⟩ else none, none,
    0, 0, 0, false, 0, false, none, [], 0, false, none⟩
def nest4 : Nest := ⟨0x8000, 0x2001000, .lex, 1, 0, 0, [4]⟩
def retireOne : Cmd := ⟨7, issuer .task, none, [0], 0, 0, false, some ⟨1, 5, 7, 0, 1⟩, 0, []⟩

/-- The bench with work in its engines. -/
def busyEngines (f : Fetch) (cp : CpOp) : State :=
  { run ctx0 with
    eng := { (run ctx0).eng with
      mx := { (run ctx0).eng.mx with ops := [⟨issuer .task, 0, .zero 0 1 0 1, 0, [], []⟩] }
      fetches := [f], sy := [⟨issuer .task, 0, .arv 0 false, some 0, 0, 0⟩], cp := [cp], cmds := [retireOne]
      adapt := [⟨issuer .task, 0, .unpin 1, 0, 0, none, ⟨.scratch, 0, []⟩⟩]
      ll := [⟨0, 0, false, [], [], none, false, 0, some ⟨issuer .task, 0, none, 0, [], 0, 64, false⟩⟩] }
    wick := { (run ctx0).wick with locals := [⟨9, 7, issuer .task, 0, none, .start nest4 4 [], false⟩] } }

/-- An operation ends, without a fault. -/
def endsWell (r : Option (State × Option (Cause × Dword) × Bool)) : Bool := r.any fun x => x.2.1.isNone

def fetchDone : Fetch := { fetchOp false .written with rel := some 0, dropped := true }

/-- EngineEventsHappen: an operation of each engine that may end, and a host port that may write. -/
theorem witness_engine_events :
    (let s := busyEngines (fetchOp false .waiting) (copyOp false)
     (s.moveAwaits ⟨issuer .task, 0, .zero 0 1 0 1, 0, [], []⟩ = false ∧ (checkCopy s (copyOp false).iss (copyOp false).kind).awaits = false ∧
     s.fetchAt 0 false .waiting = some (fetchOp false .waiting) ∧ s.pinning 0 < 16 ∧ adapterReady 0 s = true ∧
     s.copyOp 5 0 = some (copyOp false) ∧ s.fencedFor (copyOp false) = true) ∧
     (∃ w, s.localWalk 9 = some w ∧ w.walk.handed = w.walk.ended ∧ w.walk.allHanded = true) ∧
     (∃ op, s.syncOp 0 = some op ∧ (op.run op.size s).2.2 = .done) ∧
     (∃ l w, s.lamp 0 = some l ∧ l.waiting = some w ∧ stepMay s 0 w = true ∧ postAwaits 0 w s = false ∧ s.wroteAll (postEntry 0 w s) = true) ∧
     (s.lamp 0).isSome = true ∧
     (∃ h : HostPort, s.mgmt.hosts[0]? = some h ∧ h.fenced = false)) ∧
    (let s := busyEngines (fetchOp false .pinned) (copyOp true)
     s.fetchAt 0 false .pinned = some (fetchOp false .pinned) ∧ s.awaitsScrub (fetchOp false .pinned).lines = false ∧ ((fetchOp false .pinned).firstBad s).2 = none ∧
     endsWell (copyEnd (copyOp true) s) = true) ∧
    (let s := busyEngines fetchDone (copyOp true)
     (s.fetchNum 0 0).isSome = true) ∧
    (let s := busyEngines fetchDone (copyOp true)
     let t : State := { s with eng := { s.eng with ll := [] } }
     t.nextRetire = some (retireOne, ⟨1, 5, 7, 0, 1⟩) ∧
       t.wroteAll ((({ t with eng := { t.eng with cmds := t.eng.cmds.erase retireOne } } : State).markSeq 0 1 1 5).instantOp 7 0) = true) ∧
    (let s := busyEngines (fetchOp true .waiting) (copyOp true)
     s.fetchAt 0 true .waiting = some (fetchOp true .waiting) ∧ s.awaitsScrub (fetchOp true .waiting).lines = false ∧
       (fetchOp true .waiting).lines.all fun l => (s.bringFetched (fetchOp true .waiting)).fab.llc.any (·.line == l)) := by
  refine ⟨⟨by decide +kernel, ⟨⟨9, 7, issuer .task, 0, none, .start nest4 4 [], false⟩, by decide +kernel, rfl, by decide +kernel⟩,
    ⟨⟨issuer .task, 0, .arv 0 false, some 0, 0, 0⟩, by decide +kernel⟩,
    ⟨⟨0, 0, false, [], [], none, false, 0, some ⟨issuer .task, 0, none, 0, [], 0, 64, false⟩⟩, ⟨issuer .task, 0, none, 0, [], 0, 64, false⟩,
      by decide +kernel, rfl, by decide +kernel⟩, by decide +kernel, ⟨⟨false, 0, false, false⟩, by decide +kernel, rfl⟩⟩,
    by decide +kernel⟩

/-- A launch that the Wick walks, at its first of four tasks; one that drains with one left; one whose tasks have ended; a gang. -/
def walking : Launch := { benchLaunch with walk := some (.start nest4 0 []), res := { benchRes with preempt := true, slice := 1 } }
def drained : Launch := { walking with st := .draining, walk := some { Walk.start nest4 3 [] with draining := true } }
def ended : Launch := { benchLaunch with walk := some (.start nest4 4 []) }
def ganged : Launch := { benchLaunch with walk := some (.start nest4 0 []), gang := some 1, reserved := [1] }
def ofState (st : LaunchState) : Launch := { benchLaunch with st := st }

/-- The bench with other launches, slots, and a queue of the Wick. -/
def launching (ls : List Launch) (c0 : Option Context) (queue : List Task) : State :=
  { run ctx0 with
    core := { (run ctx0).core with slot0 := c0 }
    disp := { (run ctx0).disp with launches := ls, ending := [⟨7, none, 2, 5, false, 0⟩], saved := [⟨5, 7, none, 2, 0, false, [], 0⟩] }
    wick := { (run ctx0).wick with recs := [⟨0, 7, none, 3⟩], queue := queue } }

/-- A context stopped at a boundary, one asked to leave long ago. -/
def stoppedCtx : Context := { ctx0 with stopped := true }

/-- The bench with a stopped context and a save area in its page of data. -/
def saving : State := { run stoppedCtx with parts := (run stoppedCtx).parts.set 0 { (run stoppedCtx).part 0 with csbase := 0x2002000 } }

/-- The bench with a queue of its own partition in hardware slot 0, taken up to its tail. -/
def queued : State :=
  { launching [] none [] with disp := { (launching [] none []).disp with
      queues := [⟨0, 3, 5, 5, 5, 0, 0, 0, 4, 3, 0, false, [], false⟩], slots := [⟨0, 0, 3, 0⟩] } }

/-- The bench with such launches and no saved context. -/
def unsaved (ls : List Launch) : State := { launching ls none [] with disp := { (launching ls none []).disp with saved := [] } }

/-- LaunchesMoveOn: a queue to release, launches in the state each clause asks for, a task to start, one that has ended, one to count, a
request to leave and its expiry, a context to restore. -/
theorem witness_launches :
    (queued.disp.slots.find? (·.slot == 0) = some ⟨0, 0, 3, 0⟩ ∧ (queued.queue 0 3).isSome = true ∧ queued.queueLaunches 0 3 = [] ∧ queued.notifyAwaits 0 3 = false) ∧
    handOffReady (unsaved [walking]) = true ∧
    ((launching [ofState .waiting] none []).launch 7 = some (ofState .waiting) ∧ (ofState .waiting).deps = [] ∧
      (ofState .waiting).faulted = none ∧ (ofState .waiting).serial = false) ∧
    (let s := launching [ofState .ready] none []
     s.takeable (ofState .ready) = true ∧ ∀ m ∈ s.disp.launches, m.res.prio ≤ (ofState .ready).res.prio ∨ s.takeable m = false) ∧
    (let s := launching [walking] none []
     let t : State := { s with wick := { s.wick with recs := [] } }
     walking.st ≠ .ready ∧ t.mayJoin walking = true ∧ (t.claimRec 7 walking.res.prio).isSome = true) ∧
    (walking.gang = none ∧ walking.res.mask.getLsbD 255 = true ∧ (launching [walking] none []).barredCluster 0 255 = false ∧
      255 ≠ (run ctx0).cluster ∧ (launching [walking] none []).nextTask 7 none 255 = some 0) ∧
    (ended.walk = some (.start nest4 4 []) ∧ (Walk.start nest4 4 []).allHanded = true ∧ (Walk.start nest4 4 []).handed =
      (Walk.start nest4 4 []).ended ∧ ended.retired = false ∧
      ((launching [ended] none []).writeProgress ended).fab.waiting.length = (launching [ended] none []).fab.waiting.length) ∧
    drainReady 7 (launching [drained] none []) = true ∧ gangReady 7 (unsaved [ganged]) = true ∧
    (((launching [walking] none [⟨7, none, 0, [0]⟩]).startable false).isSome = true ∧
      ((launching [walking] none []).tryStore 0 ((launching [walking] none []).saveArea 0 1) (leBytes 24 0)).fab.waiting.length = 0 ∧
      waitsScrub ((launching [walking] none []).writeOwn 0 ((launching [walking] none []).saveArea 0 1) (leBytes 24 0)).2 = false) ∧
    (launching [walking] none []).endingTask 7 2 false = some ⟨7, none, 2, 5, false, 0⟩ ∧
    ((run ctx0).ctx false = some ctx0 ∧ ctx0.stopped = false ∧ ctx0.urgent = none ∧ walking.res.preempt = true) ∧
    (({ ctx0 with urgent := some 0 } : Context).urgent = some 0 ∧ 0 + 65536 ≤ (65536 : Nat)) ∧
    saving.savable false = true ∧
    ((launching [walking] none []).ctx false = none ∧ ((launching [walking] none []).disp.saved.any fun k =>
      (launching [walking] none []).mayHold k (launching [walking] none []).cluster && (launching [walking] none []).backHere false k) = true) := by
  refine ⟨by decide +kernel, by decide +kernel, ⟨by decide +kernel, rfl, rfl, rfl⟩,
    by decide +kernel, by decide +kernel, ⟨rfl, by decide +kernel⟩,
    ⟨rfl, by decide +kernel, by decide +kernel, rfl, by decide +kernel⟩,
    by decide +kernel, by decide +kernel, by decide +kernel, by decide +kernel, ⟨rfl, rfl, rfl, rfl⟩, ⟨rfl, by decide⟩,
    by decide +kernel, ⟨rfl, by decide +kernel⟩⟩

/-- Further bytes of a page already mapped. -/
theorem mapBytes_page (s : State) (rd : Nat → Byte) (part : Nat) (n : Need) (l : Leaf) :
    ∀ (vas : List Nat) (as : List Nat), (∀ v ∈ vas, l.page ≤ v ∧ v < l.page + l.size) →
    vas.foldlM (init := (as, [l])) (fun acc va =>
      match acc.2.find? fun l => l.page ≤ va ∧ va < l.page + l.size with
      | some l => (.ok (acc.1 ++ [l.phys va], acc.2) : Check (List Nat × List Leaf))
      | none => do
        let l ← mapOne s rd part n va
        .ok (acc.1 ++ [l.phys va], acc.2 ++ [l])) = .ok (as ++ vas.map l.phys, [l]) := by
  intro vas
  induction vas with
  | nil => intro as _; simp [pure, Except.pure]
  | cons v r ih =>
    intro as h
    have hv := h v List.mem_cons_self
    rw [List.foldlM_cons]
    simp only [List.find?_cons, hv, and_self, decide_true]
    exact (ih _ fun x hx => h x (List.mem_cons_of_mem _ hx)).trans (by simp)

/-- No address is fenced there. -/
theorem saving_fenced (a : Nat) : saving.fencedAt a = false := by
  unfold State.fencedAt
  dsimp only
  repeat' split
  all_goals rfl

/-- A write there leaves none waiting. -/
theorem saving_homeWrite (bs : List (Nat × Byte)) : (saving.homeWrite false bs).fab.waiting = [] := by
  have h : ∀ ws : List Nat, ws.foldl State.surrender saving = saving := by
    intro ws
    induction ws with
    | nil => rfl
    | cons w r ih => rw [List.foldl_cons]; exact ih
  have p : ∀ (ws : List (Nat × BitVec 4 × Word)) (s : State), (ws.foldl (fun s x => s.pass x.1 x.2.1) s).fab = s.fab := by
    intro ws
    induction ws with
    | nil => exact fun _ => rfl
    | cons w r ih => exact fun s => ih _
  unfold State.homeWrite
  simp only [h, p]
  split <;> rfl

/-- The leaf of its save area. -/
def savingLeaf : Leaf :=
  match mapOne saving saving.coherentByte 0 .write 0x2002000 with
  | .ok l => l
  | .error _ => ⟨0, 0, 0, []⟩

/-- LaunchesMoveOn: the save of a context whose writes do not wait. -/
theorem witness_save :
    ∃ s', saving.saveImage stoppedCtx = (s', none) ∧ s'.fab.waiting.length = saving.fab.waiting.length := by
  have hm : mapOne saving saving.coherentByte 0 .write 0x2002000 = .ok savingLeaf := is_ok (by decide +kernel)
  have hp : savingLeaf.page = 0x2000000 ∧ savingLeaf.size = 0x10000 := by decide +kernel
  have key : ∀ bs : List Byte, bs.length ≤ 0xE000 → ∃ s', saving.writeOwn 0 0x2002000 bs = (s', none) ∧ s'.fab.waiting.length = 0 := by
    intro bs hb
    have hmap : ∃ as ls, mapBytes saving saving.coherentByte 0 .write (span 0x2002000 bs.length) = .ok (as, ls) := by
      cases hn : bs.length with
      | zero => exact ⟨[], [], rfl⟩
      | succ n =>
        refine ⟨savingLeaf.phys 0x2002000 :: (span 0x2002001 n).map savingLeaf.phys, [savingLeaf], ?_⟩
        have hs : span 0x2002000 (n + 1) = 0x2002000 :: span 0x2002001 n := by
          simp [span, List.range_succ_eq_map, List.map_map, Function.comp_def]; intros; omega
        unfold mapBytes
        rw [hs, List.foldlM_cons]
        simp only [List.find?_nil, hm, bind, Except.bind]
        exact mapBytes_page _ _ _ _ savingLeaf _ _ fun v hv => by
          simp only [span, List.mem_map, List.mem_range] at hv
          obtain ⟨k, hk, rfl⟩ := hv
          omega
    obtain ⟨as, ls, hmap⟩ := hmap
    have hd : saving.dropsAt as = none := by
      unfold State.dropsAt
      rw [List.find?_eq_none.mpr fun a _ => by simp [saving_fenced a]]
      have : saving.badLines false (as.map fun a => (a, (0 : Byte))) = [] := List.filter_eq_nil_iff.mpr fun l _ => by
        show ¬ (([] : List Nat).contains l && _) = true
        simp
      dsimp only
      rw [this]
      rfl
    refine ⟨(saving.deviceWrite (some 0) false (as.zip bs)).holdLeaves 0 ls, ?_, ?_⟩
    · unfold State.writeOwn State.writeVa
      simp only [hmap, hd]
    · have hw : ((as.zip bs).any fun p => saving.writeWaits p.1) = false := by
        rw [List.any_eq_false]; intro p _; exact Bool.false_ne_true
      show ((saving.deviceWrite (some 0) false (as.zip bs)).fab.waiting).length = 0
      unfold State.deviceWrite
      rw [hw]
      simp [saving_homeWrite]
  have hi : saving.saveImage stoppedCtx = saving.writeOwn 0 0x2002000 (stoppedCtx.image ((List.range 8).map fun _ => [])) := by
    have h1 : saving.imageAt (saving.partOf stoppedCtx.launch) stoppedCtx.ctxid.toNat = 0x2002000 := by decide +kernel
    have h2 : saving.partOf stoppedCtx.launch = 0 := by decide +kernel
    have h3 : ((List.range 8).map fun e => (saving.engCtx e stoppedCtx.ctxid.toNat).stack) = (List.range 8).map fun _ => [] := by decide +kernel
    unfold State.saveImage
    dsimp only
    rw [h1, h2, h3]
  rw [hi]
  exact key _ (of_decide_eq_true (by decide +kernel))

/-- The machine that restores a context. -/
def restoring : State := launching [walking] none []

/-- The leaf of its save area. -/
def restoringLeaf : Leaf := (mapOne restoring restoring.coherentByte 0 .read 0x5000).toOption.getD ⟨0, 0, 0, []⟩

/-- LaunchesMoveOn: the image that a restore reads waits for no scrub. -/
theorem witness_restore :
    (deviceRead restoring restoring.coherentByte (restoring.partOf 7) (restoring.imageAt (restoring.partOf 7) 5) 4096).awaits = false := by
  have hm : mapOne restoring restoring.coherentByte 0 .read 0x5000 = .ok restoringLeaf := is_ok (by decide +kernel)
  have hp : restoringLeaf.page = 0 ∧ restoringLeaf.size = 0x2000000 := by decide +kernel
  have hat : restoring.partOf 7 = 0 ∧ restoring.imageAt 0 5 = 0x5000 := by decide +kernel
  have meets (a : Nat) : restoring.meets a = none := by
    unfold State.meets
    have hf : restoring.fencedAt a = false := by
      unfold State.fencedAt
      dsimp only
      repeat' split
      all_goals rfl
    rw [hf]
    rfl
  have key : ∀ n ≤ 0x1000, (deviceRead restoring restoring.coherentByte 0 0x5000 (n + 1)).awaits = false := by
    intro n hn
    have hmap : mapBytes restoring restoring.coherentByte 0 .read (span 0x5000 (n + 1)) =
        .ok (restoringLeaf.phys 0x5000 :: (span 0x5001 n).map restoringLeaf.phys, [restoringLeaf]) := by
      have hs : span 0x5000 (n + 1) = 0x5000 :: span 0x5001 n := by
        simp [span, List.range_succ_eq_map, List.map_map, Function.comp_def]; intros; omega
      unfold mapBytes
      rw [hs, List.foldlM_cons]
      simp only [List.find?_nil, hm, bind, Except.bind]
      exact mapBytes_page _ _ _ _ restoringLeaf _ _ fun v hv => by
        simp only [span, List.mem_map, List.mem_range] at hv
        obtain ⟨k, hk, rfl⟩ := hv
        omega
    have hr (ps : List (Nat × Nat)) : ps.findSome? (fun p => (restoring.meets p.1).map (·, BitVec.ofNat 64 p.2)) = none := by
      rw [List.findSome?_eq_none_iff]
      intro p _
      rw [meets]
      rfl
    simp only [deviceRead, mapReading, hmap, hr, bind, Except.bind, Check.awaits]
  rw [hat.1, hat.2]
  exact key 4095 (by decide)

/-- A word of the core's cache, with messages on their way; the next word is another core's. -/
def coherent (k : CacheWord) (ms : List Msg) : State :=
  { run ctx0 with
    fab := { (run ctx0).fab with dcache := [k], owners := [(0x4401, 3)] }
    inflight := ms
    sync := { (run ctx0).sync with pend := [⟨32, false, 3, 1, false, issuer .task, 1⟩] } }

def cachedAs (st : WordState) (held : Option Word) (regs : List Reg) : CacheWord := ⟨0x4400, st, none, held, regs, some ⟨7, none, 0, 0⟩⟩
def laterReg : Reg := ⟨2, 9, false, ⟨7, none, 0, 0⟩⟩
def registeredWord : CacheWord := cachedAs .r (some 5) []

/-- SharingEventsHappen: each message with the word in the state that awaits it. -/
theorem witness_sharing :
    ((Msg.arrive 0 0 false (.instr false 7 0)) ∈ (coherent registeredWord [.arrive 0 0 false (.instr false 7 0)]).inflight) ∧
    ((coherent registeredWord [.flip 32 0 3 false]).inflight.find?
      (fun x => match x with | .flip _ c p b => c == 0 && p == 3 && b == false | _ => false) = some (.flip 32 0 3 false)) ∧
    ((coherent registeredWord []).spanTurn ⟨32, false, 3, 1, false, issuer .task, 1⟩ = true ∧
      (({ coherent registeredWord [] with sync := { (coherent registeredWord []).sync with pend := [] } } : State).applySpan
        ⟨32, false, 3, 1, false, issuer .task, 1⟩).isSome = true) ∧
    (3 ≠ (run ctx0).core.id ∧ inFrames (4 * 0x4401) = false ∧ (run ctx0).writeWaits (4 * 0x4401) = false) ∧
    (inFrames (4 * 0x4400) = false ∧ (coherent (cachedAs .p none [⟨1, 5, false, ⟨7, none, 0, 0⟩⟩]) [.register 0x4400 1]).writeWaits (4 * 0x4400) = false) ∧
    ((coherent (cachedAs .p none [⟨1, 5, false, ⟨7, none, 0, 0⟩⟩]) [.register 0x4400 1]).nextMsg true 0x4400 = some (.register 0x4400 1) ∧
      (coherent (cachedAs .p none [⟨1, 5, false, ⟨7, none, 0, 0⟩⟩]) []).fab.copy 0x4400 = some (cachedAs .p none [⟨1, 5, false, ⟨7, none, 0, 0⟩⟩])) ∧
    ((0x4401, 3) ∈ (coherent registeredWord []).fab.owners ∧ (coherent registeredWord []).fab.latent.contains (lineOf (4 * 0x4401)) = false) ∧
    (coherent registeredWord []).fab.copy 0x4400 = some registeredWord ∧
    (coherent registeredWord [.forward 0x4400 3]).nextMsg false 0x4400 = some (.forward 0x4400 3) ∧
    (∀ k ∈ [registeredWord, cachedAs .w (some 5) [], cachedAs .p (some 5) [⟨1, 5, false, ⟨7, none, 0, 0⟩⟩]],
      (coherent k [.revoke 0x4400 3 15]).nextMsg false 0x4400 = some (.revoke 0x4400 3 15)) ∧
    ((∀ r ∈ [[], [laterReg]], (coherent (cachedAs .p none (⟨1, 5, true, ⟨7, none, 0, 0⟩⟩ :: r)) [.ack 0x4400 none false]).nextMsg false 0x4400 =
      some (.ack 0x4400 none false)) ∧
      ∀ r ∈ [[], [laterReg]], (coherent (cachedAs .p none (⟨1, 5, true, ⟨7, none, 0, 0⟩⟩ :: r)) [.ack 0x4400 (some 2) false]).nextMsg false 0x4400 =
        some (.ack 0x4400 (some 2) false)) ∧
    ((coherent (cachedAs .w (some 5) []) [.wbAck 0x4400]).nextMsg false 0x4400 = some (.wbAck 0x4400)) := by
  decide +kernel

/-- An attached host port that holds line 0x440 modified, port 1 fenced, two missed heartbeats at the limit. -/
def hosted : State :=
  { run ctx0 with
    fab := { (run ctx0).fab with mem := benchMem (codeLines []) [], hosts := [⟨0, 0x440, .excl false⟩, ⟨1, 0x442, .excl true⟩] }
    mgmt := { (run ctx0).mgmt with
      hosts := #v[⟨true, 3, false, false⟩, ⟨true, 0, false, true⟩], peers := [⟨1, 3, false, false⟩], modid := 0, linkst := 0xFFFFFFFFF }
    parts := (run ctx0).parts.set 1 { PartRegs.reset with
      sdreqs := [1], icreqs := [1], reclaim := some ⟨1⟩, leaving := [200], waymask := 1 } }

/-- HostAndErrorEventsHappen, PartitionEventsHappen, PackageEventsHappen: open and fenced ports, lines in each state, requests to complete,
silent agents, a reclaim and a release to end. -/
theorem witness_hosts_and_partitions :
    (hosted.portOpen 0 = true ∧ hosted.populated 0x11000 = true ∧ target 0x11000 < 2 ∧ inFrames 0x11000 = false ∧
      hosted.otherHolds 0 (0x11000 / 64) = false ∧ hosted.pins (lineOf 0x11000) = 0 ∧
      hosted.hostEntry 0 (0x11000 / 64) = some ⟨0, 0x440, .excl false⟩) ∧
    (hosted.populated (2 * 2 ^ 48) = true ∧ ownMemory 0 (2 * 2 ^ 48) = true ∧ inFrames (2 * 2 ^ 48) = false ∧
      hosted.otherHolds 0 (2 * 2 ^ 48 / 64) = false ∧ hosted.pins (lineOf (2 * 2 ^ 48)) = 0) ∧
    (hosted.populated (Config.frameBase + 8) = true ∧ target (Config.frameBase + 8) < 2 ∧ inFrames (Config.frameBase + 8) = true ∧
      hosted.frameBusy (frameOf (Config.frameBase + 8)).1 (frameOf (Config.frameBase + 8)).2 = false) ∧
    hosted.shootdownsFull 1 = false ∧ ((hosted.part 1).sdreqs = [1] ∧ hosted.partQuiet 1 (shootdownRange 1) = true) ∧
    agentDeadReady true 1 hosted = true ∧ agentDeadReady false 0 hosted = true ∧
    (⟨1, 0x442, .excl true⟩ ∈ hosted.fab.hosts ∧ hosted.portFenced 1 = true) ∧
    ((hosted.part 1).icreqs = [1] ∧ (hosted.part 1).reclaim = some ⟨1⟩) ∧
    (200 ∈ (hosted.part 1).leaving ∧ hosted.dueIn 1 200 = false ∧ 200 ≠ hosted.cluster ∧ hosted.rcbAwaits 1 = false) ∧
    (drainEndReady 5 { hosted with mgmt := { hosted.mgmt with roles := hosted.mgmt.roles.set 5 .draining } } = true) ∧
    (({ hosted with mgmt := { hosted.mgmt with roles := hosted.mgmt.roles.set 5 .powering } } : State).role 5 = .powering ∧ hosted.ownerAwaits = false) ∧
    (bits (0x8001 : Dword) 63 16 = 0 ∧ bits (0x8001 : Dword) 14 9 = 0 ∧ (0x8001 : Dword).getLsbD 15 = true ∧
      (hosted.mgmt.peers.any (·.mod == bits (0x8001 : Dword) 8 0)) = true) ∧
    (bits (1 : Dword) 63 1 = 0 ∧ (run ctx0).silent (bits (1 : Dword) 0 0) = false ∧ (run ctx0).scrubbing (bits (1 : Dword) 0 0) = false) ∧
    (run ctx0).mgmt.up = true := by
  decide +kernel

/-- The bench with the root RCB and its partition's at 0x11200, which take every cluster. -/
def masked : State :=
  let s := bench [] [(0x11201, 0x80)] ctx0
  { s with mgmt := { s.mgmt with root := 0x11200 }, parts := s.parts.set 0 { s.part 0 with prcb := 0x11200 } }

/-- PackageEventsHappen: a cluster of an enabled partition, none before it; a module that is not up. -/
theorem witness_package :
    ((masked.part 0).en = true ∧ (masked.partMask 0).getLsbD 255 = true ∧ masked.mgmt.rates[255]?.isSome = true) ∧
    (∀ p < 16, ((run ctx0).part p).en = true → ((run ctx0).partMask p).getLsbD 0 = false) ∧ State.reset.mgmt.up = false := by
  refine ⟨?_, ?_, rfl⟩ <;> decide +kernel

/-- A flit from module 1, partition 0, to partition 0 here. -/
def flit (kind : Nat) (tag : Dword) (payload : List Byte) : Flit := ⟨kind, false, 1, 0, 0, 0, tag, payload⟩

/-- A get of module 1's bytes at 0x1000 to the scratchpad, whose bytes are asked for. -/
def getting : State :=
  { hosted with eng := { hosted.eng with cp := [⟨5, issuer .task, 0, .get 1 0 0x80000000001000 32, none, true, none, some ⟨0, 0x1000, 0, 0, .normal, .scratch, 0, 0⟩,
      none, 0, 0, 0, true, 32, false, none, [], 0, false, none⟩] } }

/-- A barrier object of phase 0 that has sent its arrival to module 1. -/
def parented : State := { hosted with sync := { hosted.sync with sram := [(7, 0x48), (8, 2), (30, 0x20), (31, 0x80)] } }

/-- LinkEventsHappen: each kind of flit on a trained link, accepted and refused, with what it names. -/
theorem witness_links :
    (hosted.receives 0 1 (flit 1 0x2001F00 [1]) = true ∧ hosted.accepts (flit 1 0x2001F00 [1]) = true ∧
      hosted.namesUs (0x2001F00 : Dword) = true ∧ reduceOp (flit 1 0x2001F00 [1]) = none ∧
      hosted.dataFits (flit 1 0x2001F00 [1]) = true) ∧
    (let f := flit 1 0x4000002001F00 (leBytes 4 7)
     hosted.receives 0 1 f = true ∧ hosted.accepts f = true ∧ hosted.namesUs f.tag = true ∧ reduceOp f = some (3, 4) ∧
       hosted.dataFits f = true) ∧
    (let f := flit 1 0x80000000001000 (leBytes 32 7)
     getting.receives 0 1 f = true ∧ getting.accepts f = true ∧ getting.namesUs f.tag = false ∧
       (match getting.getFor f with
         | some op => decide (some op = getting.eng.cp[0]? ∧ (getting.landGet op f.payload).2 ≠ .stuck)
         | none => false) = true ∧ getting.dataFits f = true) ∧
    hosted.accepts { flit 1 0 [] with srcPart := 3 } = false ∧
    (hosted.receives 35 2 (flit 2 0x2001100 [224]) = true ∧ leNat ([224] : List Byte) ≤ 224 ∧
      hosted.accepts (flit 2 0x2001100 [224]) = true ∧ hosted.readAwaits (flit 2 0x2001100 [224]) = false ∧
      ∃ x, hosted.remoteReading 0 0x2001100 224 = .ok x) ∧
    (hosted.receives 1 4 (flit 4 0 (leBytes 8 0)) = true ∧ (leBytes 8 0).length = 8 ∧ hosted.receives 1 4 (flit 4 0 (leBytes 4 0)) = true ∧
      (leBytes 4 0).length = 4) ∧
    ((∃ b, parented.barrier 0 = some b ∧ (b.up == 2 && b.mod == 1) = true) ∧ parented.inWindow 0 0 = true) ∧
    (hosted.receives 1 3 (flit 3 0 []) = true ∧ hosted.receives 1 5 (flit 5 0 []) = true ∧ hosted.receives 1 6 (flit 6 0 []) = true ∧
      hosted.receives 1 7 (flit 7 0 []) = true) ∧ hosted.mgmt.linkst.getLsbD 35 = true ∧
    (let im : Image := ⟨true, 2, none, 0, 0, 0, 0, 0, [], 0, []⟩
     let s : State := { State.reset with mgmt := { State.reset.mgmt with flash := im } }
     s.mgmt.flash = im ∧ im.good = true ∧ s.mgmt.up = false) := by
  refine ⟨?_, ?_, ?_, by decide +kernel, ⟨by decide +kernel, by decide, by decide +kernel, by decide +kernel, ok_of (by decide +kernel)⟩, by decide +kernel,
    ⟨⟨⟨false, false, true, false, 0, 0, 2, 0, 0, 2, 1, 0⟩, by decide +kernel⟩, by decide +kernel⟩, by decide +kernel, by decide +kernel,
    rfl, rfl, rfl⟩ <;> decide +kernel

/-- The bench at an `add`, and with a command that may run, each with its turn in the script. -/
def atAdd : State := { coded [(0x8000, 0x80), (0x8001, 0xBD), (0x8002, 0xB5), (0x8003, 0x81)] ctx0 with script := [.issue] }
def atWord : State := { engine 0 .task [] with script := [.word 0] }

/-- StepRunsTheDecodedInstruction, StepKeepsCanonical, DecodeEncodeAgree: a fetch that decodes, a command that may run, a canonical state
that steps, well-formed instructions of one word, of two, and of an engine. -/
theorem witness_steps :
    ((∃ r, fetchNext { atAdd with script := [] } ctx0 false = .ok r ∧ (r.2.2.1 == 0x81B5BD80) = true) ∧
      decodeSeq 0x81B5BD80 0 = .ok (.add 2 45 27 54)) ∧
    ({ atWord with script := [] } : State).runnable 0 = true ∧ decodeEng 0 0 = some .engNop ∧ decodeEng 0 0x7F00 = none ∧
    Memory.wf (benchMem (codeLines []) engineData) = true ∧ (∃ t, step State.reset = .next t) ∧
    (Instr.add 2 39 27 49).wf = true ∧ (Instr.li 0 5 0xFFFFFFFF).wf = true ∧ (Instr.yred 6 15).wf = true ∧
    isEngineWord (.yred 6 15) = true := by
  refine ⟨⟨ok_and (by decide +kernel), rfl⟩, by decide +kernel, rfl, rfl, by decide +kernel, next_of (by decide +kernel), by decide +kernel⟩

/-- PerformedStoreFrame: a store of each space at the head of its queue that may leave it. -/
theorem witness_performed_stores :
    (∀ e ∈ ([⟨1, .scratch, .normal, [(4, 1)], ⟨7, none, 0, 0⟩, none, true, []⟩, ⟨1, .sync, .normal, [(64, 1)], ⟨7, none, 0, 0⟩, none, true, []⟩,
      ⟨1, .global, .normal, [(0x11FF8, 1)], ⟨7, none, 0, 0⟩, none, true, []⟩] : List StoreEntry),
      (storing e.space e.bytes).sq false = [e] ∧ (storing e.space e.bytes).mayLeave false e = true) ∧
    (∀ sp bs, (storing sp bs).canonical) ∧
    inFrames 0x11FF8 = false ∧ (run ctx0).fencedAt 0x11FF8 = false ∧ (run ctx0).fab.dcache = [] ∧ (run ctx0).fab.latent = [] := by
  have h : Memory.wf (storing .scratch []).fab.mem = true := by decide +kernel
  refine ⟨?_, fun _ _ => ⟨h, rfl, rfl, rfl, rfl⟩, by decide +kernel, by decide +kernel, rfl, rfl⟩
  intro e h
  rcases List.mem_cons.mp h with rfl | h
  · exact ⟨rfl, by decide +kernel⟩
  rcases List.mem_cons.mp h with rfl | h
  · exact ⟨rfl, by decide +kernel⟩
  rcases List.mem_cons.mp h with rfl | h
  · exact ⟨rfl, by decide +kernel⟩
  · exact absurd h List.not_mem_nil

/-- A task of the walking launch held for 1024 cycles, with a ready launch of another partition. -/
def sliced : State :=
  let s := launching [walking, { ofState .ready with key := 8, part := 1 }] (some ctx0) []
  { s with core := { s.core with now := 1024 }, parts := s.parts.set 0 { s.part 0 with hold := some 0 } }

/-- LaunchesMoveOn: a time slice that ends, and a queue with an entry that may be taken. -/
theorem witness_slices_and_queues :
    timeSliceReady 0 sliced = true ∧
    selectable 0 { queued with disp := { queued.disp with
      queues := [⟨0, 3, 6, 5, 5, 0, 0, 2 ^ 50, 4, 3, 0, false, [], false⟩] } } = true :=
  by decide +kernel

/-! One step of a few instructions; the results are worked out by hand from the rules. -/

/-- The register of code r after one instruction, its result landed. -/
def reg (i : Instr) (c : Context) (r : Code) : Dword := (after (exec i (coded [] c))).settle.read r

/-- R111, R112: −1 + 1, 1 − 6, −1 < 1 signed and unsigned, arithmetic shift of −1, leading zeros of 1, a negative immediate. -/
theorem test_integer :
    [reg (.add 0 5 3 4) ctx0 5, reg (.sub 0 5 4 1) ctx0 5, reg (.slt 0 5 3 4) ctx0 5, reg (.sltn 0 5 3 4) ctx0 5, reg (.sra 0 5 3 4) ctx0 5,
      reg (.clz 0 5 4) ctx0 5, reg (.addi 0 5 1 0xFFF) ctx0 5, reg (.shli 0 5 1 62) ctx0 5] =
    [0, 0xFFFFFFFFFFFFFFFB, 1, 0, 0xFFFFFFFFFFFFFFFF, 63, 5, 0x8000000000000000] := by decide +kernel

/-- R113: the immediate of `li` is sign-extended; `lhi` keeps the low word of a. -/
theorem test_long_forms : [reg (.li 0 5 0x80000000) ctx0 5, reg (.lhi 0 5 1 0xABCD) ctx0 5] = [0xFFFFFFFF80000000, 0x0000ABCD00000006] := by
  decide +kernel

/-- R114: 6 / 0, 6 rem 0, the high half of −1 × 1, −1 / 6 towards zero. -/
theorem test_multiply :
    [reg (.div 0 5 1 0) ctx0 5, reg (.rem 0 5 1 0) ctx0 5, reg (.mulh 0 5 3 4) ctx0 5, reg (.div 0 5 3 1) ctx0 5] =
    [0xFFFFFFFFFFFFFFFF, 6, 0xFFFFFFFFFFFFFFFF, 0] := by decide +kernel

/-- R115, R116: 1.5 + 2.25 = 3.75 in f64; 1.5 < 2.25; −1.5 has sign bit 63. -/
theorem test_float :
    (let c : Context := { ctx0 with x := (ctx0.x.set 6 0x3FF8000000000000).set 7 0x4002000000000000 }
     [reg (.fadd 0 0 5 6 7 0) c 5, reg (.flt 0 5 6 7 0) c 5, reg (.fneg 0 5 6 0) c 5]) = [0x400E000000000000, 1, 0xBFF8000000000000] := by
  decide +kernel

/-- R111: `adds` holds the largest value and raises SAT (bit 1 of FLAGS, R57). -/
theorem test_saturating_add :
    (let c : Context := { ctx0 with x := ctx0.x.set 6 0x7FFFFFFFFFFFFFFF }
     (reg (.adds 0 5 6 4) c 5, (after (exec (.adds 0 5 6 4) (run c))).flags)) = (0x7FFFFFFFFFFFFFFF, 2#4) := by decide +kernel

/-- R118, R119: a branch not taken, one taken to 0x8008, a call to the entry line with its link. -/
theorem test_control :
    [(after (exec (.bnez 0 0 2) (coded [] ctx0))).pc, (after (exec (.beqz 0 0 2) (coded [] ctx0))).pc, (after (exec (.call 0 5 32) (coded [] ctx0))).pc,
      reg (.call 0 5 32) ctx0 5] = [0x8004, 0x8008, 0x8080, 0x8004] := by decide +kernel

/-- R121, R122: `loop` of six at 0x8000; `endl` before the last iteration goes back to the body's start, at the last leaves. -/
theorem test_loop :
    (after (exec (.loop 0 1 2) (run ctx0))).loops = [⟨0, 6, 0x8004, 0x8008⟩] ∧ (after (exec (.endl 0) (run (inLoop 0 2)))).pc = 0x7FF0 ∧
    (after (exec (.endl 0) (run (inLoop 1 2)))).pc = 0x8004 := by decide +kernel

/-- R125, R126: `hset` writes 12 bits; `sset` of the seed register; `sget` of EPC at task is PRIV, which goes to the handler. -/
theorem test_system :
    (after (exec (.hset 0 15 1 7) (run ctx0))).h[15] = 13 ∧ (after (exec (.sset 0 1 7) (run ctx0))).gen = 6 ∧
    (after (exec (.sget 0 5 9) (run ctx0))).pc = 0x8080 ∧ (after (exec (.sget 0 5 9) (run ctx0))).prv = ⟨.supervisor, true⟩ := by decide +kernel

/-- R135, R132: `trap 7` saves SOFTTRAP, its value and the next address. -/
theorem test_trap :
    (let c := after (exec (.trap 0 7) (run ctx0)); [c.sup.cause, c.sup.eval, c.sup.epc, c.pc]) = [27, 7, 0x8004, 0x8080] := by decide +kernel

/-- R108, R130: an operand that may not be read is ILLOPD with its field's value, and EPC names the instruction. -/
theorem test_bad_operand :
    (let c := after (exec (.add 0 5 43 1) (run ctx0)); [c.sup.cause, c.sup.eval, c.sup.epc]) = [2, 43, 0x8000] := by decide +kernel

/-- R155, R140: a store enters its queue, and performed writes its bytes lowest first. -/
theorem test_store :
    (match exec (.stI16 0 1 1 4) (run { ctx0 with x := ctx0.x.set 4 2 }) with
      | .next t => t.core.sq0.map (·.bytes)
      | _ => []) = [[(2, 6), (3, 0)]] ∧
    (match exec (.storePerformed false) (storing .scratch [(2, 6), (3, 0)]) with
      | .next t => t.core.scratch
      | _ => []) = [(2, 6)] := by decide +kernel

/-- R323: the second of two arrivals flips the phase. -/
theorem test_arrivals :
    (match exec (.arrival 0 0 false (.instr false 7 0)) { (run ctx0) with
        sync := { (run ctx0).sync with sram := [(7, 0x40), (8, 2), (12, 1)] }, inflight := [.arrive 0 0 false (.instr false 7 0)] } with
      | .next t => (t.syncDword 0, t.syncDword 8)
      | _ => (0, 0)) = (0x4000000000000001, 2) := by decide +kernel

/-- R45: `add` of an engine pops two and pushes their sum; too few entries end the command. -/
theorem test_engine_words :
    (match exec .engAdd (engine 0 .task [3, 4, 9]) with | .next t => (t.engCtx 0 0).stack | _ => []) = [7, 9] ∧
    (match exec .engAdd (engine 0 .task [3]) with | .next t => t.eng.cmds.isEmpty | _ => false) = true ∧
    (match exec (.mset 0x40) (engine 0 .task [5]) with | .next t => t.eng.mx.shadow[0x40] | _ => 0) = 5 := by decide +kernel

/-- R107, R166: a step fetches `add x5, x1, x4` at 0x8000 and runs it. -/
theorem test_step :
    (let c := after (step { coded [(0x8001, 0x11), (0x8002, 0x14), (0x8003, 0x01)] ctx0 with script := [.issue] })
     (c.settle.read 5, c.pc)) = (7, 0x8004) := by decide +kernel

end Sys2Proof.Tests
end

/-! The statements of the number formats: scalar floating arithmetic (R115), and decoding loads and stores (R157, R158). -/

namespace Sys2Proof.Machine

/-! Scalar floating arithmetic. -/

@[simp] theorem XVal.isNan_neg (x : XVal) : x.neg.isNan = x.isNan := by cases x <;> rfl

/-- R115: a difference is the sum with the negated operand, in its value and in its flag. -/
theorem subX_eq_addX_neg (a b : XVal) : subX a b = addX a b.neg := by
  simp [subX, addX, invalid]

/-! Decoding accesses. -/

@[simp] theorem State.spendMark_serial (s : State) (slot : Bool) (c : Context) : (s.spendMark slot c).serial = c.serial := by
  unfold State.spendMark; split <;> rfl

@[simp] theorem State.spendMark_launch (s : State) (slot : Bool) (c : Context) : (s.spendMark slot c).launch = c.launch := by
  unfold State.spendMark; split <;> rfl

/-- R443 steps 3 to 5: only an access through a handle to memory passes the checks of stored elements. -/
theorem checkElems_space {s : State} {rd : Nat → Byte} {ac : Access} {h : Handle} {slot : Nat} {off : Dword} {ty : Stored}
    {store vector : Bool} {touch : PageFmt → List Nat} {e : Elems}
    (he : checkElems s rd ac h slot off ty store vector touch = .ok e) : h.space = .global := by
  unfold checkElems at he
  cases hs : h.space with
  | global => rfl
  | code => simp [hs, failed] at he
  | scratch => simp [hs, failed] at he
  | sync => simp [hs, failed] at he

/-- R152: which bytes a load touches matters to its issue in the scratchpad alone. -/
theorem State.loadReady_addrs {sp : Space} (h : sp ≠ .scratch) (s : State) (slot : Bool) (c : Context) (as bs : List Nat) :
    s.loadReady slot c sp as = s.loadReady slot c sp bs := by
  simp [State.loadReady, h]

section
variable {s : State} {c : Context} {d n b : Code} {t : BitVec 3} {h : Handle} {ty : Stored} {e : Elems}

/-- R83, R157: a decoding load of an element past ELEN makes no further check and gives +0. -/
theorem decodingLoad_past (u : BitVec 2)
    (hh : readHandle s (s.threadByte s.core.active) (s.access c.launch) n.toNat (c.slotIndex n.toNat) (c.read b) = .ok h)
    (hp : h.past (c.read b).toNat = true) : decodingLoad d n b t u s c = .done s (c.write d 0) := by
  simp only [decodingLoad, hh, Check.orTrap, hp, if_true]

/-- R157: a decoding load of an element within ELEN whose checks pass, that nothing holds back and that meets no marker, gives the
value decoded from the bytes it has bound, rounded to its type. -/
theorem decodingLoad_elem (u : BitVec 2)
    (hh : readHandle s (s.threadByte s.core.active) (s.access c.launch) n.toNat (c.slotIndex n.toNat) (c.read b) = .ok h)
    (ht : Stored.ofCode t.toNat = some ty) (hp : h.past (c.read b).toNat = false)
    (he : checkElems s (s.threadByte s.core.active) (s.access c.launch) h n.toNat (c.read b) ty false false
      (·.bytesOf (c.read b).toNat) = .ok e)
    (hr : s.loadReady s.core.active c h.space [] = true) (hw : s.loadWaits c .global (e.addrs.map (·.2)) = false)
    {r : List Byte × Option Cause × State}
    (hb : bindLoad s s.core.active c.serial .global h.policy (s.sectorLook (e.addrs.map (·.2)))
      (s.poolLine (s.access c.launch).part e.leaves) (e.addrs.map (·.2)) = r) (hm : r.2.1 = none) :
    decodingLoad d n b t u s c = .bound (r.2.2.holdLeaves (s.access c.launch).part e.leaves)
      (((s.spendMark s.core.active c).write d (.ofNat 64 ((scalarFmt u).encode .rne
        (e.fmt.decodeElem e.scale (readerOf ((e.addrs.map (·.1)).zip r.1)) (c.read b).toNat)).1)).pushLoad (.held c.serial)) [] := by
  have hl : s.loadReady s.core.active c h.space (e.addrs.map (·.2)) = true :=
    (s.loadReady_addrs (by simp [checkElems_space he]) s.core.active c _ []).trans hr
  simp [decodingLoad, hh, Check.orTrap, hp, ht, he, hl, hw, hb, hm, metAt]

/-- R158: a decoding store whose checks pass and whose lines are free is performed as the one store `placeElems` makes of it. -/
theorem decodingStore_elem (q : BitVec 3)
    (hh : readHandle s (s.threadByte s.core.active) (s.access c.launch) n.toNat (c.slotIndex n.toNat) (c.read b) = .ok h)
    (ht : Stored.ofCode t.toNat = some ty)
    (he : checkElems s (s.threadByte s.core.active) (s.access c.launch) h n.toNat (c.read b) ty true false
      (fun pf => (pf.reached h.elen [(c.read b).toNat]).flatMap pf.bytesOf) = .ok e)
    (hr : s.editReady s.core.active c (e.addrs.map (·.2)) = true) {p : State × Context × List (Cause × Dword)}
    (hpl : placeElems e q.toNat [((c.read b).toNat, c.float f32 d)] (s.holdLeaves (s.partOf c.launch) e.leaves)
      (s.spendMark s.core.active c) = p) : decodingStore d n b t q s c = .bound p.1 p.2.1 p.2.2 := by
  simp [decodingStore, storeElems, hh, Check.orTrap, ht, he, hr, hpl]

end

end Sys2Proof.Machine

namespace Sys2Proof

open Machine

/-- R100: an instruction of latency 0 or 1 that any privilege may run, and before which nothing stands, ends as its effect on the
context as it stands says. -/
theorem finishes_of_short {i : Instr} {s : State} {c : Context} {body : State → Context → Res} {r : Res}
    (hx : exec i s = issue i anyLevel body s) (hl : i.form.lat < 2) (h : Issues i s c) (hb : body s c = r)
    (hr : r.ends = true) : Finishes i s c r :=
  finishes_of_body hx h rfl (by rw [Context.atIssue, c.limited_short hl, hb]) hr

/-- A rounded result, stated of any exact operation equal to the meaning's. -/
theorem completes_of_rounded {i : Instr} {F : Fmt} {r : BitVec 3} {d : Code} {lat : Nat} {f g : Context → XVal × Raised}
    (hx : ∀ s, exec i s = issue i anyLevel (roundedResult F r d lat g) s) (hf : ∀ c, g c = f c) :
    Completes i always (roundedResult F r d lat f) :=
  completes_of_body hx (fun _ _ _ => rfl) (fun _ _ _ => by rw [funext hf]) fun _ _ _ => rfl

/-- Settles O4: each row of R115 is the rounded result of its exact operation, `fsub` by the sum with the negated operand; `fmin` and
`fmax` are fixed-latency results. -/
theorem floatArithmeticResults : Obligations.FloatArithmeticResults := by
  intro st t d a b r F lat
  refine ⟨?fadd, ?fsub, ?fmul, ?fdiv, ?fsqrt, ?fma, ?fmin, ?fmax⟩
  case fsub => exact completes_of_rounded (fun _ => rfl) fun _ => subX_eq_addX_neg _ _
  case fadd | fmul | fdiv | fsqrt | fma => exact completes_of_rounded (fun _ => rfl) fun _ => rfl
  case fmin | fmax => exact results_of_fixed (fun _ => rfl) fun _ => rfl

/-- Settles O22: a decoding access has no fixed-latency result, so it runs in the context as it stands; each of the three ways through
its meaning ends in a completion, a bound one that met nothing within ELEN. -/
theorem decodingAccesses : Obligations.DecodingAccesses := by
  intro st d n b t u q s c h ty hh ht
  refine ⟨?past, ?elem, ?store⟩
  case past =>
    intro hi hp
    exact finishes_of_short rfl Nat.zero_lt_two hi (decodingLoad_past u hh hp) rfl
  case elem =>
    intro e hi hr hp he hw part r v hm
    exact finishes_bound_none.mp
      (finishes_of_short rfl Nat.zero_lt_two hi (decodingLoad_elem u hh ht hp he hr hw rfl hm) rfl)
  case store =>
    intro e hi he hr p hp
    have hb : decodingStore d n b t q s c = .bound p.1 p.2.1 [] := hp ▸ decodingStore_elem q hh ht he hr rfl
    exact finishes_bound_none.mp (finishes_of_short rfl Nat.zero_lt_two hi hb rfl)

end Sys2Proof

/-! The publishing instructions: `cpub`, `cinv`, `ifence` and `cprobe` (R175 to R178). -/

namespace Sys2Proof.Machine

/-- R172: every scope holds its own core. -/
@[simp] theorem Scope.covers_self (sc : Scope) (k : Nat) : sc.covers k k = true := by
  cases sc <;> simp [Scope.covers]

/-- R172, R175: so the core's own copies always go, whatever the scope. -/
theorem discardCopies_eq (sc : Scope) (lines : List Nat) (s : State) (c : Context) :
    discardCopies sc lines s c = (s.discardLines lines, { c with fbuf := [], fill := none }) := by
  simp [discardCopies]

/-- R178: the offset of `cprobe`, its line number scaled to bytes. -/
theorem ofNat_toNat_mul_128 (i : BitVec 8) : BitVec.ofNat 64 (i.toNat * 128) = 128 * i.zeroExtend 64 := by bv_omega

section
variable {s : State} {c : Context}

/-- R175: a `cpub` whose checks pass, once its context's older accesses are performed at its scope, discards the copies of its lines. -/
theorem publish_ok {n b d : Code} {sc : Scope} {p : List Nat × List Leaf}
    (hp : checkPublish s c n.toNat (c.read b) (c.read d) = .ok p) (hg : s.storeMayGo s.core.active (c.addMark sc) = true) :
    publish n b d sc s c =
      .done ((s.holdLeaves (s.partOf c.launch) p.2).discardLines p.1) { c with mark := none, fbuf := [], fill := none } := by
  simp [publish, hp, Check.orTrap, hg, discardCopies_eq]

/-- R176: a `cinv` whose checks pass discards the same at once, and leaves a mark that stands before it. -/
theorem withdraw_ok {n b d : Code} (sc : Scope) {p : List Nat × List Leaf}
    (hp : checkPublish s c n.toNat (c.read b) (c.read d) = .ok p) :
    withdraw n b d sc s c =
      .done ((s.holdLeaves (s.partOf c.launch) p.2).discardLines p.1) { c with fbuf := [], fill := none } := by
  simp [withdraw, hp, Check.orTrap, discardCopies_eq]

/-- R177: with its older loads back, an `ifence` empties the fetch buffer. -/
theorem fenceFetch_back (h : c.loadsBack = true) : fenceFetch s c = .done s { c with fbuf := [], fill := none } := by
  simp [fenceFetch, h]

/-- R178: a `cprobe` of a mapped line in global or code space, that nothing holds back and that is not marked, gives the line's
bytes 120 to 127. -/
theorem probe_unmarked {d a : Code} {n : Nat} {i : BitVec 8} {off : Dword} {hd : Handle} {leaf : Leaf}
    (ho : off = c.read a + 128 * i.zeroExtend 64)
    (hh : readHandle s (s.threadByte s.core.active) (s.access c.launch) n (c.slotIndex n) off = .ok hd)
    (hb : checkBound s (s.access c.launch) hd n off 128 = .ok ()) (ha : (hd.va off).toNat % 128 = 0)
    (hs : hd.space = .global ∨ hd.space = .code)
    (hl : mapOne s (s.threadByte s.core.active) (s.access c.launch).part .none (hd.va off).toNat = .ok leaf)
    (hr : s.loadReady s.core.active c .global [] = true)
    (hw : s.loadWaits c .global (span (leaf.phys (hd.va off).toNat) 128) = false)
    (hm : s.meets (leaf.phys (hd.va off).toNat) = none) :
    probe d a n i s c = .bound (s.holdLeaves (s.access c.launch).part [leaf])
      (((s.spendMark s.core.active c).write d
        (readDword (s.byteUnder none) (leaf.phys (hd.va off).toNat + 120))).pushLoad (.held c.serial)) [] := by
  have hns : ¬(hd.space = .scratch ∨ hd.space = .sync) := by
    rcases hs with hs | hs <;> simp [hs]
  have hoff : c.read a + .ofNat 64 (i.toNat * 128) = off := by rw [ofNat_toNat_mul_128, ho]
  simp [probe, hoff, hh, hb, ha, hns, hl, Check.orTrap, bind, Except.bind, hr, hw, hm, metAt]

end

end Sys2Proof.Machine

namespace Sys2Proof

open Machine

/-- Settles O24: `cpub`, `cinv`, `ifence` and `cprobe` have no fixed-latency result, so each runs in the context as it stands, where
its meaning is a completion; that of `cprobe` is a bound load that met no marker. -/
theorem publishingInstructions : Obligations.PublishingInstructions := by
  intro st d n b a q h i s c
  refine ⟨?cpub, ?cinv, ?ifence, ?cprobe⟩
  case cpub =>
    intro p hi hp hg
    exact finishes_of_short rfl Nat.zero_lt_two hi (publish_ok hp hg) rfl
  case cinv =>
    intro p hi hp
    exact finishes_of_short rfl Nat.zero_lt_two hi (withdraw_ok _ hp) rfl
  case ifence =>
    intro hi hl
    exact finishes_of_short rfl Nat.zero_lt_two hi (fenceFetch_back hl) rfl
  case cprobe =>
    intro hd leaf off ac hi hh hb ha hs hl hr hw hm
    exact finishes_bound_none.mp
      (finishes_of_short rfl Nat.zero_lt_two hi (probe_unmarked rfl hh hb ha hs hl hr hw hm) rfl)

end Sys2Proof

/-! The vector unit: an accepted control word (R185, R186), lanewise arithmetic and logic (R195 to R198). -/

namespace Sys2Proof.Machine

/-- R243: outside check mode no access breaches a window. -/
theorem Context.ownBreach_unchecked {c : Context} (h : c.chk = 0) (tile : Bool) (rows : List Nat) (hit : Window → Bool) :
    c.ownBreach tile rows hit = none := by
  simp [Context.ownBreach, h, bit]

/-- R238: a touch by machine privilege or by the owner, while nothing moves the accumulator, goes on. -/
theorem touching_owned {s : State} {c : Context} (hm : s.moving = false)
    (ho : c.prv.cur = .machine ∨ s.core.owner = some c.ctxid.toNat) (k : State → Context → Res) : touching k s c = k s c := by
  unfold touching
  rw [hm, if_neg Bool.false_ne_true]
  rcases ho with h | h
  · rw [h]
  · cases c.prv.cur <;> simp [h]

/-- A lanewise instruction is whole once its repetitions are. -/
theorem Ctl.repeat_ends (k : Ctl) (d limit : Nat) (f : State → Nat → Nat → Dword → LaneOut) (s : State) (c : Context) :
    (k.repeat d limit f s c).ends = true := rfl

/-- R187: a vector instruction that writes a main-file register has issued: one more is under way. -/
theorem vectorDone_writeX (s : State) (c : Context) (d : BitVec 5) (v : Dword) :
    vectorDone s (c.writeX d v) = .done s { c.writeX d v with vbusy := c.vbusy + 1 } := by
  rw [vectorDone, Context.issuedVector, show (c.writeX d v).vbusy = c.vbusy from (c.write_same _ v).vbusy]

/-- The low bits of a value, as a remainder. -/
theorem bits_zero {w : Nat} (v : BitVec w) (hi : Nat) : bits v hi 0 = v.toNat % 2 ^ (hi + 1) := by
  simp [bits]

/-- R197: the model's arithmetic by type is the statement's, where it computes the same on each type. -/
theorem Arith.lane_eq_byType {op : Arith} {flt : Fmt → Nat → XVal → XVal → XVal → Dword → LaneOut} {int : Int → Int → Int}
    (hf : op.flt = flt) (hi : ∀ sg w, op.int sg w = int) : op.lane = byType flt int := by
  funext k a b d g
  unfold Arith.lane byType
  cases k.t with
  | int sg w => simp only [hi]
  | flt F => simp only [hf]

end Sys2Proof.Machine

namespace Sys2Proof

open Machine

/-- R185, R186, R192, R238, R243: a vector instruction whose control word is accepted has its own effect. -/
theorem Controls.vectorBody_eq {u : Uses} {g : Governs} {pg : BitVec 3} {n : Nat} {names : List (BitVec 5)} {ok okO0 : Ctl → Bool}
    {k : Ctl} {s : State} {c : Context} (h : Controls u g pg n names ok okO0 k s c) (body : Ctl → State → Context → Res) :
    vectorBody u g pg n names ok okO0 body s c = body k s c := by
  obtain ⟨ho0, ho1, hpg, hn, hres, hgov, hty, hacc, hop, hrows⟩ := h
  obtain ⟨o0, o1, t, pg', n'⟩ := k
  subst ho0 ho1 hpg hn
  have ht : (if u = .nothing then some (.int false 8) else laneType c (c.read 33#6)) = some t := by
    split at hty
    · exact (if_pos ‹_›).trans (congrArg some hty.symm)
    · exact (if_neg ‹_›).trans hty
  have hg : g.bad (bits (c.read 33#6) 13 12) pg' = false := hgov
  have hr : reservedCtl (c.read 33#6) = false := hres
  have ha : Ctl.accepts ⟨c.read 32#6, c.read 33#6, t, pg', n'⟩ u ok = true := hacc
  have ho : okO0 ⟨c.read 32#6, c.read 33#6, t, pg', n'⟩ = true := hop
  simp only [vectorBody, hg, hr, ht, ha, ho, Bool.not_true, Bool.false_eq_true, if_false]
  split
  · rfl
  · obtain ⟨hchk, hmv, hown⟩ := hrows (by rintro rfl; exact ‹¬_› rfl)
    rw [touching_owned hmv hown, Context.ownBreach_unchecked hchk]
    rfl

/-- A vector instruction completes with its effect, stated of any one equal to the meaning's: it has no fixed-latency result, so it
issues where it stands. -/
theorem vectorCompletes_of_body {i : Instr} {u : Uses} {g : Governs} {pg : BitVec 3} {n : Nat} {names : List (BitVec 5)}
    {ok okO0 : Ctl → Bool} {body effect : Ctl → State → Context → Res}
    (hx : ∀ s, exec i s = issue i anyLevel (vectorBody u g pg n names ok okO0 body) s) (hl : i.form.lat < 2)
    (hb : ∀ k s c, body k s c = effect k s c) (hr : ∀ k s c, (effect k s c).ends = true) :
    VectorCompletes i u g pg n names ok okO0 effect := fun s c k hi hk =>
  finishes_of_short (hx s) hl hi ((hk.vectorBody_eq body).trans (hb k s c)) (hr k s c)

section
variable {i : Instr} {u : Uses} {g : Governs} {pg : BitVec 3} {n : Nat} {names : List (BitVec 5)} {ok okO0 : Ctl → Bool}
  {d a b : BitVec 5}

/-- A lanewise instruction of three registers, stated of any lane operation equal to the meaning's. -/
theorem completes_lanewise3 {f e : Ctl → Nat → Nat → Nat → Dword → LaneOut}
    (hx : ∀ s, exec i s = issue i anyLevel (vectorBody u g pg n names ok okO0 (lanewise3 d a b f)) s) (hl : i.form.lat < 2)
    (hf : f = e) : VectorCompletes i u g pg n names ok okO0 (lanewise3 d a b e) :=
  vectorCompletes_of_body hx hl (fun _ _ _ => by rw [hf]) fun _ _ _ => Ctl.repeat_ends ..

/-- The same of two registers. -/
theorem completes_lanewise2 {f e : Ctl → Nat → Dword → LaneOut}
    (hx : ∀ s, exec i s = issue i anyLevel (vectorBody u g pg n names ok okO0 (lanewise2 d a f)) s) (hl : i.form.lat < 2)
    (hf : f = e) : VectorCompletes i u g pg n names ok okO0 (lanewise2 d a e) :=
  vectorCompletes_of_body hx hl (fun _ _ _ => by rw [hf]) fun _ _ _ => Ctl.repeat_ends ..

end

/-- Settles O28: each row of R197 and R198 is lanewise, and its lane operation is the statement's, by type in R197's, with `vsub` the sum
with the negated operand. -/
theorem vectorArithmeticLanes : Obligations.VectorArithmeticLanes := by
  refine ⟨fun st d a b p m => ?arithmetic, fun st d a b p m => ?logic⟩
  case arithmetic =>
    refine ⟨?vadd, ?vsub, ?vmul, ?vfma, ?vmin, ?vmax, ?vdiv, ?vsqrt, ?vexp2, ?vneg, ?vabs, ?vmulh⟩
    case vsub =>
      exact completes_lanewise3 (fun _ => rfl) Nat.zero_lt_two (Arith.lane_eq_byType
        (by simp only [rounded, subX_eq_addX_neg]) fun _ _ => rfl)
    case vadd | vmul | vfma | vmin | vmax | vdiv =>
      exact completes_lanewise3 (fun _ => rfl) Nat.zero_lt_two (Arith.lane_eq_byType rfl fun _ _ => rfl)
    case vsqrt | vneg | vabs =>
      exact completes_lanewise2 (fun _ => rfl) Nat.zero_lt_two
        (congrArg (fun f k x g => f k x x x g) (Arith.lane_eq_byType rfl fun _ _ => rfl))
    case vexp2 => exact completes_lanewise2 (fun _ => rfl) Nat.zero_lt_two rfl
    case vmulh => exact completes_lanewise3 (fun _ => rfl) Nat.zero_lt_two (by funext k x y _ g; unfold mulhLane; cases k.t <;> rfl)
  case logic =>
    refine ⟨?vand, ?vor, ?vxor, ?vandn, ?vshl, ?vshr, ?vsra, ?vclz, ?vpopc⟩
    case vclz | vpopc => exact completes_lanewise2 (fun _ => rfl) Nat.zero_lt_two rfl
    case vand | vor | vxor | vandn | vshl | vshr | vsra => exact completes_lanewise3 (fun _ => rfl) Nat.zero_lt_two rfl

/-- R199: the model's comparison on lanes is the statement's, where it compares integers the same. -/
theorem laneCompare_eq (ft : XVal → XVal → Bool) {it jt : Int → Int → Bool} (h : it = jt) :
    laneCompare ft it = fun k x y => match k.t with
      | .flt F => ft (F.decode x) (F.decode y)
      | .int sg w => jt (readInt sg w x) (readInt sg w y) := by
  funext k x y
  unfold laneCompare
  subst h
  cases k.t <;> rfl

/-- Settles O29: a compare takes the statement's comparison of lanes; selection and predicate logic are as the meaning gives them; a count
writes its register at issue, which leaves the vector instructions under way as they were but for its own. -/
theorem vectorPredicates : Obligations.VectorPredicates := by
  intro st d a b p m compares logic counts
  refine ⟨?vceq, ?vclt, ?vcle, ?vcun, ?vsel, ?pand, ?por, ?pxor, ?pandn, ?pnor, ?pnand, ?pnot, ?pfill, ?vpcnt, ?vplo, ?vphi⟩
  case vceq | vclt | vcle | vcun =>
    exact vectorCompletes_of_body (fun _ => rfl) Nat.zero_lt_two (fun k s c =>
      congrArg (fun f => compareLanes d a b f k s c) (laneCompare_eq _ rfl)) fun _ _ _ => rfl
  case vpcnt | vplo | vphi =>
    exact vectorCompletes_of_body (fun _ => rfl) Nat.zero_lt_two (fun _ _ _ => vectorDone_writeX ..) fun _ _ _ => rfl
  case vsel | pand | por | pxor | pandn | pnor | pnand | pnot | pfill =>
    exact vectorCompletes_of_body (fun _ => rfl) Nat.zero_lt_two (fun _ _ _ => rfl) fun _ _ _ => rfl

/-- Settles O30: every effect is the meaning's own and a completion, where `vcvt` has a source type and `vdotb` a block format or not;
`vmovx` reads the lane that the low ten bits of o0 name; `vfence` finds no vector instruction under way. -/
theorem vectorMovesAndReductions : Obligations.VectorMovesAndReductions := by
  intro st d a b p m lanes
  refine ⟨?vcvt, ?vmov, ?vbcast, ?viota, ?vmovx, ?vperm, ?vslide, ?vcompress, ?vexpand, ?vred, ?vscan, ?vmatch, ?vqn4, ?vqe8, ?vdotb,
    ?vfence⟩
  case vcvt =>
    refine vectorCompletes_of_body (fun _ => rfl) Nat.zero_lt_two (fun _ _ _ => rfl) fun k _ _ => ?_
    unfold convertLanes
    split <;> rfl
  case vdotb =>
    refine vectorCompletes_of_body (fun _ => rfl) Nat.zero_lt_two (fun _ _ _ => rfl) fun k _ _ => ?_
    unfold Machine.dotProduct
    split <;> rfl
  case vmovx =>
    refine vectorCompletes_of_body (fun _ => rfl) Nat.zero_lt_two (fun _ _ _ => ?_) fun _ _ _ => rfl
    unfold moveLane
    rw [bits_zero]
    exact vectorDone_writeX ..
  case vfence =>
    intro s c k hi hk hb
    exact finishes_of_short rfl Nat.zero_lt_two hi ((hk.vectorBody_eq _).trans (by simp [waitVectors, hb])) rfl
  case vmov | vbcast | viota | vperm | vslide | vcompress | vexpand | vred | vscan | vmatch | vqn4 | vqe8 =>
    exact vectorCompletes_of_body (fun _ => rfl) Nat.zero_lt_two (fun _ _ _ => rfl) fun _ _ _ => rfl

end Sys2Proof

/-! The rows of a lanewise vector instruction (R182, R195, R196, R223). -/

namespace Sys2Proof.Machine

/-! Lanes and segments of a row, bit by bit (R182, R223). -/

/-- The bits of a sum of whole blocks of L bits, each there or not. -/
theorem sum_blocks_testBit (L : Nat) (f : Nat → Bool) : ∀ n,
    ((List.range n).map fun h => if f h then (2 ^ L - 1) * 2 ^ (L * h) else 0).sum < 2 ^ (L * n) ∧
    ∀ i, ((List.range n).map fun h => if f h then (2 ^ L - 1) * 2 ^ (L * h) else 0).sum.testBit i = (decide (i < L * n) && f (i / L))
  | 0 => by simp
  | n + 1 => by
    obtain ⟨hlt, hbit⟩ := sum_blocks_testBit L f n
    have hs : ((List.range (n + 1)).map fun h => if f h then (2 ^ L - 1) * 2 ^ (L * h) else 0).sum =
        2 ^ (L * n) * (if f n then 2 ^ L - 1 else 0) +
          ((List.range n).map fun h => if f h then (2 ^ L - 1) * 2 ^ (L * h) else 0).sum := by
      rw [List.range_succ, List.map_append, List.sum_append]
      split <;> simp [Nat.mul_comm, Nat.add_comm, *]
    have htop : (if f n then 2 ^ L - 1 else 0) < 2 ^ L := by
      have := Nat.two_pow_pos L
      split <;> omega
    constructor
    · rw [hs, Nat.mul_succ, Nat.pow_add]
      calc _ < 2 ^ (L * n) * ((if f n then 2 ^ L - 1 else 0) + 1) := by rw [Nat.mul_succ]; omega
        _ ≤ _ := Nat.mul_le_mul_left _ htop
    · intro i
      rw [hs, Nat.testBit_two_pow_mul_add _ hlt, hbit]
      by_cases hi : i < L * n
      · rw [if_pos hi, Nat.mul_succ]
        simp [hi, show i < L * n + L by omega]
      · rw [if_neg hi, Nat.mul_succ]
        by_cases hi' : i < L * n + L
        · have hdiv : i / L = n := Nat.div_eq_of_lt_le (by rw [Nat.mul_comm]; omega) (by rw [Nat.succ_mul, Nat.mul_comm]; omega)
          rw [hdiv]
          split <;> simp [*, Nat.testBit_two_pow_sub_one]
          omega
        · split <;> simp [*, Nat.testBit_two_pow_sub_one]
          omega

/-- R223: a bit of a row's mask is its segment's bit of ACTOUCH. -/
theorem segMask_getLsbD (touch : Dword) (row b : Nat) :
    (segMask touch row).getLsbD b = (decide (b < 4096) && bit touch (row / 8 * 4 + b / 1024)) := by
  rw [segMask, BitVec.getLsbD_ofNat, (sum_blocks_testBit 1024 (fun h => bit touch (row / 8 * 4 + h)) 4).2]
  by_cases h : b < 4096 <;> simp [h]

theorem CoreState.accRow_getLsbD (k : CoreState) (row b : Nat) :
    (k.accRow row).getLsbD b = ((cellGet k.acc row).getLsbD b && bit k.actouch (row / 8 * 4 + b / 1024)) := by
  rw [accRow, BitVec.getLsbD_and, segMask_getLsbD]
  by_cases h : b < 4096
  · simp [h]
  · simp [h, BitVec.getLsbD_of_ge _ b (Nat.le_of_not_lt h)]

/-- A lane's bits are the row's. -/
theorem rowLane_testBit {n : Nat} (r : BitVec n) {w : Nat} (hw : 0 < w) (j i : Nat) :
    (rowLane r w j).testBit i = (decide (i < 8 * w) && r.getLsbD (8 * w * j + i)) := by
  rw [rowLane, bits, show 8 * w * (j + 1) - 1 + 1 - 8 * w * j = 8 * w by rw [Nat.mul_succ]; omega, Nat.testBit_mod_two_pow,
    Nat.testBit_div_two_pow, BitVec.testBit_toNat, Nat.add_comm]

/-- Rows whose bits agree in a lane hold the same there. -/
theorem rowLane_congr {n m : Nat} {r : BitVec n} {q : BitVec m} {w j : Nat} (hw : 0 < w)
    (h : ∀ i, i < 8 * w → r.getLsbD (8 * w * j + i) = q.getLsbD (8 * w * j + i)) : rowLane r w j = rowLane q w j := by
  refine Nat.eq_of_testBit_eq fun i => ?_
  rw [rowLane_testBit r hw, rowLane_testBit q hw]
  by_cases hi : i < 8 * w
  · rw [h i hi]
  · simp [hi]

/-- The bits of a row with a lane replaced. -/
theorem setRowLane_getLsbD {n : Nat} (r : BitVec n) (w j v : Nat) {b : Nat} (hb : b < n) :
    (setRowLane r w j v).getLsbD b =
      if 8 * w * j ≤ b ∧ b < 8 * w * j + 8 * w then v.testBit (b - 8 * w * j) else r.getLsbD b := by
  rw [setRowLane, BitVec.getLsbD_or, BitVec.getLsbD_and, BitVec.getLsbD_not, BitVec.getLsbD_ofNat, BitVec.getLsbD_ofNat,
    Nat.testBit_mul_two_pow, Nat.testBit_mul_two_pow, Nat.testBit_mod_two_pow, Nat.testBit_two_pow_sub_one]
  by_cases hlo : 8 * w * j ≤ b
  · by_cases hhi : b < 8 * w * j + 8 * w
    · simp [hb, hlo, hhi, show b - 8 * w * j < 8 * w by omega]
    · simp [hb, hlo, hhi, show ¬ b - 8 * w * j < 8 * w by omega]
  · simp [hb, hlo]

/-- A lane replaced reads as its new value, and the others as before. -/
theorem rowLane_setRowLane {n : Nat} (r : BitVec n) {w : Nat} (hw : 0 < w) (j v : Nat) {i : Nat} (hi : 8 * w * (i + 1) ≤ n) :
    rowLane (setRowLane r w j v) w i = if i = j then v % 2 ^ (8 * w) else rowLane r w i := by
  rw [Nat.mul_succ] at hi
  split
  · next e =>
    subst e
    refine Nat.eq_of_testBit_eq fun b => ?_
    rw [rowLane_testBit _ hw, Nat.testBit_mod_two_pow]
    by_cases hb : b < 8 * w
    · rw [setRowLane_getLsbD _ _ _ _ (by omega), if_pos (by omega), Nat.add_sub_cancel_left]
    · simp [hb]
  · next e =>
    refine rowLane_congr hw fun b hb => ?_
    rw [setRowLane_getLsbD _ _ _ _ (by omega), if_neg]
    rintro ⟨hl, hh⟩
    rcases Nat.lt_or_gt_of_ne e with h | h
    · have := Nat.mul_le_mul_left (8 * w) h
      rw [Nat.mul_succ] at this
      omega
    · have := Nat.mul_le_mul_left (8 * w) h
      rw [Nat.mul_succ] at this
      omega

/-! Writes to lanes of a row (R223). -/

/-- A fold that changes each of some cells in place changes those alone. -/
theorem cellGet_foldl_change {w : Nat} (f : BitVec w → BitVec w) {rows : List Nat} (a : Nat) :
    ∀ {m : Cells w}, Memory.wf m = true → rows.Nodup →
      cellGet (rows.foldl (fun m r => cellSet r (f (cellGet m r)) m) m) a = if a ∈ rows then f (cellGet m a) else cellGet m a := by
  induction rows with
  | nil => exact fun _ _ => rfl
  | cons r rest ih =>
    intro m hm hd
    obtain ⟨hr, hd⟩ := List.nodup_cons.mp hd
    rw [List.foldl_cons, ih (cellSet_wf _ _ hm) hd, cellGet_cellSet r a _ hm]
    by_cases h : a = r
    · subst h; simp [hr]
    · simp [h]

theorem mem_span {a n b : Nat} : b ∈ span a n ↔ a ≤ b ∧ b < a + n := by
  simp only [span, List.mem_map, List.mem_range]
  exact ⟨by omega, fun h => ⟨b - a, by omega⟩⟩

theorem nodup_span (a n : Nat) : (span a n).Nodup :=
  List.pairwise_map.mpr (List.nodup_range.imp fun h e => h (Nat.add_left_cancel e))

/-- The cells of `touchSeg` keep their canonical form. -/
theorem CoreState.touchSeg_wf (k : CoreState) (seg : Nat) (h : Memory.wf k.acc = true) : Memory.wf (k.touchSeg seg).acc = true := by
  unfold touchSeg
  split
  · exact h
  · exact foldl_cellSet_wf (fun m r => (r, _)) _ h

theorem CoreState.touchSeg_frame (k : CoreState) (seg : Nat) : (k.touchSeg seg).scratch = k.scratch ∧ (k.touchSeg seg).tile = k.tile := by
  unfold touchSeg
  split <;> exact ⟨rfl, rfl⟩

theorem CoreState.touchSeg_bit (k : CoreState) (seg : Nat) {q : Nat} (hq : q < 64) :
    bit (k.touchSeg seg).actouch q = (bit k.actouch q || decide (q = seg)) := by
  unfold touchSeg
  split
  · next h => by_cases e : q = seg <;> simp [e, h]
  · simp only [bit, BitVec.getLsbD_or, BitVec.getLsbD_ofNat, hq, decide_true, Bool.true_and, Nat.testBit_two_pow]
    simp [eq_comm]

/-- R223: the bytes of a row that lie outside a segment. -/
def outsideSeg (seg : Nat) : AccRow := ~~~(.ofNat 4096 ((2 ^ 1024 - 1) * 2 ^ (1024 * (seg % 4))))

/-- The bits of one whole block of L bits. -/
theorem block_testBit {L : Nat} (hL : 0 < L) (q b : Nat) : ((2 ^ L - 1) * 2 ^ (L * q)).testBit b = decide (b / L = q) := by
  rw [Nat.testBit_mul_two_pow, Nat.testBit_two_pow_sub_one, ← Bool.decide_and, decide_eq_decide, Nat.div_eq_iff hL, Nat.mul_comm q L]
  omega

theorem outsideSeg_getLsbD (seg : Nat) {b : Nat} (hb : b < 4096) : (outsideSeg seg).getLsbD b = !decide (b / 1024 = seg % 4) := by
  rw [outsideSeg, BitVec.getLsbD_not, BitVec.getLsbD_ofNat, block_testBit (L := 1024) (by decide), decide_eq_true hb, Bool.true_and,
    Bool.true_and]

/-- R223: the cells once an untouched segment is touched: it holds 0. -/
theorem CoreState.touchSeg_cell (k : CoreState) {seg : Nat} (ht : bit k.actouch seg = false) (h : Memory.wf k.acc = true) (row : Nat) :
    cellGet (k.touchSeg seg).acc row = if row / 8 = seg / 4 then cellGet k.acc row &&& outsideSeg seg else cellGet k.acc row := by
  have hmem : row ∈ span (seg / 4 * 8) 8 ↔ row / 8 = seg / 4 := by rw [mem_span]; omega
  simp only [touchSeg, ht, Bool.false_eq_true, if_false]
  exact (cellGet_foldl_change (· &&& outsideSeg seg) row h (nodup_span ..)).trans (ite_congr (propext hmem) (fun _ => rfl) fun _ => rfl)

/-- R223: touching a segment changes nothing that reads. -/
theorem CoreState.touchSeg_accRow (k : CoreState) (seg : Nat) (h : Memory.wf k.acc = true) {row : Nat} (hr : row < 128) :
    (k.touchSeg seg).accRow row = k.accRow row := by
  cases ht : bit k.actouch seg with
  | true => rw [touchSeg, if_pos ht]
  | false =>
    refine BitVec.eq_of_getLsbD_eq fun b hb => ?_
    rw [accRow_getLsbD, accRow_getLsbD, k.touchSeg_bit seg (by omega), k.touchSeg_cell ht h]
    by_cases e : row / 8 * 4 + b / 1024 = seg
    · rw [if_pos (by omega), BitVec.getLsbD_and, outsideSeg_getLsbD seg hb, decide_eq_true (show b / 1024 = seg % 4 by omega), e, ht]
      simp
    · rw [decide_eq_false e, Bool.or_false]
      split
      · rw [BitVec.getLsbD_and, outsideSeg_getLsbD seg hb, decide_eq_false (show ¬ b / 1024 = seg % 4 by omega)]
        simp
      · rfl

/-- Touching segments one after another keeps the cells canonical, changes nothing that reads, and sets their bits. -/
theorem CoreState.touchSegs_spec (segs : List Nat) : ∀ k : CoreState, Memory.wf k.acc = true →
    Memory.wf (segs.foldl touchSeg k).acc = true ∧
    (∀ row, row < 128 → (segs.foldl touchSeg k).accRow row = k.accRow row) ∧
    (∀ q, q < 64 → bit (segs.foldl touchSeg k).actouch q = (bit k.actouch q || decide (q ∈ segs))) ∧
    (segs.foldl touchSeg k).scratch = k.scratch ∧ (segs.foldl touchSeg k).tile = k.tile := by
  induction segs with
  | nil => exact fun k h => ⟨h, fun _ _ => rfl, fun _ _ => by simp, rfl, rfl⟩
  | cons seg rest ih =>
    intro k h
    obtain ⟨hwf, hrow, hbit, hsc, hti⟩ := ih _ (k.touchSeg_wf seg h)
    obtain ⟨hsc', hti'⟩ := k.touchSeg_frame seg
    refine ⟨hwf, fun row hr => (hrow row hr).trans (k.touchSeg_accRow seg h hr), fun q hq => ?_, hsc.trans hsc', hti.trans hti'⟩
    rw [List.foldl_cons, hbit q hq, k.touchSeg_bit seg hq, Bool.or_assoc]
    simp

/-- The segments that lanes of a row lie in. -/
def touchedBy (row w : Nat) (vs : List (Nat × Nat)) : List Nat := (vs.map fun p => row / 8 * 4 + p.1 * w / 128).eraseDups

theorem mem_touchedBy {row w q : Nat} {vs : List (Nat × Nat)} :
    q ∈ touchedBy row w vs ↔ ∃ p ∈ vs, row / 8 * 4 + p.1 * w / 128 = q := by
  simp [touchedBy]

theorem CoreState.writeLanes_cons (k : CoreState) (row w : Nat) (p : Nat × Nat) (vs : List (Nat × Nat)) :
    k.writeLanes row w (p :: vs) =
      let t := (touchedBy row w (p :: vs)).foldl touchSeg k
      { t with acc := cellSet row ((p :: vs).foldl (fun r p => setRowLane r w p.1 p.2) (cellGet t.acc row)) t.acc } := rfl

/-- R223: a row after a write of lanes to one. -/
theorem CoreState.writeLanes_accRow (k : CoreState) (row w : Nat) (vs : List (Nat × Nat)) (h : Memory.wf k.acc = true) (a : Nat) :
    (k.writeLanes row w vs).accRow a =
      let t := (touchedBy row w vs).foldl touchSeg k
      if a = row then vs.foldl (fun r p => setRowLane r w p.1 p.2) (cellGet t.acc row) &&& segMask t.actouch row else t.accRow a := by
  obtain ⟨hwf, -⟩ := touchSegs_spec (touchedBy row w vs) k h
  cases vs with
  | nil => exact (ite_eq_right_iff.mpr fun e => by rw [e]; rfl).symm
  | cons p rest =>
    simp only [accRow, writeLanes_cons, cellGet_cellSet _ _ _ hwf]
    split
    · next e => rw [e]
    · rfl

theorem CoreState.writeLanes_frame (k : CoreState) (row w : Nat) (vs : List (Nat × Nat)) (h : Memory.wf k.acc = true) :
    Memory.wf (k.writeLanes row w vs).acc = true ∧ (k.writeLanes row w vs).scratch = k.scratch ∧
      (k.writeLanes row w vs).tile = k.tile := by
  obtain ⟨hwf, -, -, hframe⟩ := touchSegs_spec (touchedBy row w vs) k h
  unfold writeLanes
  dsimp only
  split
  · exact ⟨hwf, hframe⟩
  · exact ⟨cellSet_wf _ _ hwf, hframe⟩

theorem CoreState.writeLanes_accRow_other (k : CoreState) {row : Nat} (w : Nat) (vs : List (Nat × Nat)) (h : Memory.wf k.acc = true)
    {a : Nat} (ha : a < 128) (hne : a ≠ row) : (k.writeLanes row w vs).accRow a = k.accRow a := by
  obtain ⟨-, hrow, -⟩ := touchSegs_spec (touchedBy row w vs) k h
  rw [writeLanes_accRow _ _ _ _ h, if_neg hne, hrow a ha]

/-- The writes of the first n lanes: those that have a value. -/
def laneWrites (v : Nat → Option Nat) (n : Nat) : List (Nat × Nat) := (List.range n).filterMap fun j => (v j).map (j, ·)

theorem laneWrites_succ (v : Nat → Option Nat) (n : Nat) :
    laneWrites v (n + 1) = laneWrites v n ++ ((v n).map (n, ·)).toList := by
  rw [laneWrites, List.range_succ, List.filterMap_append]
  cases h : v n <;> simp [laneWrites, h]

theorem mem_laneWrites {v : Nat → Option Nat} {n : Nat} {p : Nat × Nat} : p ∈ laneWrites v n ↔ p.1 < n ∧ v p.1 = some p.2 := by
  obtain ⟨j, x⟩ := p
  simp [laneWrites]

/-- What a lane reads after them. -/
theorem rowLane_laneWrites {N : Nat} (r : BitVec N) {w : Nat} (hw : 0 < w) (v : Nat → Option Nat) {j : Nat}
    (hj : 8 * w * (j + 1) ≤ N) (n : Nat) :
    rowLane ((laneWrites v n).foldl (fun r p => setRowLane r w p.1 p.2) r) w j =
      if j < n then ((v j).map (· % 2 ^ (8 * w))).getD (rowLane r w j) else rowLane r w j := by
  induction n with
  | zero => rfl
  | succ n ih =>
    rw [laneWrites_succ, List.foldl_append]
    cases hv : v n with
    | none =>
      refine ih.trans ?_
      by_cases e : j = n
      · subst e; simp [hv]
      · simp [show j < n + 1 ↔ j < n by omega]
    | some x =>
      refine (rowLane_setRowLane _ hw n x hj).trans ?_
      rw [ih]
      by_cases e : j = n
      · subst e; simp [hv]
      · simp [e, show j < n + 1 ↔ j < n by omega]

/-- A lane that divides a segment lies in one. -/
theorem bit_segment {w i : Nat} (hd : w ∣ 128) (hi : i < 8 * w) (j : Nat) : (8 * w * j + i) / 1024 = j * w / 128 := by
  obtain ⟨q, hq⟩ := hd
  have hw : 0 < w := by rcases Nat.eq_zero_or_pos w with rfl | h <;> omega
  calc (8 * w * j + i) / 1024 = (8 * w * j + i) / (8 * w) / q := by
        rw [Nat.div_div_eq_div_mul, Nat.mul_assoc 8 w q, ← hq]
    _ = j / q := by rw [Nat.mul_add_div (by omega), Nat.div_eq_of_lt hi, Nat.add_zero]
    _ = j * w / 128 := by rw [hq, Nat.mul_comm j w, Nat.mul_div_mul_left _ _ hw]

/-- R223: a row whose lanes lie in one segment each reads as written in the lanes written, and as before in the others. -/
theorem CoreState.writeLanes_rowLane (k : CoreState) {row w n j : Nat} (v : Nat → Option Nat) (h : Memory.wf k.acc = true)
    (hr : row < 128) (hd : w ∣ 128) (hn : n * w ≤ 512) (hj : j < n) :
    rowLane ((k.writeLanes row w (laneWrites v n)).accRow row) w j =
      ((v j).map (· % 2 ^ (8 * w))).getD (rowLane (k.accRow row) w j) := by
  have hw : 0 < w := Nat.pos_of_dvd_of_pos hd (by decide)
  have hjw : 8 * w * (j + 1) ≤ 4096 := by
    calc 8 * w * (j + 1) = 8 * ((j + 1) * w) := by rw [Nat.mul_assoc, Nat.mul_comm w]
      _ ≤ 8 * (n * w) := Nat.mul_le_mul_left _ (Nat.mul_le_mul_right _ hj)
      _ ≤ 4096 := by omega
  have hbits : ∀ i, i < 8 * w → 8 * w * j + i < 4096 := fun i hi => by rw [Nat.mul_succ] at hjw; omega
  obtain ⟨-, hrow, hbit, -⟩ := touchSegs_spec (touchedBy row w (laneWrites v n)) k h
  rw [writeLanes_accRow _ _ _ _ h, if_pos rfl]
  have hl := rowLane_laneWrites (cellGet ((touchedBy row w (laneWrites v n)).foldl touchSeg k).acc row) hw v hjw n
  rw [if_pos hj] at hl
  cases hv : v j with
  | some x =>
    rw [hv] at hl
    refine Eq.trans (rowLane_congr hw fun i hi => ?_) hl
    have hq : (8 * w * j + i) / 1024 = j * w / 128 := bit_segment hd hi j
    have := hbits i hi
    rw [BitVec.getLsbD_and, segMask_getLsbD, hbit _ (by omega), hq]
    have : row / 8 * 4 + j * w / 128 ∈ touchedBy row w (laneWrites v n) :=
      mem_touchedBy.mpr ⟨(j, x), mem_laneWrites.mpr ⟨hj, hv⟩, rfl⟩
    simp [this, hbits i hi]
  | none =>
    rw [hv] at hl
    rw [Option.map_none, Option.getD_none, ← hrow row hr]
    refine rowLane_congr hw fun i hi => ?_
    have hb := congrArg (fun l => l.testBit i) hl
    simp only [rowLane_testBit _ hw, Option.map_none, Option.getD_none, hi, decide_true, Bool.true_and] at hb
    rw [accRow, BitVec.getLsbD_and, BitVec.getLsbD_and, hb]

/-! The repetitions of a lanewise instruction (R195, R196). -/

/-- R97, R180: the registers' rows are distinct. -/
theorem Context.vrow_inj {c : Context} {a b : Nat} (ha : a < 32) (hb : b < 32) (h : c.vrow a = c.vrow b) : a = b := by
  simp only [vrow, physVector] at h
  split at h <;> split at h <;> omega

theorem Context.vrow_lt (c : Context) (n : Nat) : c.vrow n < 128 := Nat.mod_lt _ (by decide)

/-- The generator that lane j of a repetition reads, of which the active lanes before it have drawn. -/
def Ctl.genBefore (k : Ctl) (c : Context) (f : Nat → Dword → LaneOut) : Nat → Dword
  | 0 => c.gen
  | j + 1 => if k.active c j then (f j (k.genBefore c f j)).2.2 else k.genBefore c f j

/-- R195: what a repetition writes to lane j. -/
def Ctl.laneValue (k : Ctl) (c : Context) (f : Nat → Dword → LaneOut) (j : Nat) : Option Nat :=
  if k.active c j then some (f j (k.genBefore c f j)).1 else if k.zeroed c j then some 0 else none

/-- R196: a run of one lane more. -/
theorem Ctl.run_succ (k : Ctl) (c : Context) (n : Nat) (f : Nat → Dword → LaneOut) :
    k.run c (n + 1) f =
      let r := k.run c n f
      let o := f n r.2.2
      if k.active c n then (r.1 ++ [(n, o.1)], r.2.1.or o.2.1, o.2.2)
      else if k.zeroed c n then (r.1 ++ [(n, 0)], r.2)
      else r := by
  unfold Ctl.run
  rw [List.range_succ, List.foldl_append]
  rfl

/-- R195, R196: a repetition's writes, and the generator after it. -/
theorem Ctl.run_spec (k : Ctl) (c : Context) (f : Nat → Dword → LaneOut) (n : Nat) :
    (k.run c n f).1 = laneWrites (k.laneValue c f) n ∧ (k.run c n f).2.2 = k.genBefore c f n := by
  induction n with
  | zero => exact ⟨rfl, rfl⟩
  | succ n ih =>
    obtain ⟨hvs, hg⟩ := ih
    rw [laneWrites_succ, Ctl.run_succ]
    by_cases ha : k.active c n
    · simp [ha, Ctl.laneValue, Ctl.genBefore, hvs, hg]
    · by_cases hz : k.zeroed c n <;> simp [ha, hz, Ctl.laneValue, Ctl.genBefore, hvs, hg]

/-- R196: one repetition of a lanewise instruction. -/
def Ctl.repetition (k : Ctl) (d : Nat) (f : State → Nat → Nat → Dword → LaneOut) (p : State × Context) (i : Nat) : State × Context :=
  let r := k.run p.2 k.lanes (f p.1 i)
  (p.1.setVlanes p.2 (d + i) k.w r.1, { p.2 with gen := r.2.2 }.raise r.2.1)

/-- A repetition changes of the context the generator and the flags alone. -/
theorem Ctl.repetition_ctx (k : Ctl) (d : Nat) (f : State → Nat → Nat → Dword → LaneOut) (p : State × Context) (i : Nat) :
    ∃ g fl, (k.repetition d f p i).2 = { p.2 with gen := g, flags := fl } := ⟨_, _, rfl⟩

/-- R196: the state and context that repetition n reads. -/
def Ctl.before (k : Ctl) (d : Nat) (f : State → Nat → Nat → Dword → LaneOut) (s : State) (c : Context) : Nat → State × Context
  | 0 => (s, c)
  | n + 1 => k.repetition d f (k.before d f s c n) n

theorem Ctl.repeat_eq (k : Ctl) (d : Nat) (f : State → Nat → Nat → Dword → LaneOut) (s : State) (c : Context) :
    k.repeat d k.lanes f s c = vectorDone (k.before d f s c k.reps).1 (k.before d f s c k.reps).2 := by
  have h : ∀ n, (List.range n).foldl (k.repetition d f) (s, c) = k.before d f s c n := by
    intro n
    induction n with
    | zero => rfl
    | succ n ih => rw [List.range_succ, List.foldl_append, ih]; rfl
  rw [← h]
  rfl

section
variable {k : Ctl} {d : Nat} {f : State → Nat → Nat → Dword → LaneOut} {s : State} {c : Context}

/-- Nor do several change more. -/
theorem Ctl.before_ctx (n : Nat) : ∃ g fl, (k.before d f s c n).2 = { c with gen := g, flags := fl } := by
  induction n with
  | zero => exact ⟨c.gen, c.flags, rfl⟩
  | succ n ih =>
    obtain ⟨g, fl, h⟩ := ih
    obtain ⟨g', fl', h'⟩ := k.repetition_ctx d f (k.before d f s c n) n
    exact ⟨g', fl', h'.trans (by rw [h])⟩

theorem Ctl.before_vrow (n a : Nat) : (k.before d f s c n).2.vrow a = c.vrow a := by
  obtain ⟨g, fl, h⟩ := k.before_ctx (d := d) (f := f) (s := s) (c := c) n
  rw [h]
  rfl

theorem Ctl.before_active (n j : Nat) : k.active (k.before d f s c n).2 j = k.active c j := by
  obtain ⟨g, fl, h⟩ := k.before_ctx (d := d) (f := f) (s := s) (c := c) n
  rw [h]
  rfl

theorem Ctl.before_zeroed (n j : Nat) : k.zeroed (k.before d f s c n).2 j = k.zeroed c j := by
  obtain ⟨g, fl, h⟩ := k.before_ctx (d := d) (f := f) (s := s) (c := c) n
  rw [h]
  rfl

/-- R196: a repetition writes the lanes of its row. -/
theorem Ctl.before_succ_core (n : Nat) : (k.before d f s c (n + 1)).1.core =
    (k.before d f s c n).1.core.writeLanes (c.vrow (d + n)) k.w
      (laneWrites (k.laneValue (k.before d f s c n).2 (f (k.before d f s c n).1 n)) k.lanes) := by
  rw [← (k.run_spec (k.before d f s c n).2 (f (k.before d f s c n).1 n) k.lanes).1, ← k.before_vrow (d := d) (f := f) (s := s) n]
  rfl

/-- R65, R196: it leaves the generator as its active lanes did. -/
theorem Ctl.before_succ_gen (n : Nat) :
    (k.before d f s c (n + 1)).2.gen = k.genBefore (k.before d f s c n).2 (f (k.before d f s c n).1 n) k.lanes :=
  (k.run_spec (k.before d f s c n).2 (f (k.before d f s c n).1 n) k.lanes).2

/-- What repetitions leave as it was, with the canonical form of the accumulator. -/
theorem Ctl.before_frame (hwf : Memory.wf s.core.acc = true) (n : Nat) :
    Memory.wf (k.before d f s c n).1.core.acc = true ∧ (k.before d f s c n).1.fab = s.fab ∧
      (k.before d f s c n).1.core.scratch = s.core.scratch ∧ (k.before d f s c n).1.core.tile = s.core.tile ∧
      (k.before d f s c n).1.sync = s.sync := by
  induction n with
  | zero => exact ⟨hwf, rfl, rfl, rfl, rfl⟩
  | succ n ih =>
    obtain ⟨hm, hfab, hsc, hti, hsy⟩ := ih
    obtain ⟨hm', hsc', hti'⟩ := (k.before d f s c n).1.core.writeLanes_frame (c.vrow (d + n)) k.w
      (laneWrites (k.laneValue (k.before d f s c n).2 (f (k.before d f s c n).1 n)) k.lanes) hm
    rw [k.before_succ_core]
    exact ⟨hm', hfab, hsc'.trans hsc, hti'.trans hti, hsy⟩

/-- A row that no repetition from the m-th to the n-th writes reads as before them. -/
theorem Ctl.before_accRow (hwf : Memory.wf s.core.acc = true) {row m n : Nat} (hr : row < 128) (hmn : m ≤ n)
    (hne : ∀ i, m ≤ i → i < n → row ≠ c.vrow (d + i)) :
    (k.before d f s c n).1.core.accRow row = (k.before d f s c m).1.core.accRow row := by
  induction hmn with
  | refl => rfl
  | @step n hmn ih =>
    obtain ⟨hm, -⟩ := k.before_frame (d := d) (f := f) (c := c) hwf n
    rw [k.before_succ_core, CoreState.writeLanes_accRow_other _ _ _ hm hr (hne n hmn n.lt_succ_self)]
    exact ih fun i hi hin => hne i hi (by omega)

/-- A row that repetition i writes reads before it as before them all. -/
theorem Ctl.before_ownRow (hwf : Memory.wf s.core.acc = true) (hd : d + k.reps ≤ 32) {i : Nat} (hi : i < k.reps) :
    (k.before d f s c i).1.core.accRow (c.vrow (d + i)) = s.core.accRow (c.vrow (d + i)) :=
  k.before_accRow hwf (m := 0) (c.vrow_lt _) (Nat.zero_le _) fun _ _ hl e => by
    have := Context.vrow_inj (by omega) (by omega) e
    omega

/-- It reads after them all as after repetition i. -/
theorem Ctl.after_ownRow (hwf : Memory.wf s.core.acc = true) (hd : d + k.reps ≤ 32) {i : Nat} (hi : i < k.reps) :
    (k.before d f s c k.reps).1.core.accRow (c.vrow (d + i)) = (k.before d f s c (i + 1)).1.core.accRow (c.vrow (d + i)) :=
  k.before_accRow hwf (c.vrow_lt _) hi fun _ hl hlr e => by
    have := Context.vrow_inj (by omega) (by omega) e
    omega

/-- R195: what the repetitions leave in a lane of the i-th one's row, where lanes lie in one segment each. -/
theorem Ctl.after_lane (hwf : Memory.wf s.core.acc = true) (hd : d + k.reps ≤ 32) (hw : k.w ∣ 128) (hrow : k.lanes * k.w = 512)
    {i j : Nat} (hi : i < k.reps) (hj : j < k.lanes) :
    rowLane ((k.before d f s c k.reps).1.core.accRow (c.vrow (d + i))) k.w j =
      if k.active c j then
        (f (k.before d f s c i).1 i j (k.genBefore (k.before d f s c i).2 (f (k.before d f s c i).1 i) j)).1 % 2 ^ (8 * k.w)
      else if k.zeroed c j then 0
      else rowLane (s.core.accRow (c.vrow (d + i))) k.w j := by
  obtain ⟨hm, -⟩ := k.before_frame (d := d) (f := f) (c := c) hwf i
  rw [k.after_ownRow hwf hd hi, k.before_succ_core, CoreState.writeLanes_rowLane _ _ hm (c.vrow_lt _) hw (Nat.le_of_eq hrow) hj,
    k.before_ownRow hwf hd hi, Ctl.laneValue, k.before_active, k.before_zeroed]
  split
  · rfl
  · split <;> rfl

end

/-! Lane types (R182). -/

/-- Every type but the four-bit one is 1, 2, 4 or 8 bytes wide. -/
theorem NumType.bytes_of_code {n : Nat} {t : NumType} (h : NumType.ofCode n = some t) : t.bytes = 0 ∨ t.bytes ∣ 8 := by
  unfold NumType.ofCode at h
  split at h <;> cases h <;> decide

/-- R182: a lane type's lanes lie in one segment each. -/
theorem Ctl.width_dvd {k : Ctl} {c : Context} (ht : laneType c k.o1 = some k.t) (hrow : k.lanes * k.w = 512) : k.w ∣ 128 := by
  have hcode : ∃ n, NumType.ofCode n = some k.t := by
    unfold laneType at ht
    split at ht
    · cases ht
    · exact ⟨_, ht⟩
    · exact ⟨_, ht⟩
  obtain ⟨n, hn⟩ := hcode
  rcases NumType.bytes_of_code hn with h0 | h8
  · rw [show k.w = 0 from h0] at hrow
    cases hrow
  · exact Nat.dvd_trans h8 (by decide)

end Sys2Proof.Machine

namespace Sys2Proof

open Machine

/-- R195, R196: what `LanewiseRowsWritten` claims of the repetitions of one instruction. -/
def LanewiseFrame (k : Ctl) (d : Nat) (f : State → Nat → Nat → Dword → LaneOut) (s : State) (c : Context) : Prop :=
  ∃ (t : Nat → State) (g : Nat → Nat → Dword) (s' : State) (c' : Context), k.repeat d k.lanes f s c = .done s' c' ∧
    c'.vbusy = c.vbusy + 1 ∧ c'.x = c.x ∧ c'.o = c.o ∧ c'.p = c.p ∧ t 0 = s ∧ g 0 0 = c.gen ∧ c'.gen = g k.reps 0 ∧
    (∀ i, i < k.reps →
      (∀ j, j < k.lanes →
        g i (j + 1) = (if k.active c j then (f (t i) i j (g i j)).2.2 else g i j) ∧
        rowLane (s'.core.accRow (c.vrow (d + i))) k.w j =
          (if k.active c j then (f (t i) i j (g i j)).1 % 2 ^ (8 * k.w)
           else if k.zeroed c j then 0
           else rowLane (s.core.accRow (c.vrow (d + i))) k.w j)) ∧
      g (i + 1) 0 = g i k.lanes ∧
      (∀ row, row < 128 → (t (i + 1)).core.accRow row =
        if row = c.vrow (d + i) then s'.core.accRow row else (t i).core.accRow row) ∧
      (t (i + 1)).fab = s.fab ∧ (t (i + 1)).core.scratch = s.core.scratch ∧ (t (i + 1)).core.tile = s.core.tile ∧ (t (i + 1)).sync = s.sync) ∧
    (∀ row, row < 128 → (∀ i, i < k.reps → row ≠ c.vrow (d + i)) → s'.core.accRow row = s.core.accRow row) ∧
    s'.fab = s.fab ∧ s'.core.scratch = s.core.scratch ∧ s'.core.tile = s.core.tile ∧ s'.sync = s.sync

/-- The statement, through that name. -/
theorem lanewiseRowsWritten_iff : Obligations.LanewiseRowsWritten ↔
    ∀ k d f s c, k.lanes * k.w = 512 → k.lanes ≤ 512 → d + k.reps ≤ 32 → k.used ≤ k.lanes → Memory.wf s.core.acc = true →
      LanewiseFrame k d f s c := Iff.rfl

/-- R195, R196: the frame holds where lanes lie in one segment each. -/
theorem lanewiseFrame_of_dvd {k : Ctl} {d : Nat} {f : State → Nat → Nat → Dword → LaneOut} {s : State} {c : Context}
    (hw : k.w ∣ 128) (hrow : k.lanes * k.w = 512) (hd : d + k.reps ≤ 32) (hwf : Memory.wf s.core.acc = true) :
    LanewiseFrame k d f s c := by
  have hframe := k.before_frame (d := d) (f := f) (c := c) hwf
  obtain ⟨gen, flags, hctx⟩ := k.before_ctx (d := d) (f := f) (s := s) (c := c) k.reps
  refine ⟨fun i => (k.before d f s c i).1, fun i => k.genBefore (k.before d f s c i).2 (f (k.before d f s c i).1 i),
    (k.before d f s c k.reps).1, (k.before d f s c k.reps).2.issuedVector, k.repeat_eq d f s c, by rw [hctx]; rfl, by rw [hctx]; rfl,
    by rw [hctx]; rfl, by rw [hctx]; rfl, rfl, rfl, rfl, fun i hi => ⟨fun j hj => ⟨?gen, k.after_lane hwf hd hw hrow hi hj⟩,
      k.before_succ_gen i, fun row hr => ?rows, (hframe (i + 1)).2⟩,
    fun row hr hne => k.before_accRow hwf hr (Nat.zero_le _) fun i _ hi => hne i hi, (hframe k.reps).2⟩
  case gen =>
    dsimp only
    rw [Ctl.genBefore, k.before_active]
  case rows =>
    split
    · next e => rw [e, k.after_ownRow hwf hd hi]
    · next e => rw [k.before_succ_core, CoreState.writeLanes_accRow_other _ _ _ (hframe i).1 hr e]

/-- R195, R196: so it holds for every lane type a control word can name. -/
theorem lanewiseFrame_of_laneType {k : Ctl} {d : Nat} {f : State → Nat → Nat → Dword → LaneOut} {s : State} {c : Context}
    (ht : laneType c k.o1 = some k.t) (hrow : k.lanes * k.w = 512) (hreps : d + k.reps ≤ 32) (hwf : Memory.wf s.core.acc = true) :
    LanewiseFrame k d f s c :=
  lanewiseFrame_of_dvd (Ctl.width_dvd ht hrow) hrow hreps hwf

/-- R223: the bits of a row that a segment holds. -/
def segBits : Nat := 1024

/-- Lanes of 512 bytes, a row each, which no control word gives (R182). -/
def wideCtl : Ctl := ⟨0, 0, .int false 4096, 0, 1⟩

/-- A lane operation whose result is one bit, of the row's second segment. -/
def secondSegmentBit (_ : State) (_ _ : Nat) (g : Dword) : LaneOut := (2 ^ segBits, {}, g)

/-- One repetition writes the one lane of row 0. -/
theorem wide_repeat : wideCtl.repeat 0 wideCtl.lanes secondSegmentBit State.reset freshContext =
    .done (State.reset.setVlanes freshContext 0 512 [(0, 2 ^ segBits)]) freshContext.issuedVector := rfl

/-- The model touches the segment in which a lane begins and no other, so that bit reads 0 (R223). -/
theorem wide_bit :
    ((State.reset.setVlanes freshContext 0 512 [(0, 2 ^ segBits)]).core.accRow (freshContext.vrow 0)).getLsbD segBits = false := by
  rw [CoreState.accRow_getLsbD, show bit (State.reset.setVlanes freshContext 0 512 [(0, 2 ^ segBits)]).core.actouch _ = false from rfl,
    Bool.and_false]

/-- So the lane does not hold its result. -/
theorem not_lanewiseFrame_wide : ¬ LanewiseFrame wideCtl 0 secondSegmentBit State.reset freshContext := by
  rintro ⟨t, g, s', c', hrun, -, -, -, -, -, -, -, hrows, -⟩
  obtain ⟨rfl, -⟩ := Res.done.inj (wide_repeat.symm.trans hrun)
  obtain ⟨-, hlane⟩ := (hrows 0 Nat.zero_lt_one).1 0 (by decide)
  rw [if_pos (show wideCtl.active freshContext 0 = true from rfl)] at hlane
  have hbit := congrArg (fun v => v.testBit segBits) hlane
  simp only [rowLane_testBit _ (show 0 < wideCtl.w by decide), Nat.testBit_mod_two_pow] at hbit
  rw [decide_eq_true (show segBits < 8 * wideCtl.w by decide), Bool.true_and, Bool.true_and, Nat.mul_zero, Nat.zero_add, secondSegmentBit,
    Nat.testBit_two_pow_self] at hbit
  exact Bool.false_ne_true (wide_bit.symm.trans hbit)

/-- Refutes O31: the statement asks of k only that its lanes fill a row, so it speaks of lanes wider than a segment too, of which a write
touches the first segment alone. With a lane type that a control word can name it holds: `lanewiseFrame_of_laneType`. -/
theorem not_lanewiseRowsWritten : ¬ Obligations.LanewiseRowsWritten := fun h =>
  not_lanewiseFrame_wide
    (lanewiseRowsWritten_iff.mp h wideCtl 0 secondSegmentBit State.reset freshContext (by decide) (by decide) (by decide) (by decide) rfl)

end Sys2Proof

/-! The matrix engine: the first touch of the accumulator (R236 to R239), the words that set its field sets (R231, R232, R268) and the words
that launch its operations (R233 to R235, R240). -/

namespace Sys2Proof.Machine

/-! The accumulator's owner. -/

/-- R236: the owner word of a context names it. -/
theorem bits_ownerWord {n : Nat} (h : n < 2 ^ 14) : bits (ownerWord n) 13 0 = n := by
  rw [bits_zero, ownerWord, BitVec.toNat_ofNat]
  omega

/-- R236: and is valid. -/
theorem bit_ownerWord (n : Nat) : bit (ownerWord n) 14 = true := by
  have h : n % 2 ^ 14 < 2 ^ 14 := Nat.mod_lt _ (by decide)
  simp only [bit, ownerWord, BitVec.getLsbD_ofNat]
  rw [Nat.testBit_two_pow_add_eq, Nat.testBit_lt_two_pow h]
  rfl

/-- R239: a claim makes its context the owner. -/
theorem State.claim_owner (s : State) {n : Nat} (h : n < 2 ^ 14) : (s.claim n).core.owner = some n := by
  rw [CoreState.owner, show (s.claim n).core.acown = ownerWord n from rfl, bit_ownerWord, bits_ownerWord h]
  rfl

/-- R237, R238: what it is for the owner word of a save area to name a context. -/
theorem savedFor_iff {v : Dword} {n : Nat} : savedFor v n = true ↔ v.getLsbD 14 = true ∧ bits v 13 0 = n := by
  simp [savedFor, bit]

section
variable {s : State} {c : Context} (hm : s.moving = false) (hp : c.prv.cur ≠ .machine) (k : State → Context → Res)
include hm hp

/-- R238: where another context owns the accumulator a touch takes ACCFIRST with ACOWN. -/
theorem touching_foreign {o : Nat} (ho : s.core.owner = some o) (hne : o ≠ c.ctxid.toNat) :
    touching k s c = .trap .accfirst (zext64 s.core.acown) := by
  unfold touching
  rw [hm, if_neg Bool.false_ne_true]
  split
  · exact absurd ‹_› hp
  · simp only [ho, if_neg hne]

/-- R238, R239: with no owner, the owner word of the context's save area decides between ACCFIRST and a claim. -/
theorem touching_unowned {w : Dword} (ho : s.core.owner = none)
    (hw : deviceDword s (s.partOf c.launch) (s.saveArea (s.partOf c.launch) c.ctxid.toNat + 8) = .ok w) :
    touching k s c = if savedFor w c.ctxid.toNat then .trap .accfirst (zext64 s.core.acown) else k (s.claim c.ctxid.toNat) c := by
  unfold touching
  rw [hm, if_neg Bool.false_ne_true]
  split
  · exact absurd ‹_› hp
  · simp only [ho, hw]

end

/-! Engine words. -/

section
variable {s : State} {k : Cmd} {st : List Dword} (h : WordRuns s k st) {body : State → Cmd → List Dword → WordRes}
include h

/-- R44, R46: an engine word before which nothing stands does what its own meaning answers. -/
theorem runWord_of_runs : runWord false body s = match body s k st with
    | .wait => .next s
    | .fault c v => .next (s.endCommand k c v)
    | .ok s' st' => .next (afterWord k s.eng.cmds.tail s' st') := by
  obtain ⟨rest, hc⟩ := List.head?_eq_some_iff.mp h.head
  have hd := h.depth
  simp only [h.stack] at hd ⊢
  simp only [runWord, hc, h.free, Nat.not_lt.mpr hd, Bool.false_eq_true, if_false]
  rfl

/-- A word that completes leaves its effect and its stack. -/
theorem runWord_ok {s' : State} {st' : List Dword} (hb : body s k st = .ok s' st') :
    runWord false body s = .next (afterWord k s.eng.cmds.tail s' st') := by
  rw [runWord_of_runs h, hb]

/-- A word that fails ends its command. -/
theorem runWord_fault {c : Cause} {v : Dword} (hb : body s k st = .fault c v) : runWord false body s = .next (s.endCommand k c v) := by
  rw [runWord_of_runs h, hb]

end

/-- R46: a word that pops the values on top of the stack sees them and the rest. -/
theorem popping_append (body : State → Cmd → List Dword → List Dword → WordRes) (s : State) (k : Cmd) (vs rest : List Dword) :
    popping vs.length body s k (vs ++ rest) = body s k vs rest := by
  simp [popping]

/-- R46: a word that pops its operands completes where its own meaning does. -/
theorem pops_of_popping {i : Instr} (word : State → Answer) {vs : List Dword} {ready : State → Cmd → Prop}
    {effect : State → Cmd → State} {body : State → Cmd → List Dword → List Dword → WordRes} (hx : exec i = word)
    (hw : word = runWord false (popping vs.length body))
    (hb : ∀ s k rest, ready s k → body s k vs rest = .ok (effect s k) rest) : Pops i vs [] ready effect := fun s k rest hr _ hy => by
  rw [hx, hw]
  exact runWord_ok hr ((popping_append body s k vs rest).trans (hb s k rest hy))

/-! Setters. -/

/-- R232: a setter whose argument is assigned makes of the popped values the shadow set that its meaning gives. -/
theorem pops_of_setter {i : Instr} (word : State → Answer) {bad : Bool} {vs : List Dword} {f : List Dword → Fields → Fields}
    {effect : State → Cmd → State} (hx : exec i = word) (hw : word = setter bad vs.length f) (hb : bad = false)
    (he : ∀ s k, s.mapShadow (f vs) = effect s k) : Pops i vs [] anyCmd effect := by
  subst hb
  exact pops_of_popping word hx hw fun s k _ _ => congrArg (WordRes.ok · _) (he s k)

/-- R232: a word that pops nothing changes the state as its meaning says. -/
theorem pops_nothing {i : Instr} {effect : State → State}
    (hx : ∀ s, exec i s = runWord false (popping 0 fun s _ _ st => .ok (effect s) st) s) :
    Pops i [] [] anyCmd (fun s _ => effect s) :=
  pops_of_popping (exec i) rfl (funext hx) fun _ _ _ _ => rfl

/-- R268: `mgrp` of rows and ranks in range packs them into the group's field. -/
theorem groupWord_ok {rk urow drow : Dword} (hk : rk.toNat < 128) (hu : urow.toNat < 1024) (hd : drow.toNat < 1024) (g : BitVec 4)
    (s : State) (k : Cmd) (st : List Dword) : groupWord g s k [rk, urow, drow] st =
      .ok (s.mapShadow (·.put (0x60 + g.toNat) (.ofNat 64 (drow.toNat * 2 ^ 22 + urow.toNat * 2 ^ 12 + rk.toNat * 2 ^ 5)))) st :=
  if_neg (by omega)

/-! Launches. -/

section
variable {s : State} {k : Cmd} {t : AccType} (ht : k.iss.accType = some t)
include ht

/-- R233: `mgo` of a set that passes its checks launches it and opens the windows of its rows. -/
theorem goWord_ok {side : Bool} (ho : s.eng.mx.active.ok t = true) (hs : side = true → s.eng.mx.active.sideOk t = true)
    (vs st : List Dword) : goWord side s k vs st =
      .ok (((s.mxLaunch k (.go s.eng.mx.active side) true).openWindows k.iss 0 false true s.eng.mx.active.writes).openWindows k.iss 0
        true false (s.eng.mx.active.reads side)) st := by
  have hc : (!s.eng.mx.active.ok t || (side && !s.eng.mx.active.sideOk t)) = false := by
    rw [ho]
    cases side with
    | false => rfl
    | true => rw [hs rfl]; rfl
  simp only [goWord, ht, hc, Bool.false_eq_true, if_false]

/-- R234: `mzero` of a rectangle in the accumulator launches it and opens the windows of its rows. -/
theorem zeroWord_ok {nl lf nr rf : Dword} (hr : nr ≠ 0) (hl : nl ≠ 0) (hrow : rf.toNat + nr.toNat ≤ 128)
    (hlane : lf.toNat + nl.toNat ≤ 512 / t.bytes) (st : List Dword) : zeroWord s k [nl, lf, nr, rf] st =
      .ok ((s.mxLaunch k (.zero rf.toNat nr.toNat lf.toNat nl.toNat) true).openWindows k.iss 0 false true
        (span rf.toNat nr.toNat)) st := by
  have hc : ¬(nr.toNat = 0 ∨ nl.toNat = 0 ∨ 128 < rf.toNat + nr.toNat ∨ 512 / t.bytes < lf.toNat + nl.toNat) := by
    rintro (h | h | h | h)
    · exact hr (BitVec.eq_of_toNat_eq h)
    · exact hl (BitVec.eq_of_toNat_eq h)
    · omega
    · omega
  simp only [zeroWord, List.map, ht, if_neg hc]

end

/-- R235: `mstat` of a row launches it and opens the row's window. -/
theorem statWord_ok {row : Dword} (h : row.toNat < 128) (clear : Bool) (s : State) (k : Cmd) (st : List Dword) :
    statWord clear s k [row] st =
      .ok ((s.mxLaunch k (.stat row.toNat clear) true).openWindows k.iss 0 false true [row.toNat]) st :=
  if_neg (Nat.not_le.mpr h)

/-- R240: a housekeeping word of machine privilege launches its operation, uncounted. -/
theorem housekeeping_machine {k : Cmd} (h : k.iss.level = .machine) (kind : MxKind) (word : Dword) (s : State) (vs st : List Dword) :
    housekeeping kind word s k vs st = .ok (s.mxLaunch k kind false) st :=
  if_neg (not_not_intro h)

/-- R240: of any other it is refused. -/
theorem housekeeping_refused {k : Cmd} (h : k.iss.level ≠ .machine) (kind : MxKind) (word : Dword) (s : State) (vs st : List Dword) :
    housekeeping kind word s k vs st = .fault .priv word :=
  if_pos h

end Sys2Proof.Machine

namespace Sys2Proof

open Machine

/-- Settles O34: the owner goes on; another's accumulator, or one saved for the context, makes a trap; else the touch is made in the state
that the context's claim leaves. -/
theorem accumulatorFirstTouch : Obligations.AccumulatorFirstTouch := by
  intro s c k hm hp id
  refine ⟨?own, ?foreign, ?unowned⟩
  case own => exact fun ho => touching_owned hm (.inr ho) k
  case foreign => exact fun o ho hne => touching_foreign hm hp k ho hne
  case unowned =>
    intro w ho hw
    have ht := touching_unowned hm hp k ho hw
    refine ⟨fun hs => ?saved, fun hs => ?empty⟩
    case saved => exact ht.trans (if_pos (savedFor_iff.mpr hs))
    case empty =>
      exact ⟨s.claim id, ht.trans (if_neg (savedFor_iff.not.mpr hs)), s.claim_owner c.ctxid.isLt, rfl, rfl, rfl, rfl, rfl⟩

/-- Settles O37: each setter's fields and values are its meaning's own, once its argument is in range; `mgrp` checks its values too, and the
last three words act on the sets as wholes. -/
theorem matrixSettersWriteShadow : Obligations.MatrixSettersWriteShadow := by
  intro f l g3 g4 x y b1 a b c d e h sets six
  refine ⟨?mset, ?mgeo, ?msra, ?msrb, ?mdst, ?mssr, ?mfmt, ?mbsf, ?mtr, ?mcos0, ?mcos1, ?mlev, ?mstr, ?mepi0, ?mepi1, ?mtsc, ?mgrp,
    ?mgclr, ?msfm, ?msar, ?msdb, ?msds, ?mswp, ?mcpy, ?mrst⟩
  case mset =>
    intro hf hr
    refine pops_of_setter (execMset f) rfl rfl ?_ fun _ _ => rfl
    rw [hr, decide_eq_false (Nat.not_le.mpr hf)]
    rfl
  case mlev =>
    intro hl
    exact pops_of_setter (execMlev l) rfl rfl (decide_eq_false (Nat.not_le.mpr hl)) fun _ _ => rfl
  case msfm =>
    intro hl
    refine pops_of_setter (execMsfm l) rfl rfl ?_ fun _ _ => rfl
    revert l
    decide
  case mgrp =>
    intro ha hb hc
    exact pops_of_popping (execMgrp g4) rfl rfl fun s k st _ => groupWord_ok ha hb hc g4 s k st
  case mswp | mcpy | mrst => exact pops_nothing fun _ => rfl
  case mgeo => exact pops_of_setter execMgeo rfl rfl rfl fun _ _ => rfl
  case msra => exact pops_of_setter execMsra rfl rfl rfl fun _ _ => rfl
  case msrb => exact pops_of_setter execMsrb rfl rfl rfl fun _ _ => rfl
  case mdst => exact pops_of_setter execMdst rfl rfl rfl fun _ _ => rfl
  case mssr => exact pops_of_setter execMssr rfl rfl rfl fun _ _ => rfl
  case mfmt => exact pops_of_setter (execMfmt y x) rfl rfl rfl fun _ _ => rfl
  case mbsf => exact pops_of_setter execMbsf rfl rfl rfl fun _ _ => rfl
  case mtr => exact pops_of_setter (execMtr b1) rfl rfl rfl fun _ _ => rfl
  case mcos0 => exact pops_of_setter (execMcos 0) rfl rfl rfl fun _ _ => rfl
  case mcos1 => exact pops_of_setter (execMcos 1) rfl rfl rfl fun _ _ => rfl
  case mstr => exact pops_of_setter (execMstr g3) rfl rfl rfl fun _ _ => rfl
  case mepi0 => exact pops_of_setter (execMepi 0) rfl rfl rfl fun _ _ => rfl
  case mepi1 => exact pops_of_setter (execMepi 1) rfl rfl rfl fun _ _ => rfl
  case mtsc => exact pops_of_setter execMtsc rfl rfl rfl fun _ _ => rfl
  case mgclr => exact pops_of_setter execMgclr rfl rfl rfl fun _ _ => rfl
  case msar => exact pops_of_setter execMsar rfl rfl rfl fun _ _ => rfl
  case msdb => exact pops_of_setter execMsdb rfl rfl rfl fun _ _ => rfl
  case msds => exact pops_of_setter (execMsds b1) rfl rfl rfl fun _ _ => rfl

/-- Settles O38: each launch word's checks pass by its hypotheses, and what it then launches and opens is the statement's; a housekeeping
word turns on the privilege alone. -/
theorem matrixOperationsLaunch : Obligations.MatrixOperationsLaunch := by
  intro b1 nl lf nr rf row queued counted opens
  refine ⟨fun t => ?mgo, fun t => ?mzero, ?mstat, ?msave, ?mload, ?refused⟩
  case mgo =>
    refine pops_of_popping (execMgo b1) rfl rfl fun s k st hy => ?_
    obtain ⟨ht, ho, hs⟩ := hy
    exact goWord_ok ht ho (fun hb => hs (eq_of_beq hb)) [] st
  case mzero =>
    intro hr hl hrow hlane
    exact pops_of_popping execMzero rfl rfl fun s k st ht => zeroWord_ok ht hr hl hrow hlane st
  case mstat =>
    intro hrow
    exact pops_of_popping (execMstat b1) rfl rfl fun s k st _ => statWord_ok hrow _ s k st
  case msave => exact pops_of_popping execMsave rfl rfl fun s _ st hl => housekeeping_machine hl _ _ s [] st
  case mload => exact pops_of_popping execMload rfl rfl fun s _ st hl => housekeeping_machine hl _ _ s [] st
  case refused =>
    intro s k st hr hl
    exact ⟨runWord_fault hr (housekeeping_refused hl _ _ s [] st), runWord_fault hr (housekeeping_refused hl _ _ s [] st)⟩

end Sys2Proof

/-! The words of the tile fetch unit (R246 to R248, R253, R256, R257). -/

namespace Sys2Proof.Machine

/-! A word that waits. -/

/-- A word that waits changes nothing. -/
theorem runWord_wait {s : State} {k : Cmd} {st : List Dword} (h : WordRuns s k st) {body : State → Cmd → List Dword → WordRes}
    (hb : body s k st = .wait) : runWord false body s = .next s := by
  rw [runWord_of_runs h, hb]

/-- R44: a word that completes leaves its command one word further on, or gone. -/
theorem afterWord_ne {s : State} {k : Cmd} (h : s.eng.cmds.head? = some k) (s' : State) (st : List Dword) :
    afterWord k s.eng.cmds.tail s' st ≠ s := by
  obtain ⟨rest, hc⟩ := List.head?_eq_some_iff.mp h
  intro he
  have hcmds := congrArg (·.eng.cmds) he
  simp only [afterWord, hc, List.tail_cons] at hcmds
  split at hcmds
  · exact absurd (congrArg List.length hcmds) (by simp)
  · have hi := congrArg Cmd.index (List.cons.inj hcmds).1
    exact absurd hi (Nat.succ_ne_self k.index)

/-! Launches. -/

/-- R246: what `fget` and `fwarm` pop, top first: the offset, G, then C with REL and the barrier address with EV. -/
def fetchOperands (rel ev : Bool) (off gv c n : Dword) : List Dword :=
  off :: gv :: ((if rel then [c] else []) ++ if ev then [n] else [])

/-- R253, R257: an accepted fetch f of plan p launched: its pins, where it has them at once, and its windows; or an `fwarm`. -/
def State.launchFetch (s : State) (k : Cmd) (p : FetchPlan) (f : Fetch) : State :=
  let t := (s.setEngCtx (s.engCtx 1 k.iss.ctx).launchOp).holdLeaves k.iss.part p.leaves
  let t := if f.stage = .pinned then p.lines.foldl State.pinLine t else t
  let t : State := { t with eng := { t.eng with fetches := t.eng.fetches ++ [f] } }
  if f.warm then (if f.policy = .noLlc then (t.bringFetched f).endWarm f else t)
  else t.openWindows k.iss 1 true true ((FetchGeo.parse f.g).rowsWritten f.form)

/-- R253: the stage a fetch is accepted at: an `fwarm` takes no pins, and a seventeenth pinning fetch of a context waits for its own. -/
def State.acceptedStage (s : State) (k : Cmd) (warm : Bool) : FetchStage :=
  if warm || decide (16 ≤ s.pinning k.iss.ctx) then .waiting else .pinned

/-- R246: C, where REL has it popped. -/
theorem fetchOperands_mark (rel ev : Bool) (off gv c n : Dword) :
    (if rel then some (BitVec.ofNat 32 (((fetchOperands rel ev off gv c n).drop 2).headD 0).toNat) else none) =
      if rel then some (c.truncate 32) else none := by
  cases rel <;> rfl

/-- R246: the barrier address, where EV has it popped. -/
theorem fetchOperands_barrier (rel ev : Bool) (off gv c n : Dword) :
    ((fetchOperands rel ev off gv c n).drop (if rel then 3 else 2)).headD 0 = if ev then n else 0 := by
  cases rel <;> cases ev <;> rfl

section
variable {s : State} {k : Cmd} {slot : Nat} {off gv c n : Dword} {p : FetchPlan} {warm rel ev : Bool}
  (hg : (FetchGeo.parse gv).ok (!warm) = true) (he : ev = true → bits n 4 0 = 0 ∧ bits n 63 26 = 0)
  (hp : checkFetch s k.iss slot off (FetchGeo.parse gv) = .ok p)
include hg he hp

/-- R414: with its checks passed, an `fwarm` under no-LLC waits for the scrub of a line it would bring in; any other fetch is launched. -/
theorem fetchWord_accepted (st : List Dword) : fetchWord warm rel ev slot s k (fetchOperands rel ev off gv c n) st =
    if warm ∧ p.handle.policy = .noLlc ∧ s.awaitsScrub p.lines then .wait
    else .ok (s.launchFetch k p (p.fetch k.iss (s.engCtx 1 k.iss.ctx).launched gv off (if rel then some (c.truncate 32) else none)
      (if ev then some n.toNat else none) warm (s.acceptedStage k warm))) st := by
  have hgood : ¬(!(FetchGeo.parse gv).ok (!warm) ||
      (ev && (decide (bits (if ev then n else 0) 4 0 ≠ 0) || decide (bits (if ev then n else 0) 63 26 ≠ 0)))) = true := by
    cases ev with
    | false => simp [hg]
    | true => simp [hg, he rfl]
  have hevent : (if ev then some (if ev then n else 0).toNat else none) = if ev then some n.toNat else none := by
    cases ev <;> rfl
  rw [fetchWord, fetchOperands_mark, fetchOperands_barrier, hevent,
    show ((fetchOperands rel ev off gv c n).drop 1).headD 0 = gv from rfl]
  refine (if_neg hgood).trans ?_
  rw [show (fetchOperands rel ev off gv c n).headD 0 = off from rfl, hp, State.launchFetch, State.acceptedStage]
  dsimp only
  generalize (warm || decide (16 ≤ s.pinning k.iss.ctx)) = full
  cases full <;> rfl

end

/-- What an accepted fetch or `fwarm` has passed (R247, R248). -/
def FetchAccepted (tile : Bool) (slot : Nat) (off gv : Dword) (p : FetchPlan) (s : State) (k : Cmd) : Prop :=
  (FetchGeo.parse gv).ok tile = true ∧ checkFetch s k.iss slot off (FetchGeo.parse gv) = .ok p

/-- R246: their number. -/
theorem fetchOperands_length (e r : BitVec 1) (off gv c n : Dword) :
    (fetchOperands (r == 1) (e == 1) off gv c n).length = 2 + r.toNat + e.toNat := by
  obtain rfl | rfl := e.eq_zero_or_eq_one <;> obtain rfl | rfl := r.eq_zero_or_eq_one <;> rfl

/-- R246, R253: an accepted `fget` launches its fetch. -/
theorem fget_launches (e r : BitVec 1) (h : BitVec 4) (off gv c n : Dword) (p : FetchPlan)
    (he : (e == 1) = true → bits n 4 0 = 0 ∧ bits n 63 26 = 0) :
    Pops (.fget e r h) (fetchOperands (r == 1) (e == 1) off gv c n) [] (FetchAccepted true h.toNat off gv p) fun s k =>
      s.launchFetch k p (p.fetch k.iss (s.engCtx 1 k.iss.ctx).launched gv off (if r == 1 then some (c.truncate 32) else none)
        (if e == 1 then some n.toNat else none) false (s.acceptedStage k false)) := by
  refine pops_of_popping (body := fetchWord false (r == 1) (e == 1) h.toNat) (execFget e r h) rfl ?_ fun s k st hy => ?_
  · rw [fetchOperands_length]
    rfl
  · obtain ⟨hg, hp⟩ := hy
    exact (fetchWord_accepted hg he hp st).trans (if_neg fun hw => Bool.false_ne_true hw.1)

/-- R246, R257: an accepted `fwarm` launches its fetch, where under no-LLC no line of it awaits a scrub. -/
theorem fwarm_launches (h : BitVec 4) (off gv : Dword) (p : FetchPlan) :
    Pops (.fwarm h) [off, gv] []
      (fun s k => FetchAccepted false h.toNat off gv p s k ∧ (p.handle.policy = .noLlc → s.awaitsScrub p.lines = false))
      fun s k => s.launchFetch k p (p.fetch k.iss (s.engCtx 1 k.iss.ctx).launched gv off none none true (s.acceptedStage k true)) := by
  refine pops_of_popping (execFwarm h) rfl rfl fun s k st hy => ?_
  obtain ⟨⟨hg, hp⟩, hs⟩ := hy
  exact (fetchWord_accepted (rel := false) (ev := false) (c := 0) (n := 0) hg Bool.noConfusion hp st).trans
    (if_neg fun ⟨_, hpol, hw⟩ => Bool.false_ne_true ((hs hpol).symm.trans hw))

/-- R257, R414: an accepted `fwarm` under no-LLC with a line that awaits its scrub does not run yet. -/
theorem fwarm_waits {h : BitVec 4} {off gv : Dword} {p : FetchPlan} {s : State} {k : Cmd} {rest : List Dword}
    (hr : WordRuns s k ([off, gv] ++ rest)) (ha : FetchAccepted false h.toNat off gv p s k) (hpol : p.handle.policy = .noLlc)
    (hs : s.awaitsScrub p.lines = true) : exec (.fwarm h) s = .next s := by
  obtain ⟨hg, hp⟩ := ha
  refine runWord_wait hr ((popping_append _ s k [off, gv] rest).trans ?_)
  exact (fetchWord_accepted (rel := false) (ev := false) (c := 0) (n := 0) hg Bool.noConfusion hp rest).trans
    (if_pos ⟨rfl, hpol, hs⟩)

/-- R256: `frel` releases the fetch of its number, or marks it. -/
theorem frel_drops (n : Dword) : Pops .frel [n] [] anyCmd fun s k =>
    match s.eng.fetches.find? fun f => f.iss.ctx = k.iss.ctx && BitVec.ofNat 32 (f.num + 1) == n.truncate 32 with
    | some f => s.dropFetch f
    | none => s :=
  pops_of_popping execFrel rfl rfl fun _ _ _ _ => rfl

/-- R256: `fdrop` does so for every fetch of its context. -/
theorem fdrop_drops : Pops .fdrop [] [] anyCmd fun s k =>
    (s.eng.fetches.filter (·.iss.ctx == k.iss.ctx)).foldl State.dropFetch s :=
  pops_of_popping (body := dropWord) execFdrop rfl rfl fun _ _ _ _ => rfl

end Sys2Proof.Machine

namespace Sys2Proof

open Machine

/-! An `fwarm` under no-LLC of a line that a dead host holds modified. -/

/-- The word's operand: the geometry of one memory row of 32 bytes. -/
def oneRow : Dword := 0x3E000000

/-- The task that sends it. -/
def warmIssuer : Issuer := ⟨0, false, 0, 7, none, 0, .task, Vector.replicate 16 0, 0⟩

/-- Its command: `fwarm` of handle slot 0. -/
def warmCmd : Cmd := ⟨1, warmIssuer, none, [0x1100], 0, 0, true, none, 0, []⟩

/-- A page table at 0x1000 whose one leaf reads the first 32 MiB as they stand; at 0x10000 a handle of global space under no-LLC, of the
4 KiB at 0x11000. -/
def warmMemory : Cells 8 :=
  [(0x1000, 0x01), (0x1001, 0x20), (0x2000, 0x01), (0x2001, 0x30), (0x3000, 0x07),
   (0x10001, 0x10), (0x10002, 0x01), (0x10009, 0x10), (0x10010, 0x18)]

/-- R413, R414: host port 1 is fenced and holds the handle's first line modified, not yet scrubbed; the `fwarm` runs next. -/
def unscrubbed : State :=
  { State.reset with
    fab := { Fabric.reset with mem := warmMemory, hosts := [⟨1, 0x11000 / 64, .excl true⟩] }
    eng := { Engines.reset with cmds := [warmCmd], ctxs := [⟨1, 0, [0, oneRow], 0, [], 0⟩] }
    disp := { Dispatcher.reset with
      launches := [{ Launch.fresh 7 0 0 0 0 none with st := .running, res := { Resolved.widest with htab := 0x10000 } }] }
    parts := State.reset.parts.set 0 { PartRegs.reset with en := true, ptset := true, ptbase := 0x1000 }
    mgmt := { Mgmt.reset with up := true, hbm := 2 ^ 30, hosts := #v[⟨false, 0, false, false⟩, ⟨true, 3, false, true⟩] } }

/-- What its checks find. -/
def warmPlan : FetchPlan where
  handle := ⟨0x11000, 0x1000, 0, 0, .noLlc, .global, 0, 0⟩
  fmt := 0
  leaves := [⟨0, 0x2000000, 0x07, [(0, 2 ^ 43, 0x2001), (0, 2 ^ 34, 0x3001)]⟩]
  lines := [0x11000]

/-- R247, R248: the checks of the `fwarm` pass. -/
theorem unscrubbed_accepts : FetchAccepted false 0 0 oneRow warmPlan unscrubbed warmCmd := ⟨rfl, rfl⟩

/-- Nothing stands before it. -/
theorem unscrubbed_runs : WordRuns unscrubbed warmCmd [0, oneRow] := ⟨rfl, rfl, rfl, by decide⟩

/-- R414: its line awaits the scrub. -/
theorem unscrubbed_awaits : unscrubbed.awaitsScrub warmPlan.lines = true := by decide

/-- Refutes O39: the statement asks of an `fwarm` only that its checks pass, but under no-LLC one with a line that a dead host holds
modified waits for its scrub (R414, `fwarm_waits`), as in `unscrubbed`. Where no line of it does, `fwarm_launches` holds, and the other
words do as stated: `fget_launches`, `frel_drops`, `fdrop_drops`. -/
theorem not_tileFetchWordsLaunch : ¬ Obligations.TileFetchWordsLaunch := by
  intro h
  obtain ⟨-, -, -, hwarm, -⟩ := h 0 0 oneRow 0 0 warmPlan
  have hlaunched := hwarm unscrubbed warmCmd [] unscrubbed_runs (by decide) unscrubbed_accepts
  have hwaits := fwarm_waits (h := 0) (rest := []) unscrubbed_runs unscrubbed_accepts rfl unscrubbed_awaits
  exact afterWord_ne unscrubbed_runs.head _ _ (Host.Outcome.next.inj (hlaunched.symm.trans hwaits))

end Sys2Proof

/-! The words of the adapter translation unit (R277, R278). -/

namespace Sys2Proof.Machine

/-- What an adapter word has passed (R278): the partition's descriptor, and the span of its record. -/
def AdapterAccepted (kind : AtKind) (slot : Nat) (off : Dword) (d : AdDesc) (r : Mapped) (s : State) (k : Cmd) : Prop :=
  (s.part k.iss.part).adesc ≠ 0 ∧ s.adapterDesc k.iss.part = .ok d ∧ checkRecord s k.iss slot off (32 + 2 * kind.entries) = .ok r

/-- R278: an accepted adapter word launched: the pages of its record held, and its operation last in adapter order. -/
def State.launchAdapter (s : State) (k : Cmd) (kind : AtKind) (off : Dword) (a : Nat) (b : Bar) (r : Mapped) : State :=
  let t := (s.setEngCtx (s.engCtx 2 k.iss.ctx).launchOp).holdLeaves k.iss.part r.leaves
  { t with eng := { t.eng with adapt := t.eng.adapt ++ [⟨k.iss, (s.engCtx 2 k.iss.ctx).launched, kind, a, r.handle.key, b,
    .of r.handle.space (r.handle.base + off.toNat) r.leaves⟩] } }

theorem fits32_iff {v : Dword} : fits32 v = true ↔ v.toNat < 2 ^ 32 := decide_eq_true_iff

/-- R277: a version to be made must not be 0. -/
theorem newVersion_ok {v : Dword} (h0 : v ≠ 0) (h : v.toNat < 2 ^ 32) : (v != 0 && fits32 v) = true :=
  (Bool.and_eq_true ..).mpr ⟨bne_iff_ne.mpr h0, fits32_iff.mpr h⟩

section
variable {off a bar : Dword} {d : AdDesc} {b : Bar} {r : Mapped} {kind : AtKind} {slot : Nat} {ranges : Bool}
  (hbar : barOperand bar = some b) (ha : a.toNat < d.count) (hr : ranges = true)
include hbar ha hr

/-- R278: with its operands in range, an accepted adapter word launches its action. -/
theorem adapterWord_accepted {s : State} {k : Cmd} (h : AdapterAccepted kind slot off d r s k) (st : List Dword) :
    adapterWord kind ranges slot off a bar s k st = .ok (s.launchAdapter k kind off a.toNat b r) st := by
  obtain ⟨hpart, hdesc, hrec⟩ := h
  have hcount : decide (d.count ≤ a.toNat) = false := decide_eq_false (Nat.not_le.mpr ha)
  simp only [adapterWord, if_neg hpart, hbar, hr, hdesc, hcount, Check.awaits, hrec, Check.orFault]
  rfl

/-- R277: so does any word that pops its operands and checks them as an adapter word. -/
theorem pops_of_adapterWord {i : Instr} (word : State → Answer) {vs : List Dword}
    {body : State → Cmd → List Dword → List Dword → WordRes} (hx : exec i = word) (hw : word = runWord false (popping vs.length body))
    (hb : ∀ s k, body s k vs = adapterWord kind ranges slot off a bar s k) :
    Pops i vs [] (AdapterAccepted kind slot off d r) (fun s k => s.launchAdapter k kind off a.toNat b r) :=
  pops_of_popping word hx hw fun s k st h => (congrFun (hb s k) st).trans (adapterWord_accepted hbar ha hr h st)

end

end Sys2Proof.Machine

namespace Sys2Proof

open Machine

/-- Settles O40: each word's operands are in range by its hypotheses, and an adapter word in range whose checks pass launches its action
(`adapterWord_accepted`). -/
theorem adapterWordsLaunch : Obligations.AdapterWordsLaunch := by
  intro h w off a v m n vn ve bar d b r hbar ha launches
  refine ⟨?aget, ?apin, ?aunpin, ?aalloc, ?apub, ?aabort⟩
  case aget =>
    intro hv hm
    have hr : (fits32 v && decide (m.toNat ≤ 256)) = true := (Bool.and_eq_true ..).mpr ⟨fits32_iff.mpr hv, decide_eq_true hm⟩
    exact pops_of_adapterWord hbar ha hr (execAget w h) rfl rfl fun _ _ => rfl
  case apin =>
    intro hm
    exact pops_of_adapterWord hbar ha (decide_eq_true hm) (execApin w h) rfl rfl fun _ _ => rfl
  case aunpin =>
    intro hv
    exact pops_of_adapterWord hbar ha (fits32_iff.mpr hv) (execAunpin h) rfl rfl fun _ _ => rfl
  case aalloc =>
    intro hn1 hn hvn0 hvn hve
    have hr : (decide (1 ≤ n.toNat) && decide (n.toNat ≤ 256) && vn != 0 && fits32 vn && fits32 ve) = true := by
      simp only [Bool.and_eq_true, decide_eq_true_iff, bne_iff_ne, fits32_iff]
      exact ⟨⟨⟨⟨hn1, hn⟩, hvn0⟩, hvn⟩, hve⟩
    exact pops_of_adapterWord hbar ha hr (execAalloc h) rfl rfl fun _ _ => rfl
  case apub =>
    intro hvn0 hvn
    exact pops_of_adapterWord hbar ha (newVersion_ok hvn0 hvn) (execApub h) rfl rfl fun _ _ => rfl
  case aabort =>
    intro hvn0 hvn
    exact pops_of_adapterWord hbar ha (newVersion_ok hvn0 hvn) (execAabort h) rfl rfl fun _ _ => rfl

end Sys2Proof

/-! The words of the Wick (R308 to R317). -/

namespace Sys2Proof.Machine

/-! A word's record. -/

/-- R309: an operation of the Wick that has written the 32 bytes of its record: its number done, its arrival made with their count. -/
def State.writeWickRecord (s : State) (k : Cmd) (b : Bar) (spot : Spot) (bs : List Byte) : State :=
  ((s.writeFor k.iss 3 spot.space false (spot.writes 0 bs)).instantOp 3 k.iss.ctx).engineArrive k.iss 3 b 32
    (s.writeBad spot.space false (spot.writes 0 bs))

/-- R309: where the record of a checked span lies. -/
def Mapped.recordSpot (r : Mapped) (off : Dword) : Spot := .of r.handle.space (r.handle.base + off.toNat) r.leaves

/-- What `wclaim` and `wstat` have passed (R309): the span of the record, none of whose bytes is waited for. -/
def RecordAccepted (slot : Nat) (off : Dword) (r : Mapped) (s : State) (k : Cmd) : Prop :=
  checkRecord s k.iss slot off 32 = .ok r ∧ s.spotWaits (r.recordSpot off) 0 32 = false

/-- R309, R313: an accepted word acts on the state that holds its record's pages, then writes the record. -/
theorem wickRecord_accepted {slot : Nat} {off bar : Dword} {b : Bar} {r : Mapped} {s : State} {k : Cmd} (hbar : barOperand bar = some b)
    (h : RecordAccepted slot off r s k) (f : State → State × List Byte) (st : List Dword) :
    wickRecord slot off bar s k st f = .ok ((f (s.holdLeaves k.iss.part r.leaves)).1.writeWickRecord k b (r.recordSpot off)
      (f (s.holdLeaves k.iss.part r.leaves)).2) st := by
  obtain ⟨hrec, hwaits⟩ := h
  rw [Mapped.recordSpot] at hwaits
  simp only [wickRecord, hbar, hrec, Check.orFault, hwaits, Bool.false_eq_true, if_false]
  rfl

/-! A local walk. -/

/-- R314 item 2: a local walk takes a strided nest in lexicographic order. -/
def Nest.walkedLocally (n : Nest) : Nest := if n.order = .strided then { n with order := .lex } else n

/-- R290: the order has no part in the walk total. -/
theorem Nest.walkedLocally_total (n : Nest) : n.walkedLocally.total = n.total := by
  unfold Nest.walkedLocally
  split <;> rfl

/-- R314 items 3 and 4: the local walk that a `wlaunch` of nest n starts; it waits where no record slot is free. -/
def State.newLocal (s : State) (iss : Issuer) (b : Bar) (n : Nest) : LocalWalk :=
  ⟨s.disp.nextKey, iss.launch, iss, (s.engCtx 3 iss.ctx).launched, b, .start n 0 [],
    (s.freeRecFor 0 (s.localPrio iss.launch)).isNone⟩

/-- R314: that walk among the Wick's own, its operation launched. -/
def State.addLocal (s : State) (iss : Issuer) (b : Bar) (n : Nest) : State :=
  let t := s.setEngCtx (s.engCtx 3 iss.ctx).launchOp
  { t with disp := { t.disp with nextKey := s.disp.nextKey + 1 }, wick := { t.wick with locals := t.wick.locals ++ [s.newLocal iss b n] } }

/-- R295, R314: and in the record slot that is free for it, where one is. -/
def State.startLocal (s : State) (iss : Issuer) (b : Bar) (n : Nest) : State :=
  match s.freeRecFor 0 (s.localPrio iss.launch) with
  | some r => (s.addLocal iss b n).addRec ⟨r, iss.launch, some s.disp.nextKey, s.localPrio iss.launch⟩
  | none => s.addLocal iss b n

theorem State.startLocal_nextKey (s : State) (iss : Issuer) (b : Bar) (n : Nest) :
    (s.startLocal iss b n).disp.nextKey = s.disp.nextKey + 1 := by
  unfold State.startLocal
  split <;> rfl

theorem State.startLocal_locals (s : State) (iss : Issuer) (b : Bar) (n : Nest) :
    (s.startLocal iss b n).wick.locals = s.wick.locals ++ [s.newLocal iss b n] := by
  unfold State.startLocal
  split <;> rfl

/-- R314: `wlaunch` of a nest that is read, is well formed and has tasks starts its local walk. -/
theorem launchLocal_ok {slot : Nat} {off bar va : Dword} {b : Bar} {bs : List Byte} {ls : List Leaf} {n : Nest} {s : State} {k : Cmd}
    (hbar : barOperand bar = some b) (hread : readLocalNest s k.iss slot off = .ok (va, bs, ls)) (hparse : Nest.parse va bs = some n)
    (htotal : n.total ≠ 0) (st : List Dword) :
    launchLocal slot off bar s k st = .ok ((s.holdLeaves k.iss.part ls).startLocal k.iss b n.walkedLocally) st := by
  have hwalked : (if n.order = .strided then { n with order := .lex } else n).total ≠ 0 := by
    rwa [← n.walkedLocally_total] at htotal
  simp only [launchLocal, hbar, hread, Check.orFault, hparse, if_neg hwalked]
  rfl

/-- R314: so `wlaunch` pops its offset and its barrier, and starts the walk of the nest it reads. -/
theorem wlaunch_starts (h : BitVec 4) {off bar va : Dword} {b : Bar} {bs : List Byte} {ls : List Leaf} {n : Nest}
    (hbar : barOperand bar = some b) (hparse : Nest.parse va bs = some n) (htotal : n.total ≠ 0) :
    Pops (.wlaunch h) [off, bar] [] (fun s k => readLocalNest s k.iss h.toNat off = .ok (va, bs, ls))
      fun s k => (s.holdLeaves k.iss.part ls).startLocal k.iss b n.walkedLocally :=
  pops_of_popping (execWlaunch h) rfl rfl fun _ _ st hread => launchLocal_ok hbar hread hparse htotal st

/-! The issuing task's permit, its walk's stop and its launch's drain. -/

/-- R308: a control word pops nothing and acts on the walk or the task of its issuer. -/
theorem pops_of_control {i : Instr} {f effect : State → Cmd → State} {ready : State → Cmd → Prop}
    (hx : exec i = runWord false (popping 0 fun s k _ st => .ok (f s k) st)) (hf : ∀ s k, ready s k → f s k = effect s k) :
    Pops i [] [] ready effect :=
  pops_of_popping (vs := []) (exec i) rfl hx fun s k st hy => congrArg (WordRes.ok · st) (hf s k hy)

/-- R315: the permit of a resident task that holds one returns. -/
theorem relPermit_held {s : State} {iss : Issuer} {slot : Bool} {c : Context} (hslot : s.slotOf iss.ctx = some slot)
    (hc : s.ctx slot = some c) (hp : c.permit = true) :
    relPermit s iss = (s.setCtx slot (some { c with permit := false })).returnPermit := by
  simp only [relPermit, hslot, hc, hp, if_true]

/-- R317: above task privilege `wdrain` drains a launch that can be. -/
theorem drainWord_drains {s : State} {k : Cmd} {l : Launch} (hk : k.iss.level ≠ .task) (hl : s.launch k.iss.launch = some l)
    (hd : l.drainable = true) (vs st : List Dword) : drainWord s k vs st = .ok (s.startDrain l) st := by
  simp only [drainWord, if_neg hk, hl, hd, if_true]

/-- R317: at task privilege it is refused. -/
theorem drainWord_refused {s : State} {k : Cmd} (hk : k.iss.level = .task) (vs st : List Dword) :
    drainWord s k vs st = .fault .priv 0x1500 :=
  if_pos hk

end Sys2Proof.Machine

namespace Sys2Proof

open Machine

/-- Settles O41: `wclaim` and `wstat` write an accepted record (`wickRecord_accepted`), `wlaunch` starts its local walk (`wlaunch_starts`),
and the control words do what their own meanings say. -/
theorem wickWordsAct : Obligations.WickWordsAct := by
  intro h off n bar b r hbar spot clear wrote
  refine ⟨?wclaim, ?wstat, ?wlaunch, ?wrel, ?wstop, ?wdrain, ?refused⟩
  case wclaim =>
    intro hn1 hn
    have hcount : ¬(n.toNat = 0 ∨ 64 < n.toNat) := by omega
    exact pops_of_popping (execWclaim h) rfl rfl fun s k st hy =>
      (if_neg hcount).trans (wickRecord_accepted hbar hy (grant k.iss n.toNat) st)
  case wstat =>
    exact pops_of_popping (execWstat h) rfl rfl fun s k st hy =>
      wickRecord_accepted hbar hy (fun s => (s, snapshot k.iss s)) st
  case wlaunch =>
    intro va bs ls nest s k rest hr hread hparse htotal
    have hroom : rest.length ≤ 8 := (List.suffix_append [off, bar] rest).length_le.trans hr.depth
    exact ⟨_, wlaunch_starts h hbar hparse htotal s k rest hr hroom hread, State.startLocal_nextKey .., State.startLocal_locals ..⟩
  case wrel =>
    refine fun slot c => pops_of_control (f := fun s k => relPermit s k.iss) rfl fun s k hy => ?_
    obtain ⟨hslot, hc, hp⟩ := hy
    exact relPermit_held hslot hc hp
  case wstop => exact pops_of_control (f := fun s k => stopWalk s k.iss) rfl fun _ _ _ => rfl
  case wdrain =>
    intro l
    refine pops_of_popping execWdrain rfl rfl fun s k st hy => ?_
    obtain ⟨hk, hl, hd⟩ := hy
    exact drainWord_drains hk hl hd [] st
  case refused => exact fun s k st hr hk => runWord_fault hr (drainWord_refused hk [] st)

end Sys2Proof

/-! The instructions of synchronisation space: atomics, updates of barriers and rings, their tests and waits (R331 to R339). -/

namespace Sys2Proof.Machine

@[simp] theorem State.spendMark_lq (s : State) (slot : Bool) (c : Context) : (s.spendMark slot c).lq = c.lq := by
  unfold State.spendMark; split <;> rfl

@[simp] theorem State.spendMark_read (s : State) (slot : Bool) (c : Context) (r : Code) : (s.spendMark slot c).read r = c.read r := by
  unfold State.spendMark; split <;> rfl

/-- One bit, as a number. -/
theorem toNat_bit {w : Nat} (v : BitVec w) (n : Nat) : (bit v n).toNat = bits v n n := by
  rw [bit, bits, BitVec.getLsbD, Nat.toNat_testBit, Nat.add_sub_cancel_left]
  rfl

/-- R320, R336: the result of a phase test that met no object error: a spoiled block reads as 0. -/
theorem phaseResult_ok (s : State) (a : Nat) (met : Bool) : phaseResult s a false met = .ofNat 64 (met.toNat * 2 ^ 33 +
    (if s.spoiledAt a then 0 else bits (s.syncDword a) 61 61 * 2 ^ 32 + bits (s.syncDword a) 31 0)) := by
  unfold phaseResult
  cases s.spoiledAt a with
  | true => simp [toNat_bit, bits]
  | false => simp [toNat_bit, Nat.add_assoc]

section
variable {s : State} {c : Context} {n b d : Code} {a : Nat}

/-- R333: the operand of an atomic: the new value of `acas` lies beside the expected one. -/
def Atom.operand (op : Atom) (d : Code) : Code := if op = .cas then d + 1 else d

/-- R331 to R334: an atomic whose checks pass, with room in both queues, enters the load queue with its operand's low bits. -/
theorem sendAtomic_ready {op : Atom} {w : BitVec 1} {size : Nat} {m : Mapped} (hw : (if w = 1 then 8 else 4) = size)
    (hm : checkAtomic s (s.threadByte s.core.active) (s.access c.launch) n.toNat (c.slotIndex n.toNat) (c.read b) size = .ok m)
    (hr : s.bothReady c = true) :
    sendAtomic op w n b d d s c = .done (s.holdLeaves (s.partOf c.launch) m.leaves)
      { s.spendMark s.core.active c with
        lq := settled (c.lq ++ [⟨c.serial, m.handle.space, m.handle.policy, m.addrs, m.handle.va (c.read b),
          .atomic op (.ofNat 64 ((c.read (op.operand d)).toNat % 2 ^ (8 * size))) (.ofNat 64 ((c.read d).toNat % 2 ^ (8 * size))), d, false⟩])
        serial := c.serial + 1 } := by
  have hw' : (if w = 1#1 then 8 else 4) = size := hw
  have hlow (f : Code → Dword) : (if op = .cas then f (d + 1#6) else f d) = f (op.operand d) := (apply_ite f ..).symm
  simp only [sendAtomic, hw', hm, Check.orTrap, hr, Context.pushLoad, State.spendMark_serial, State.spendMark_lq, State.spendMark_read,
    State.spendMark_launch, hlow fun r => .ofNat 64 ((c.read r).toNat % 2 ^ (8 * size))]
  rfl

section
variable (ha : checkObject s c n.toNat (c.read b) = .ok a)
include ha

/-- R335: once older stores are performed, the arrival of a `barrive` is on its way. -/
theorem sendArrival_ready (hv : bits (c.read d) 62 32 = 0) (hg : s.storeMayGo s.core.active (c.addMark .s) = true) :
    sendArrival n b d s c = .done
      { s with inflight := s.inflight ++ [.arrive a (bits (c.read d) 31 0) ((c.read d).getLsbD 63)
          (.instr s.core.active c.launch c.ctxid.toNat)] }
      { c with mark := none, serial := c.serial + 1 } := by
  simp [sendArrival, hv, ha, Check.orTrap, hg, bit]

/-- R337: a reservation of at least one and fewer than 2^16 entries enters the load queue. -/
theorem sendReserve_ready (take : Bool) (h0 : 0 < (c.read d).toNat) (h16 : (c.read d).toNat < 2 ^ 16) (hr : s.bothReady c = true) :
    sendReserve take n b d s c = .done s { s.spendMark s.core.active c with
      lq := settled (c.lq ++ [⟨c.serial, .sync, .normal, span a 32, .ofNat 64 a, .reserve take (c.read d).toNat, d, false⟩])
      serial := c.serial + 1 } := by
  have hv : ¬(bits (c.read d) 63 16 ≠ 0 ∨ c.read d = 0) := by
    rintro (h | h)
    · exact h (by simp only [bits]; omega)
    · simp [h] at h0
  simp only [sendReserve, if_neg hv, ha, Check.orTrap, hr, Context.pushLoad, State.spendMark_serial, State.spendMark_lq]
  rfl

/-- R336: a phase test of a barrier answers at once where its phase is met, or the form does not wait. -/
theorem testPhase_answers {waits : Bool} {o : Barrier} (hr : s.readReady c a = true) (ho : s.barrierFor (s.partOf c.launch) a = some o)
    (hw : waits = true → upTo ((c.read d).truncate 32) (.ofNat 32 o.phase) = true) :
    testPhase waits n b d s c =
      readObject s (c.write d (phaseResult s a false (upTo ((c.read d).truncate 32) (.ofNat 32 o.phase)))) a false := by
  simp only [testPhase, ha, Check.orTrap, hr, ho]
  cases hm : upTo ((c.read d).truncate 32) (.ofNat 32 o.phase) with
  | true => rfl
  | false =>
    cases waits with
    | true => exact absurd (hw rfl) (by simp [hm])
    | false => rfl

end

/-- R337: the span of a dword whose bits 63 to 48 are 0 and whose count is not. -/
theorem spanOf_ok {v : Dword} (h : bits v 63 48 = 0) (hk : bits v 47 32 ≠ 0) : spanOf v = some (v.truncate 32, bits v 47 32) := by
  simp [spanOf, h, hk]

section
variable (ha : checkObject s c n.toNat (c.read b) = .ok a) (h : bits (c.read d) 63 48 = 0) (hk : bits (c.read d) 47 32 ≠ 0)
include ha h hk

/-- R338: the span of `rpost` and `rfree` that is not behind its turn joins the pending ones, where its turn or an entry is there for it. -/
theorem sendSpan_ready {free : Bool} (hg : s.storeMayGo s.core.active (c.addMark (if free then .p else .s)) = true)
    (hb : s.spanBehind (s.partOf c.launch) a free ((c.read d).truncate 32) = false) {p : PendingSpan}
    (hp : p = ⟨a, free, (c.read d).truncate 32, bits (c.read d) 47 32, s.core.active, s.issuer c, c.serial⟩) {s' : State}
    (hs : (if s.spanTurn p then some s else s.takeEntry (s.partOf c.launch) a) = some s') :
    sendSpan free n b d s c = .done { s' with sync := { s'.sync with pend := s'.sync.pend ++ [p] } }
      { c with mark := none, serial := c.serial + 1 } := by
  subst hp
  simp only [sendSpan, spanOf_ok h hk, ha, Check.orTrap, hg, hb, hs, Bool.not_true, Bool.false_eq_true, if_false]

/-- R339: a span test of a ring answers at once where its goal is reached, or the form does not wait. -/
theorem testSpan_answers {waits free met : Bool} {r : Ring} (hr : s.readReady c a = true) (ho : s.ring (s.partOf c.launch) a = some r)
    (hm : (if free then r.freed ((c.read d).truncate 32 + .ofNat 32 (bits (c.read d) 47 32))
      else r.filled ((c.read d).truncate 32 + .ofNat 32 (bits (c.read d) 47 32))) = met) (hw : waits = true → met = true) :
    testSpan waits free n b d s c = readObject s (if waits then c else c.write d (if met then 1 else 0)) a false := by
  simp only [testSpan, spanOf_ok h hk, ha, Check.orTrap, hr, ho, hm]
  cases met with
  | true => rfl
  | false =>
    cases waits with
    | true => exact absurd (hw rfl) Bool.false_ne_true
    | false => rfl

end

end

end Sys2Proof.Machine

namespace Sys2Proof

open Machine

/-- Settles O25: an atomic has no fixed-latency result, so it runs in the context as it stands, where one whose checks pass is sent. -/
theorem atomicsAreSent : Obligations.AtomicsAreSent := by
  intro st d n b w size low sends
  have sent {l : Instr} (op : Atom) (hx : ∀ s, exec l s = issue l anyLevel (sendAtomic op w n b d d) s) (hl : l.form.lat < 2) :
      sends l op fun c => c.read (op.operand d) := fun s c m hi hm hr =>
    finishes_of_short (hx s) hl hi (sendAtomic_ready rfl hm hr) rfl
  exact ⟨sent .swp (fun _ => rfl) Nat.zero_lt_two, sent .add (fun _ => rfl) Nat.zero_lt_two, sent .and (fun _ => rfl) Nat.zero_lt_two,
    sent .or (fun _ => rfl) Nat.zero_lt_two, sent .xor (fun _ => rfl) Nat.zero_lt_two, sent .min (fun _ => rfl) Nat.zero_lt_two,
    sent .max (fun _ => rfl) Nat.zero_lt_two, sent .minn (fun _ => rfl) Nat.zero_lt_two, sent .maxn (fun _ => rfl) Nat.zero_lt_two,
    sent .cas (fun _ => rfl) Nat.zero_lt_two, sent .fadd (fun _ => rfl) Nat.zero_lt_two⟩

/-- Settles O26: each update has no fixed-latency result, so it runs in the context as it stands, where its arrival is sent, its
reservation enters the queues or its span joins the pending ones. -/
theorem objectUpdatesAreSent : Obligations.ObjectUpdatesAreSent := by
  intro st d n b s c a ha v
  refine ⟨?arrival, ⟨?rres, ?rtake⟩, ?rpost, ?rfree⟩
  case arrival =>
    intro hi hv hg
    exact finishes_of_short rfl Nat.zero_lt_two hi (sendArrival_ready ha hv hg) rfl
  case rres | rtake =>
    intro hi h0 h16 hr
    exact finishes_of_short rfl Nat.zero_lt_two hi (sendReserve_ready ha _ h0 h16 hr) rfl
  case rpost | rfree =>
    intro hi h hk hg hb p s' hs
    exact finishes_of_short rfl Nat.zero_lt_two hi (sendSpan_ready ha h hk hg hb rfl hs) rfl

/-- Settles O27: a test, or a wait whose condition holds, has no fixed-latency result, so it runs in the context as it stands, where its
reading meets no object error and acquires. -/
theorem objectTestsAnswer : Obligations.ObjectTestsAnswer := by
  intro st d n b s c a ha hr part v got acq word
  have acquired (x : Context) : readObject s x a false = .bound got (acq (s.spendMark s.core.active x)) [] := by
    simp [readObject, got, acq]
  refine ⟨?barrier, ?ring⟩
  case barrier =>
    intro o ho met
    have answers {waits : Bool} (hw : waits = true → met = true) :
        testPhase waits n b d s c = .bound got (acq (s.spendMark s.core.active (c.write d (word met)))) [] := by
      rw [testPhase_answers ha hr ho hw, phaseResult_ok, acquired]
    refine ⟨fun hi => ?btest, fun hi hm => ?bwait⟩
    case btest => exact finishes_bound_none.mp (finishes_of_short rfl Nat.zero_lt_two hi (answers nofun) rfl)
    case bwait =>
      rw [← hm]
      exact finishes_bound_none.mp (finishes_of_short rfl Nat.zero_lt_two hi (answers fun _ => hm) rfl)
  case ring =>
    intro r ho h hk goal
    have answers {waits free met : Bool} (hm : (if free then r.freed goal else r.filled goal) = met) (hw : waits = true → met = true) :=
      (testSpan_answers ha h hk hr ho hm hw).trans (acquired _)
    refine ⟨fun hi => ?rtfill, fun hi => ?rtfree, fun hi hm => ?rwfill, fun hi hm => ?rwfree⟩
    case rtfill | rtfree => exact finishes_bound_none.mp (finishes_of_short rfl Nat.zero_lt_two hi (answers rfl nofun) rfl)
    case rwfill | rwfree =>
      exact finishes_bound_none.mp (finishes_of_short rfl Nat.zero_lt_two hi (answers hm fun _ => rfl) rfl)

end Sys2Proof

/-! The words of the synchronisation engine (R341 to R344). -/

namespace Sys2Proof.Machine

/-- R342: `yarv` of a barrier and a count that fits launches its arrival. -/
theorem arriveWord_ok {bar bytes : Dword} {a : Nat} (hbar : barOperand bar = some (some a)) (hn : bytes.toNat < 2 ^ 32) (poison : Bool)
    (s : State) (k : Cmd) (st : List Dword) :
    arriveWord poison s k [bar, bytes] st = .ok (s.launchSync k (.arv bytes.toNat poison) (some a)) st := by
  simp only [arriveWord, hbar, fits32_iff.mpr hn, if_true]

/-- R343: a reduction whose operands are in range, whose checks pass and whose source range is taken is launched. -/
theorem reduceWord_ok {op hd width : Nat} {dst slot src n bar : Dword} {b : Bar} {ds ss : Spot} {ls : List Leaf} {pd ps : CachePolicy}
    {s t : State} {k : Cmd} (hbar : barOperand bar = some b) (hop : redWidth op = some width) (h1 : 1 ≤ n.toNat) (hn : n.toNat ≤ 2 ^ 20)
    (hslot : slot.toNat ≤ 15) (hc : checkReduce s k.iss hd dst slot.toNat src n.toNat width = .ok (ds, ss, ls, pd, ps))
    (ht : s.takeRanges (redRange k (s.engCtx 4 k.iss.ctx).launched ss (n.toNat * width)) = some t) (st : List Dword) :
    reduceWord op hd s k [dst, slot, src, n, bar] st =
      .ok ((t.holdLeaves k.iss.part ls).launchSync k (.red op ds ss n.toNat pd ps) b) st := by
  have hr : ¬(n.toNat = 0 ∨ 2 ^ 20 < n.toNat ∨ 15 < slot.toNat) := by omega
  simp only [reduceWord, hop, hbar, if_neg hr, hc, Check.orFault, State.nextNum, ht]

/-- R343: an operation of an assigned width is not the reserved one. -/
theorem reduce_assigned {o : BitVec 3} {width : Nat} (h : redWidth o.toNat = some width) : (o == 7) = false := by
  refine beq_eq_false_iff_ne.mpr ?_
  rintro rfl
  cases h

/-- R344: `yadd` whose checks pass launches its addition. -/
theorem addWord_ok {w : BitVec 1} {slot : Nat} {off v : Dword} {m : Mapped} {s : State} {k : Cmd}
    (hm : checkAtomic s s.coherentByte (s.accessOf k.iss) slot ((k.iss.handles[slot]?).getD 0).toNat off (if w = 1 then 8 else 4) = .ok m)
    (st : List Dword) : addWord (w == 1) slot s k [off, v] st =
      .ok ((s.holdLeaves k.iss.part m.leaves).launchSync k (.add m.handle.space m.addrs v (m.handle.va off) m.handle.policy) none) st := by
  simp only [addWord, beq_iff_eq, hm, Check.orFault]

end Sys2Proof.Machine

namespace Sys2Proof

open Machine

/-- Settles O42: each word's operands pass by its hypotheses, and it then launches its operation (`State.launchSync`). -/
theorem syncWordsLaunch : Obligations.SyncWordsLaunch := by
  intro p w o h bar bytes dst slot src n off v b a ds ss ls pd ps m width launched
  refine ⟨?yarv, ?yred, ?yadd⟩
  case yarv =>
    intro hbar hn
    exact pops_of_popping (execYarv p) rfl rfl fun s k st _ => arriveWord_ok hbar hn _ s k st
  case yred =>
    intro hbar hop h1 hn hslot s k rest t hr hc ht
    have hx : exec (.yred o h) s = runWord false (popping 5 (reduceWord o.toNat h.toNat)) s :=
      congrArg (runWord · _ s) (reduce_assigned hop)
    rw [hx]
    exact runWord_ok hr ((popping_append _ s k [dst, slot, src, n, bar] rest).trans (reduceWord_ok hbar hop h1 hn hslot hc ht rest))
  case yadd => exact pops_of_popping (execYadd w h) rfl rfl fun s k st hm => addWord_ok hm st

end Sys2Proof

/-! The words of the copy engines (R347, R353 to R367). -/

namespace Sys2Proof.Machine

/-- R347: a launched copy operation among the others. -/
def State.launchCopyOp (s t : State) (k : Cmd) (kind : CpKind) (b : Bar) : State :=
  let t := t.setEngCtx (t.engCtx k.eng k.iss.ctx).launchOp
  { t with eng := { t.eng with cp := t.eng.cp ++ [⟨k.eng, k.iss, (s.engCtx k.eng k.iss.ctx).launched, kind, b, false, none, none, none, 0, 0,
    (kind.remote.bind fun r => s.peerOf k.iss.part (remoteMod r)).getD 0, false, 0, false, none, [], 0, false, none⟩] } }

/-- Taken ranges are the engines': a partition's peers stand. -/
theorem State.peerOf_takeRanges {s t : State} {rs : List Range} (h : s.takeRanges rs = some t) (part m : Nat) :
    t.peerOf part m = s.peerOf part m := by
  unfold State.takeRanges at h
  split at h
  · cases h
  · cases h
    rfl

/-- R347, R351: a copy operation with its operands in range and its ranges taken is launched. -/
theorem copyWord_ok {bar : Dword} {b : Bar} {fine : Bool} {kind : CpKind} {s t : State} {k : Cmd} (hbar : barOperand bar = some b)
    (hf : fine = true) (ht : s.takeRanges (rangesOf s k (s.engCtx k.eng k.iss.ctx).launched kind) = some t) (st : List Dword) :
    copyWord bar fine kind s k st = .ok (s.launchCopyOp t k kind b) st := by
  simp only [copyWord, hbar, hf, if_true, launchCopy, State.nextNum, ht, State.peerOf_takeRanges ht]
  rfl

/-- R347: what it is for a word with operands vs to launch an operation: from every state in which nothing stands before it, its own
condition holds and its ranges are free. -/
def LaunchesCopy (i : Instr) (vs : List Dword) (ready : State → Cmd → Prop) (kind : CpKind) (b : Bar) : Prop :=
  ∀ s k rest t, WordRuns s k (vs ++ rest) → ready s k →
    s.takeRanges (rangesOf s k (s.engCtx k.eng k.iss.ctx).launched kind) = some t →
    exec i s = .next (afterWord k s.eng.cmds.tail (s.launchCopyOp t k kind b) rest)

/-- R347: a word that checks its barrier and its operands as a copy word launches its operation where they are in range. -/
theorem launchesCopy_of_copyWord {i : Instr} {vs : List Dword} {ready : State → Cmd → Prop} {kind : CpKind} {b : Bar} {bar : Dword}
    (word : State → Answer) {body : State → Cmd → List Dword → List Dword → WordRes} {fine : State → Cmd → Bool}
    (hbar : barOperand bar = some b) (hx : exec i = word) (hw : word = runWord false (popping vs.length body))
    (hb : ∀ s k st, body s k vs st = copyWord bar (fine s k) kind s k st) (hf : ∀ s k, ready s k → fine s k = true) :
    LaunchesCopy i vs ready kind b := fun s k rest t hr hy ht => by
  rw [hx, hw]
  refine runWord_ok hr ((popping_append body s k vs rest).trans ?_)
  rw [hb]
  exact copyWord_ok hbar (hf s k hy) ht rest

theorem inRange_iff {v : Dword} {lo hi : Nat} : inRange v lo hi = true ↔ lo ≤ v.toNat ∧ v.toNat ≤ hi := by
  simp [inRange]

end Sys2Proof.Machine

namespace Sys2Proof

open Machine

/-- Settles O43: each launch word's operands are in range by its hypotheses, and a copy word in range whose ranges are free launches its
operation (`copyWord_ok`). -/
theorem copyWordsLaunch : Obligations.CopyWordsLaunch := by
  intro x y dst src n shape strides pat list spec z cap bar rbar b rb hl es e zn zw l hbar launches
  refine ⟨?ccopy, ?c2d, ?cfill, ?gathers, ?zips, ?crput, ?crget, ?crred⟩
  case ccopy =>
    intro h1 hn
    exact launchesCopy_of_copyWord (execCcopy x y) hbar rfl rfl (fun _ _ _ => rfl) fun _ _ _ => inRange_iff.mpr ⟨h1, hn⟩
  case c2d =>
    intro rows bytes h0 h1 hb hr
    refine launchesCopy_of_copyWord (execC2d x y) hbar rfl rfl (fun _ _ _ => rfl) fun _ _ _ => ?_
    simp only [Bool.and_eq_true, beq_iff_eq, decide_eq_true_iff]
    exact ⟨⟨⟨h0, h1⟩, hb⟩, hr⟩
  case cfill =>
    intro h1 hn
    exact launchesCopy_of_copyWord (execCfill y) hbar rfl rfl (fun _ _ _ => rfl) fun _ _ _ => inRange_iff.mpr ⟨h1, hn⟩
  case gathers =>
    intro hs
    refine ⟨?cgath, ?cscat⟩
    case cgath => exact launchesCopy_of_copyWord (execCgath x y) hbar rfl rfl (fun _ _ _ => by simp only [hs]) fun _ _ _ => rfl
    case cscat => exact launchesCopy_of_copyWord (execCscat x y) hbar rfl rfl (fun _ _ _ => by simp only [hs]) fun _ _ _ => rfl
  case zips =>
    intro hz
    refine ⟨fun hc hcap => ?czip, fun hm hmax => ⟨?cunz, ?cdf⟩⟩
    case czip =>
      exact launchesCopy_of_copyWord (execCzip x y) hbar rfl rfl (fun _ _ _ => by simp only [hz]) fun _ _ _ => inRange_iff.mpr ⟨hc, hcap⟩
    case cunz =>
      exact launchesCopy_of_copyWord (execCunz x y) hbar rfl rfl (fun _ _ _ => by simp only [unzipWord, hz]) fun _ _ _ =>
        inRange_iff.mpr ⟨hm, hmax⟩
    case cdf =>
      exact launchesCopy_of_copyWord (execCdf x y) hbar rfl rfl (fun _ _ _ => by simp only [unzipWord, hz]) fun _ _ _ =>
        inRange_iff.mpr ⟨hm, hmax⟩
  case crput =>
    intro hrb h1 hn
    exact launchesCopy_of_copyWord (execCrput x) hbar rfl rfl (fun _ _ _ => by simp only [hrb]) fun _ _ hr =>
      (Bool.and_eq_true ..).mpr ⟨inRange_iff.mpr ⟨h1, hn⟩, hr⟩
  case crget =>
    intro h1 hn
    exact launchesCopy_of_copyWord (execCrget y) hbar rfl rfl (fun _ _ _ => rfl) fun _ _ hr =>
      (Bool.and_eq_true ..).mpr ⟨inRange_iff.mpr ⟨h1, hn⟩, hr⟩
  case crred =>
    intro hrb h0 h20 hop
    refine launchesCopy_of_copyWord (execCrred x) hbar rfl rfl (fun _ _ _ => by simp only [hrb]; rfl) fun _ _ hr => ?_
    simp only [Bool.and_eq_true, beq_iff_eq, decide_eq_true_iff]
    exact ⟨⟨⟨h0, h20⟩, hop⟩, hr⟩

end Sys2Proof

/-! The words of the Lamplighter (R377 to R389). -/

namespace Sys2Proof.Machine

/-- R369: in a partition with a context a word of the Lamplighter pops its operands and completes where its own meaning does. -/
theorem pops_of_servingOnly {i : Instr} (word : State → Answer) {vs : List Dword} {ready : State → Cmd → Prop}
    {effect : State → Cmd → State} {body : State → Cmd → LlPart → List Dword → List Dword → WordRes} (hx : exec i = word)
    (hw : word = runWord false (servingOnly vs.length body)) (l : LlPart)
    (hb : ∀ s k st, ready s k → s.lamp k.iss.part = some l ∧ body s k l vs st = .ok (effect s k) st) :
    Pops i vs [] ready effect := fun s k rest hr _ hy => by
  obtain ⟨hl, hbody⟩ := hb s k rest hy
  rw [hx, hw]
  refine runWord_ok hr ?_
  simp only [servingOnly, hl, Option.isNone_some, Bool.false_eq_true, if_false, popping_append, lampWord]
  exact hbody

section
variable {s : State} {k : Cmd} {l : LlPart} {st : List Dword}

/-- R378: `lstep` whose step runs, and none of whose writes waits, leaves what the step leaves. -/
theorem stepWord_ok {bar : Dword} {b : Bar} {t : State} (hbar : barOperand bar = some b)
    (ht : stepLamp k.iss.part k.iss (s.engCtx 7 k.iss.ctx).launched k.index b (s.setEngCtx (s.engCtx 7 k.iss.ctx).launchOp) = some t)
    (hw : s.wroteAll t = true) : stepWord s k l [bar] st = .ok t st := by
  simp only [stepWord, List.headD_cons, hbar, State.nextNum, State.launchLamp, ht, hw, if_true]

/-- R387: `lret` of a slot in range whose table write does not wait marks it. -/
theorem retWord_ok {q : Dword} {cause : Nat} (hq : q.toNat < 4096) (hw : s.wroteAll (s.markSeq k.iss.part q.toNat cause 0) = true)
    (ha : s.markAwaits k.iss.part q.toNat = false) :
    retWord cause s k l [q] st = .ok ((s.markSeq k.iss.part q.toNat cause 0).instantOp 7 k.iss.ctx) st := by
  have hr : ¬4096 ≤ q.toNat := Nat.not_le.mpr hq
  simp only [retWord, List.headD_cons, if_neg hr, hw, ha, Bool.not_false, Bool.and_self, if_true]

/-- R389: a record whose span is accepted, none of whose bytes is waited for, and that is formed, is written. -/
theorem lampRecord_ok {slot n : Nat} {off bar : Dword} {b : Bar} {r : Mapped} {bs : List Byte} {f : State → Check (List Byte)}
    {spot : Spot} (hspot : spot = r.recordSpot off)
    (hbar : barOperand bar = some b) (hrec : checkRecord s k.iss slot off n = .ok r) (hwaits : s.spotWaits spot 0 n = false)
    (hf : f ((s.setEngCtx (s.engCtx 7 k.iss.ctx).launchOp).holdLeaves k.iss.part r.leaves) = .ok bs) {t : State}
    (ht : t = (s.setEngCtx (s.engCtx 7 k.iss.ctx).launchOp).holdLeaves k.iss.part r.leaves) :
    lampRecord slot n off bar s k st f = .ok (endLamp k.iss (s.engCtx 7 k.iss.ctx).launched b n
      (t.writeBad spot.space false (spot.writes 0 bs)) none (t.writeFor k.iss 7 spot.space false (spot.writes 0 bs))) st := by
  subst hspot ht
  rw [Mapped.recordSpot] at hwaits
  simp only [lampRecord, hbar, hrec, Check.orFault, hwaits, Bool.false_eq_true, if_false, State.launchLamp, hf]
  rfl

end

end Sys2Proof.Machine

namespace Sys2Proof

open Machine

/-- Settles O44: in a partition with a context each word completes where its own meaning does: a step that runs (`stepWord_ok`), a mark
that does not wait (`retWord_ok`), a record that is accepted and formed (`lampRecord_ok`). -/
theorem lamplighterWordsAct : Obligations.LamplighterWordsAct := by
  intro cause hold h off q bar b l r bs spot held wrote formed hbar
  refine ⟨?lstep, ?lret, ?lhold, ?lstat, ?lseq⟩
  case lstep =>
    intro step
    refine pops_of_servingOnly execLstep rfl rfl l fun s k st ⟨hl, t, ht, hw⟩ => ⟨hl, ?_⟩
    rw [ht]
    exact stepWord_ok hbar ht hw
  case lret =>
    intro hcause hq
    have hassigned : (cause != 3 && cause != 4) = false := by
      rcases hcause with hc | hc
      · rw [BitVec.eq_of_toNat_eq (y := 3#3) hc]; rfl
      · rw [BitVec.eq_of_toNat_eq (y := 4#3) hc]; rfl
    exact pops_of_servingOnly (execLret cause) rfl (funext fun s => congrArg (runWord · _ s) hassigned) l
      fun s k st ⟨hl, hw, ha⟩ => ⟨hl, retWord_ok hq hw ha⟩
  case lhold => exact pops_of_servingOnly (vs := []) (execLhold hold) rfl rfl l fun _ _ _ hl => ⟨hl, rfl⟩
  case lstat =>
    exact pops_of_servingOnly (execLstat h) rfl rfl l fun s k st ⟨hl, hrec, hwaits, hf⟩ =>
      ⟨hl, lampRecord_ok rfl hbar hrec hwaits hf rfl⟩
  case lseq =>
    intro hq
    exact pops_of_servingOnly (execLseq h) rfl rfl l fun s k st ⟨hl, hrec, hwaits, hf⟩ =>
      ⟨hl, (if_neg (Nat.not_le.mpr hq)).trans (lampRecord_ok rfl hbar hrec hwaits hf rfl)⟩

end Sys2Proof

/-! Synchronisation space and the coherence messages (R320, R323, R324, R338, R392 to R394). -/

namespace Sys2Proof.Machine

/-- An event that its rule enables leaves the state it makes. -/
theorem next_of_ready {ready : Prop} [Decidable ready] {s t u : State} (hr : ready) (h : t = u) :
    (.next (if ready then t else s) : Answer) = .next u := by
  rw [if_pos hr, h]

/-! Synchronisation space. -/

/-- Bytes lie in one block exactly where they have the same block number. -/
theorem blockOf_eq_iff {a b : Nat} : blockOf a = blockOf b ↔ a / 32 = b / 32 := by
  unfold blockOf; omega

/-- A state with more spoiled dwords, all of one block. -/
theorem spoiledAt_append (s : State) (b : Nat) (ds : List Nat) (hds : ∀ d ∈ ds, blockOf d = b) (hne : ds ≠ []) (x : Nat) :
    ({ s with sync := { s.sync with spoiled := (s.sync.spoiled ++ ds).eraseDups } } : State).spoiledAt x = true ↔
      s.spoiledAt x = true ∨ blockOf x = b := by
  obtain ⟨d, hd⟩ := List.exists_mem_of_ne_nil ds hne
  simp only [State.spoiledAt, List.any_eq_true, List.mem_eraseDups, List.mem_append, decide_eq_true_eq, or_and_right, exists_or]
  refine or_congr_right ⟨fun ⟨e, he, hx⟩ => hx.symm.trans (hds e he), fun hx => ⟨d, hd, (hds d hd).trans hx.symm⟩⟩

section
variable {s : State}

/-- R338: the first pending span applies once its turn has come. -/
theorem applyPending_first {p : PendingSpan} {rest : List PendingSpan} (hp : s.sync.pend = p :: rest) {s' : State}
    (ha : ({ s with sync := { s.sync with pend := rest } } : State).applySpan p = some s') : applyPending 0 s = s' := by
  simp only [applyPending, hp, List.getElem?_cons_zero, List.eraseIdx_cons_zero, ha]

/-- R338: it is ready where it has its turn. -/
theorem spanReady_first {p : PendingSpan} {rest : List PendingSpan} (hp : s.sync.pend = p :: rest) (ht : s.spanTurn p = true) :
    spanReady 0 s = true := by
  simp [spanReady, hp, ht]

/-! The home. -/

variable {w who : Nat}

/-- R393: the oldest registration of the modelled core, next at its home and not recorded, may be recorded. -/
theorem registrationReady_own {m : BitVec 4} {k : CacheWord} (hm : s.nextMsg true w = some (.register w m)) (hk : s.fab.copy w = some k)
    (hr : ∃ r ∈ k.regs, r.recorded = false) (hf : inFrames (4 * w) = false) (hw : s.writeWaits (4 * w) = false) :
    registrationReady w s.core.id s = true := by
  simp [registrationReady, hf, hw, hm, hk, hr]

/-- R393: another core's where its line takes writes. -/
theorem registrationReady_other (h : who ≠ s.core.id) (hf : inFrames (4 * w) = false) (hw : s.writeWaits (4 * w) = false) :
    registrationReady w who s = true := by
  simp [registrationReady, hf, hw, h]

/-- R393: the write-back of another core's registered word, of a line with no error to come, is the home's value. -/
theorem writeBackAtHome_other (v : Word) (h : who ≠ s.core.id) (hl : s.fab.latent.contains (lineOf (4 * w)) = false) :
    writeBackAtHome w who v s = { s with fab := (s.fab.unregister w).putBytes (maskBytes w 15 v) } := by
  have hl' : (s.fab.unregister w).latent.contains (lineOf (4 * w)) = false := hl
  simp only [writeBackAtHome, if_neg h, hl', Bool.false_eq_true, if_false]

/-! The core. -/

/-- R394, log 95: what a revoke that is answered leaves of a word. -/
def CacheWord.afterRevoke (k : CacheWord) : Option CacheWord :=
  match k.st with
  | .r | .w => none
  | .p => some { k with held := none }
  | .v => some k

section
variable {k : CacheWord} (hk : s.fab.copy w = some k)
include hk

/-- R394: a core that holds a value answers for it. -/
theorem answersFor_held (hh : k.held ≠ none) : s.answersFor w = true := by
  simpa [State.answersFor, hk] using Option.isSome_iff_ne_none.mpr hh

/-- R394: a revoke from R, W or between registrations. -/
theorem receive_revoke (mask : BitVec 4) : s.receive (.revoke w who mask) =
    { s with inflight := s.inflight.erase (.revoke w who mask), fab := s.fab.setCopy w k.afterRevoke } := by
  simp only [State.receive, State.takeRevoke, hk]
  rfl

/-- R394: an acknowledgement ends the oldest registration. -/
theorem receive_ack {r : Reg} {rest : List Reg} (hr : k.regs = r :: rest) (home : Option Word) (other : Bool) {got : Word}
    (hg : got = mergeWord r.mask r.data ((home <|> k.held <|> k.known).getD (s.fab.home w))) : s.receive (.ack w home other) =
    { s with
      inflight := s.inflight.erase (.ack w home other)
      fab := s.fab.setCopy w (some ⟨w, if rest = [] then .r else .p, some got, some got, rest, r.who⟩) } := by
  subst hg
  simp only [State.receive, State.takeAck, hk, hr, List.isEmpty_iff]

/-- R393: the acknowledgement of a write-back that is out. -/
theorem receive_wbAck (hw : k.st = .w) : s.receive (.wbAck w) =
    { s with inflight := s.inflight.erase (.wbAck w), fab := s.fab.setCopy w none } := by
  simp only [State.receive, State.takeWbAck, hk, hw]

/-- R394: the acknowledgement next for a word is of its oldest registration, recorded, and its value, where it brings one, is the event's. -/
theorem ackReady_next {home : Option Word} {other : Bool} {v : Word} {r : Reg} {rest : List Reg}
    (hm : s.nextMsg false w = some (.ack w home other)) (hv : home = none ∨ home = some v) (hr : k.regs = r :: rest) (hrec : r.recorded = true) :
    ackReady w v s = true := by
  have hall : home.all (· == v) = true := by
    rcases hv with rfl | rfl
    · rfl
    · exact beq_self_eq_true v
  simp [ackReady, hm, hk, hr, hrec, hall]

/-- R392: a word in R may be evicted: its value goes home. -/
theorem evict_registered {d : Word} (hd : k.held = some d) :
    evict w s = ({ s with fab := s.fab.setCopy w (some { k with st := .w }) } : State).send (.writeBack w d) := by
  simp only [evict, hk, hd]

end

/-- R394: the message next for a word at the core. -/
theorem receiveNext_eq {m : Msg} (h : s.nextMsg false w = some m) : receiveNext w s = s.receive m := by
  simp only [receiveNext, h]

end

end Sys2Proof.Machine

namespace Sys2Proof

open Machine

/-- Settles O48: each event is ready by its hypotheses, and what it then does is its own meaning's. -/
theorem sharingEventsHappen : Obligations.SharingEventsHappen := by
  intro s a n w who poison v without
  refine ⟨?arrival, ?childFlip, ?span, ?sramError, rfl, ?otherRegistration, ?ownRegistration, ?writeBack, ?atCore⟩
  case arrival =>
    intro src hm
    have hready : arrivalReady a n poison src s = true := by simp [arrivalReady, hm]
    exact next_of_ready hready rfl
  case childFlip =>
    intro m hm
    have hx : exec (.childFlip a n poison) s = .next (match some m with
        | some m => (without m).flipChild a poison
        | none => s) := by rw [← hm]; rfl
    exact hx
  case span =>
    intro p rest s' hp ht ha
    exact next_of_ready (spanReady_first hp ht) (applyPending_first hp ha)
  case sramError =>
    intro ha
    refine ⟨_, next_of_ready ha rfl, fun x => ?_⟩
    have hblock : ∀ d ∈ [blockOf a, blockOf a + 8, blockOf a + 16, blockOf a + 24], blockOf d = blockOf a := by
      intro d hd
      simp only [List.mem_cons, List.not_mem_nil, or_false, blockOf] at hd ⊢
      omega
    exact (spoiledAt_append s (blockOf a) _ hblock (List.cons_ne_nil _ _) x).trans (or_congr_right blockOf_eq_iff)
  case otherRegistration =>
    intro mask h hf hw
    exact next_of_ready (registrationReady_other h hf hw) (if_neg h)
  case ownRegistration =>
    intro m k hm hk hr hf hw mask' v'
    exact next_of_ready (registrationReady_own hm hk hr hf hw) (if_pos rfl)
  case writeBack =>
    intro h ho hl
    have hready : writeBackReady w who s = true := by simp [writeBackReady, h, ho]
    exact ⟨_, next_of_ready hready (writeBackAtHome_other v h hl), rfl, rfl⟩
  case atCore =>
    intro k hk leaves
    refine ⟨?forward, ?revoke, ?ack, ?wbAck, ?evict⟩
    case forward =>
      intro hm hh
      have hready : forwardReady w who s = true := by simp [forwardReady, hm, answersFor_held hk hh]
      exact next_of_ready hready rfl
    case revoke =>
      intro mask hm hh
      have hready : revokeReady w who s = true := by simp [revokeReady, hm, answersFor_held hk hh]
      exact next_of_ready hready ((receiveNext_eq hm).trans (receive_revoke hk mask))
    case ack =>
      intro home other r rest hm hv hr hrec got
      exact next_of_ready (ackReady_next hk hm hv hr hrec) ((receiveNext_eq hm).trans (receive_ack hk hr home other rfl))
    case wbAck =>
      intro hw hm
      have hready : wbAckReady w s = true := by simp [wbAckReady, hm]
      exact next_of_ready hready (receive_wbAck hk hw)
    case evict =>
      intro d hr hd
      have hready : evictionReady w s = true := by simp [evictionReady, hk, hr, hd]
      exact next_of_ready hready (evict_registered hk hd)

end Sys2Proof

/-! Hosts, shootdowns, errors and lost agents (R397, R398, R405 to R407, R412, R413). -/

namespace Sys2Proof.Machine

/-! Host accesses (R397, R398). -/

section
variable {s : State} {port addr : Nat} {bs : List Byte} (ho : s.portOpen port = true) (hp : s.populated addr = true)
  (hn : addr % 64 + bs.length ≤ 64)
include ho hp hn

/-- R398: a host access outside the register region may be taken where no other port holds its line and, for a write, no pin does. -/
theorem hostAccessReady_memory {write : Bool} (ht : target addr < 2 ∨ ownMemory port addr = true) (hf : inFrames addr = false)
    (hh : s.otherHolds port (addr / 64) = false) (hw : write = true → s.pins (lineOf addr) = 0) :
    hostAccessReady port addr write bs s = true := by
  have hpins : (!write || s.pins (lineOf addr) == 0) = true := by
    cases write with
    | false => rfl
    | true => exact beq_iff_eq.mpr (hw rfl)
  simp only [hostAccessReady, ho, hp, hf, hh, hpins, Bool.and_eq_true, Bool.or_eq_true, decide_eq_true_eq]
  exact ⟨⟨⟨⟨trivial, trivial⟩, ht⟩, hn⟩, rfl⟩

/-- R417: a host's write to a doorbell frame that takes it. -/
theorem hostAccessReady_frame (ht : target addr < 2) (hf : inFrames addr = true)
    (hb : s.frameBusy (frameOf addr).1 (frameOf addr).2 = false) : hostAccessReady port addr true bs s = true := by
  simp [hostAccessReady, ho, hp, ht, hn, hf, hb]

end

section
variable {s : State} {port addr : Nat} {bs : List Byte}

/-- R6: memory of the device is no host's own. -/
theorem ownMemory_device (port : Nat) (ht : target addr < 2) : ownMemory port addr = false :=
  decide_eq_false (by omega)

section
variable (ht : target addr < 2) (hf : inFrames addr = false)
include ht hf

/-- R397: a host's read of device memory leaves it a clean copy. -/
theorem hostAccess_read (bs : List Byte) : hostAccess port addr false bs s =
    if s.hostEntry port (addr / 64) = none then s.putHost port (addr / 64) (some .shared) else s := by
  simp only [hostAccess, hf, ownMemory_device port ht, Bool.false_eq_true, Bool.not_false, if_true, if_false]
  cases s.hostEntry port (addr / 64) <;> rfl

/-- R398: a write with no bytes takes its line exclusive. -/
theorem hostAccess_exclusive : hostAccess port addr true [] s = s.holdExclusive port (addr / 64) := by
  simp only [hostAccess, hf, ownMemory_device port ht, Bool.false_eq_true, Bool.not_true, if_true, if_false]

/-- R398: a write in the line a host holds exclusive is its own. -/
theorem hostAccess_held {m : Bool} (hm : s.hostEntry port (addr / 64) = some ⟨port, addr / 64, .excl m⟩) (hne : bs ≠ []) :
    hostAccess port addr true bs s =
      ({ s with fab := { s.fab with mem := writeBytes ((span addr bs.length).zip bs) s.fab.mem } } : State).putHost port (addr / 64)
        (some (.excl true)) := by
  simp only [hostAccess, hf, ownMemory_device port ht, hm, if_neg hne, Bool.false_eq_true, Bool.not_true, if_false]

end

/-- R397: a host's access to its own memory. -/
theorem hostAccess_own (write : Bool) (bs : List Byte) (hf : inFrames addr = false) (ho : ownMemory port addr = true) :
    hostAccess port addr write bs s = s.ownAccess port addr write bs := by
  simp only [hostAccess, hf, ho, Bool.false_eq_true, if_true, if_false]

/-- R417: a host's dword written to a doorbell frame. -/
theorem hostAccess_frame (hf : inFrames addr = true) (ha : addr % 8 = 0) (hn : bs.length = 8) :
    hostAccess port addr true bs s = s.frameStore (frameOf addr).1 (frameOf addr).2 (.ofNat 64 (leNat bs)) := by
  simp [hostAccess, hf, ha, hn]

end

/-! Errors (R407). -/

/-- R407: an error met in a line marks it. -/
theorem memoryError_met (line : Nat) (s : State) :
    lineOf line ∈ (memoryError line false s).fab.poison ∧ lineOf line ∉ (memoryError line false s).fab.latent := by
  simp [memoryError, Fabric.spoil]

/-- R407: one not met yet leaves it marked or to be met. -/
theorem memoryError_latent (line : Nat) (s : State) :
    lineOf line ∈ (memoryError line true s).fab.poison ∨ lineOf line ∈ (memoryError line true s).fab.latent := by
  simp only [memoryError, if_true]
  split
  · next h => simpa using h
  · exact .inr (List.mem_cons_self ..)

/-! Shootdowns (R405, R406). -/

section
variable {s : State} {p : Nat} (hp : p < 16)
include hp

/-- R405: an accepted request is counted and waits. -/
theorem requestShootdown_part (v : Dword) : ((s.requestShootdown p v).part p).sdarr = (s.part p).sdarr + 1 ∧
    ((s.requestShootdown p v).part p).sdreqs = (s.part p).sdreqs ++ [shootdownRequest v] := by
  simp [State.requestShootdown, hp]

/-- R406: the oldest request completes: its translations are discarded. -/
theorem completeShootdown_oldest {r : Dword} {rest : List Dword} (hr : (s.part p).sdreqs = r :: rest) :
    ((completeShootdown p s).part p).sdreqs = rest ∧ ((completeShootdown p s).part p).sddone = (s.part p).sddone + 1 ∧
      ∀ e, e ∈ (completeShootdown p s).fab.tlb ↔ e ∈ s.fab.tlb ∧ e.inRange p (shootdownRange r) = false := by
  simp only [completeShootdown, hr, State.part_mapPart _ _ hp, State.mapPart_fab, List.mem_filter, Bool.not_eq_true']
  exact ⟨trivial, rfl, fun _ => trivial⟩

end

/-! Lost agents (R413). -/

/-- R254: with no write waiting at its home nothing proceeds. -/
theorem State.drainWaiting_none {s : State} (h : s.fab.waiting = []) : s.drainWaiting = s := by
  obtain ⟨_, _, _, fab⟩ := s
  obtain ⟨⟩ := fab
  cases h
  rfl

/-- R413: a line of which a dead host held a half modified is LOST once the Snuffer meets it. -/
theorem scrub_lost {s : State} {line : Nat} {e : HostEntry} (he : e ∈ s.fab.hosts) (hl : e.line = line)
    (hd : s.portFenced e.port = true) (hm : e.st = .excl true) (hw : s.fab.waiting = []) : lineOf (64 * line) ∈ (scrub line s).fab.lost := by
  have hdead : ((s.fab.hosts.filter fun h => h.line == line && s.portFenced h.port).any fun h => decide (h.st = .excl true)) = true := by
    simp only [List.any_eq_true, List.mem_filter, Bool.and_eq_true, beq_iff_eq, decide_eq_true_eq]
    exact ⟨e, ⟨he, hl, hd⟩, hm⟩
  simp only [scrub, hdead, if_true]
  rw [State.drainWaiting_none]
  · exact List.mem_cons_self ..
  · exact hw

end Sys2Proof.Machine

namespace Sys2Proof

open Machine

/-- Settles O49: each event is ready by its hypotheses, and what it then does is its own meaning's. -/
theorem hostAndErrorEventsHappen : Obligations.HostAndErrorEventsHappen := by
  intro s port addr line p v bs
  refine ⟨?device, ?elsewhere, ?writeback, ?error, ?sdreq, ?shootdown, ?deadModule, ?deadHost, ?scrub⟩
  case device =>
    intro ho hp ht hf hh
    refine ⟨fun hn => ?read, fun hpin => ?exclusive, fun m hm hpin hne hn => ?held⟩
    case read => exact next_of_ready (hostAccessReady_memory ho hp hn (.inl ht) hf hh nofun) (hostAccess_read ht hf bs)
    case exclusive =>
      have hn : addr % 64 + ([] : List Byte).length ≤ 64 := (Nat.mod_lt _ (by decide)).le
      exact next_of_ready (hostAccessReady_memory ho hp hn (.inl ht) hf hh fun _ => hpin) (hostAccess_exclusive ht hf)
    case held =>
      exact next_of_ready (hostAccessReady_memory ho hp hn (.inl ht) hf hh fun _ => hpin) (hostAccess_held ht hf hm hne)
  case elsewhere =>
    intro write ho hp hn
    refine ⟨fun hown hf hh hpin => ?own, fun ht hf ha hlen hb => ?frame⟩
    case own => exact next_of_ready (hostAccessReady_memory ho hp hn (.inr hown) hf hh hpin) (hostAccess_own write bs hf hown)
    case frame => exact next_of_ready (hostAccessReady_frame ho hp hn ht hf hb) (hostAccess_frame hf ha hlen)
  case writeback =>
    intro ho ht m hm
    refine ⟨fun hlen hpin => ?bytes, fun hclean => ?clean⟩
    case bytes =>
      have hready : hostWritebackReady port line (some bs) s = true := by simp [hostWritebackReady, ho, ht, hm, hlen, hpin]
      exact next_of_ready hready rfl
    case clean =>
      have hready : hostWritebackReady port line none s = true := by simp [hostWritebackReady, ho, ht, hm, hclean]
      exact next_of_ready hready rfl
  case error =>
    intro hp hf
    have hready : s.populated line ∧ !inFrames line := ⟨hp, by rw [hf]; rfl⟩
    exact ⟨⟨_, next_of_ready hready rfl, memoryError_met line s⟩, _, next_of_ready hready rfl, memoryError_latent line s⟩
  case sdreq =>
    intro hp hfull
    have hready : p < Config.partCount ∧ !s.shootdownsFull p := ⟨hp, by rw [hfull]; rfl⟩
    exact ⟨_, next_of_ready hready rfl, requestShootdown_part hp v⟩
  case shootdown =>
    intro r rest hp hr hq
    have hready : shootdownReady p s = true := by simp only [shootdownReady, hr, hq]
    exact ⟨_, next_of_ready hready rfl, completeShootdown_oldest hp hr⟩
  case deadModule => exact fun hr => next_of_ready hr rfl
  case deadHost => exact fun hr => next_of_ready hr rfl
  case scrub =>
    intro e he hl hd
    have hready : scrubReady line s = true := by
      simp only [scrubReady, List.any_eq_true, Bool.and_eq_true, beq_iff_eq]
      exact ⟨e, he, hl, hd⟩
    exact ⟨_, next_of_ready hready rfl, scrub_lost he hl hd⟩

end Sys2Proof

/-! Partition registers, resizes, reclaims and discards (R416, R418 to R424, R427). -/

namespace Sys2Proof.Machine

/-! Writes in the management window (R416, R440). -/

/-- R440: before bring-up a write in the management window does nothing. -/
theorem State.served_down {s : State} (h : s.mgmt.up = false) (taken : State) : s.served taken = s := by
  simp [State.served, h]

/-- R440: from bring-up on it is taken. -/
theorem State.served_up {s : State} (h : s.mgmt.up = true) (taken : State) : s.served taken = taken := if_pos h

/-- R440: before bring-up a partition register's write does nothing. -/
theorem next_partition_down {s : State} (h : s.mgmt.up = false) (p : Nat) (t : State) :
    (.next (if p < Config.partCount then s.served t else s) : Answer) = .next s := by
  rw [State.served_down h, ite_self]

/-- R440: from bring-up on it is taken. -/
theorem next_partition_up {s : State} {p : Nat} (hp : p < 16) (h : s.mgmt.up = true) (t : State) :
    (.next (if p < Config.partCount then s.served t else s) : Answer) = .next t :=
  next_of_ready (show p < Config.partCount from hp) (State.served_up h t)

/-- R416: one condition's status. -/
theorem firstStatus_one (b : Bool) (k : Nat) : firstStatus [(b, k)] = if b then k else 0 := by
  cases b <;> rfl

/-- R416: what a checked write leaves of a partition's registers: PSTAT 0 with the register that it takes, or the first condition's status
with the registers as they were. -/
def PartRegs.written (r : PartRegs) (status : Nat) (r' : PartRegs) : PartRegs :=
  if status = 0 then { r' with pstat := 0 } else { r with pstat := .ofNat 8 status }

section
variable {s : State} {p : Nat} (hp : p < 16)
include hp

theorem State.part_partWrite (status : Nat) {taken : State → State} {r' : PartRegs}
    (ht : ∀ t : State, t.part p = { s.part p with pstat := 0 } → (taken t).part p = { r' with pstat := 0 }) :
    (s.partWrite p status taken).part p = (s.part p).written status r' := by
  unfold State.partWrite PartRegs.written
  split
  · subst status
    exact ht _ (s.part_mapPart _ hp)
  · exact s.part_mapPart _ hp

/-- R416: the same where the write taken changes the partition's registers alone. -/
theorem State.part_partWrite_mapPart (status : Nat) {f : PartRegs → PartRegs}
    (hf : f { s.part p with pstat := 0 } = { f (s.part p) with pstat := 0 }) :
    (s.partWrite p status fun s => s.mapPart p f).part p = (s.part p).written status (f (s.part p)) :=
  State.part_partWrite hp status fun t ht => by rw [t.part_mapPart f hp, ht, hf]

/-! The registers (R419 to R424). -/

/-- R419: PCTL taken sets EN; what follows for clusters and queues is in no register of the block. -/
theorem writePctl_part (v : Dword) (h : s.rcbAwaits p = false) : (writePctl p v s).part p = (s.part p).written
    (firstStatus [(bits v 63 1 ≠ 0, 3), (v.getLsbD 0 && (!s.rcbReady p || !(s.part p).ptset), 6), (!v.getLsbD 0 && s.partBusy p, 2),
      (v.getLsbD 0 && s.windowMeets p (s.part p).swin, 1)]) { s.part p with en := v.getLsbD 0 } := by
  simp only [writePctl, h, Bool.false_eq_true, if_false]
  refine State.part_partWrite hp _ fun t ht => ?_
  have hen (u : State) (hu : u.part p = t.part p) : (u.mapPart p fun r => { r with en := v.getLsbD 0 }).part p =
      { s.part p with en := v.getLsbD 0, pstat := 0 } := by rw [u.part_mapPart _ hp, hu, ht]
  split <;> split <;> exact hen _ rfl

/-- R420: PTBASE taken names an aligned address in memory of the device. -/
theorem writePtbase_part (v : Dword) : (writePtbase p v s).part p = (s.part p).written
    (if bits v 63 49 ≠ 0 ∨ bits v 11 0 ≠ 0 then 3 else 0) { s.part p with ptbase := v, ptset := true } := by
  have hbad : (decide (bits v 63 52 ≠ 0) || decide (bits v 11 0 ≠ 0) || decide (2 ≤ bits v 51 48)) = true ↔
      bits v 63 49 ≠ 0 ∨ bits v 11 0 ≠ 0 := by
    simp only [Bool.or_eq_true, decide_eq_true_eq]
    simp only [bits]
    omega
  simp only [writePtbase, firstStatus_one, hbad]
  exact State.part_partWrite_mapPart hp _ rfl

/-- R422: EVRING taken starts a new ring. -/
theorem writeEvring_part (v : Dword) : (writeEvring p v s).part p = (s.part p).written
    (if bits v 11 4 ≠ 0 ∨ bits v 3 0 = 1 ∨ 12 < bits v 3 0 then 3 else 0) { s.part p with evring := v, evcount := 0 } := by
  have hbad : (decide (bits v 11 4 ≠ 0) || bits v 3 0 == 1 || decide (12 < bits v 3 0)) = true ↔
      bits v 11 4 ≠ 0 ∨ bits v 3 0 = 1 ∨ 12 < bits v 3 0 := by
    simp only [Bool.or_eq_true, decide_eq_true_eq, beq_iff_eq, or_assoc]
  simp only [writeEvring, firstStatus_one, hbad]
  exact State.part_partWrite_mapPart hp _ rfl

/-- R369: SDESC sets the serving descriptor. -/
theorem writeSdesc_part (v : Dword) : (writeSdesc p v s).part p = { s.part p with sdesc := v } := by
  have h := s.part_mapPart (fun r => { r with sdesc := v }) hp
  unfold writeSdesc
  split <;> exact h

/-- R421: a completed request is counted. -/
theorem discardRange_part {q : Dword} {rest : List Dword} (h : (s.part p).icreqs = q :: rest) :
    (discardRange p s).part p = { s.part p with icreqs := rest, icdone := (s.part p).icdone + 1 } := by
  simp only [discardRange, h, State.part_mapPart _ _ hp]
  rfl

end

section
variable {s : State} {p : Nat}

/-- R369: a partition has a context at the Lamplighter where SDESC is not 0. -/
theorem writeSdesc_lamp (v : Dword) : ((writeSdesc p v s).lamp p).isSome = true ↔ v ≠ 0 := by
  unfold writeSdesc State.lamp
  split
  · next h => simp [h]
  · next h => simpa using h

/-- R421: of the cached instruction lines those of the request's frames go. -/
theorem discardRange_icache {q : Dword} {rest : List Dword} (h : (s.part p).icreqs = q :: rest) (x : FetchCopy) :
    x ∈ (discardRange p s).fab.icache ↔
      x ∈ s.fab.icache ∧ q.getLsbD 0 = false ∧ inSome (s.rangeFrames p (shootdownRange q)) x.line = false := by
  simp only [discardRange, h, State.mapPart_fab, List.mem_filter, Bool.and_eq_true, Bool.not_eq_true', bit]

/-- R424: a line in a changed way, with no pin, may be visited. -/
theorem reclaimVisitReady_changed {c : Reclaim} {l : LlcLine} {line : Nat} (hc : (s.part p).reclaim = some c) (hl : l ∈ s.fab.llc)
    (he : l.line = line) (hw : c.changed.getLsbD l.way = true) (hpin : s.pins line = 0) : reclaimVisitReady p line s = true := by
  simp only [reclaimVisitReady, hc, hpin, Bool.and_eq_true, List.any_eq_true, beq_iff_eq]
  exact ⟨trivial, l, hl, he, hw⟩

/-- R424: with no line left in a changed way the reclaim is done. -/
theorem reclaimDone_empty {c : Reclaim} (hc : (s.part p).reclaim = some c) (hl : ∀ l ∈ s.fab.llc, c.changed.getLsbD l.way = false) :
    reclaimDone p s = true := by
  simpa [reclaimDone, hc] using hl

/-- R427: a leaving cluster with nothing due, that holds nothing of the partition, may be released. -/
theorem releaseReady_clear {k : Nat} (hk : k ∈ (s.part p).leaving) (hd : s.dueIn p k = false)
    (hc : k ≠ s.cluster ∨ (s.clearOf p = true ∧ s.ownerAwaits = false)) : releaseReady p k s = true := by
  simpa [releaseReady, hk, hd] using hc

end

end Sys2Proof.Machine

namespace Sys2Proof

open Machine

/-- Settles O50: from bring-up on each write leaves the block as its own conditions say (`PartRegs.written`), before it nothing; each
completion is ready by its hypotheses. -/
theorem partitionEventsHappen : Obligations.PartitionEventsHappen := by
  intro s p k line v hp r writes old
  refine ⟨fun hdown => ?down, fun hup => ⟨fun hrcb => ?pctl, ?ptbase, ?swin, ?evring, ?waymask, ?sdesc, ?icreq, ?rgo⟩,
    fun q rest hq => ?discard, fun c hc => ⟨fun l hl he hw hpin => ?visit, fun hl => ?reclaimed⟩, fun hk hd hc => ?release⟩
  case down =>
    simp only [List.forall_mem_cons]
    refine ⟨?_, ?_, ?_, ?_, ?_, ?_, ?_, ?_, fun _ h => nomatch h⟩ <;> exact next_partition_down hdown p _
  case pctl => exact ⟨_, next_partition_up hp hup _, writePctl_part hp v hrcb⟩
  case ptbase => exact ⟨_, next_partition_up hp hup _, writePtbase_part hp v⟩
  case swin => exact ⟨_, next_partition_up hp hup _, State.part_partWrite_mapPart hp _ rfl⟩
  case evring => exact ⟨_, next_partition_up hp hup _, writeEvring_part hp v⟩
  case waymask => exact ⟨_, next_partition_up hp hup _, State.part_partWrite_mapPart hp _ rfl⟩
  case sdesc => exact ⟨_, next_partition_up hp hup _, writeSdesc_part hp v, writeSdesc_lamp v⟩
  case icreq => exact ⟨_, next_partition_up hp hup _, s.part_mapPart _ hp⟩
  case rgo => exact next_partition_up hp hup _
  case discard =>
    have hsome : (s.part p).icreqs.isEmpty = false := by rw [show (s.part p).icreqs = q :: rest from hq]; rfl
    refine ⟨discardRange p s, ?_, discardRange_part hp hq, discardRange_icache hq⟩
    exact congrArg Host.Outcome.next (if_neg (Bool.eq_false_iff.mp hsome))
  case visit => exact next_of_ready (reclaimVisitReady_changed hc hl he hw hpin) rfl
  case reclaimed => exact ⟨_, next_of_ready (reclaimDone_empty hc hl) rfl, s.part_mapPart _ hp⟩
  case release => exact next_of_ready (releaseReady_clear hk hd hc) rfl

end Sys2Proof

/-! The package block, layer roles, intervals and heartbeats (R412, R415, R416, R425, R426, R428, R429, R436, R437, R439). -/

namespace Sys2Proof.Machine

/-- An entry of a vector whose entries are mapped by their place. -/
theorem getElem?_mapFinIdx_of_some {α β : Type} {n : Nat} {xs : Vector α n} (f : Nat → α → β) {i : Nat} {a : α} (h : xs[i]? = some a) :
    (xs.mapFinIdx fun i a _ => f i a)[i]? = some (f i a) := by
  obtain ⟨hi, rfl⟩ := Vector.getElem?_eq_some_iff.mp h
  simp [hi]

/-! The package block (R416). -/

/-- R416: PKSTAT set. -/
def State.withPkstat (s : State) (k : Nat) : State := { s with mgmt := { s.mgmt with pkstat := .ofNat 8 k } }

/-- R440: from bring-up on a package register's write is taken. -/
theorem next_served {s : State} (h : s.mgmt.up = true) {t u : State} (ht : t = u) : (.next (s.served t) : Answer) = .next u := by
  rw [State.served_up h, ht]

/-- R416: the first condition that holds gives its status. -/
theorem firstStatus_cons (b : Bool) (k : Nat) (cs : List (Bool × Nat)) :
    firstStatus ((b, k) :: cs) = if b then k else firstStatus cs := by
  cases b <;> rfl

/-- R416: a write whose first condition holds leaves its status alone. -/
theorem pkWrite_refused (s : State) {k : Nat} (hk : k ≠ 0) (taken : State → State) : s.pkWrite k taken = s.withPkstat k := if_neg hk

/-- R416: one with no condition against it is taken. -/
theorem pkWrite_taken (s : State) (taken : State → State) : s.pkWrite 0 taken = taken (s.withPkstat 0) := rfl

/-- R428, R429: ROLEREQ to memory-only. -/
theorem toMemoryOnly_eq (n : Nat) (s : State) : toMemoryOnly n s =
    if 16 ≤ n ∨ s.role n = .memoryOnly then s.withPkstat 3 else if s.roleBusy then s.withPkstat 2
    else (((s.withPkstat 0).setRole n .draining).roleEvent 3 n 0).drainLayer n := by
  have hbad : (decide (Config.layerCount ≤ n) || s.role n == .memoryOnly) = true ↔ 16 ≤ n ∨ s.role n = .memoryOnly :=
    (Bool.or_eq_true ..).to_iff.trans (or_congr decide_eq_true_iff beq_iff_eq)
  simp only [toMemoryOnly, firstStatus_cons, hbad]
  split
  · rfl
  · split <;> rfl

/-- R428, R429: ROLEREQ to compute. -/
theorem toCompute_eq (n : Nat) (s : State) : toCompute n s =
    if 16 ≤ n ∨ s.role n = .compute then s.withPkstat 3 else if s.roleBusy then s.withPkstat 2
    else if 12 < s.computeLayers + 1 then s.withPkstat 5
    else ((s.withPkstat 0).setRole n .powering).powerIslands (layerIslands n) := by
  have hbad : (decide (Config.layerCount ≤ n) || s.role n == .compute) = true ↔ 16 ≤ n ∨ s.role n = .compute :=
    (Bool.or_eq_true ..).to_iff.trans (or_congr decide_eq_true_iff beq_iff_eq)
  have hfull : decide (Config.maxComputeLayers < s.computeLayers + 1) = true ↔ 12 < s.computeLayers + 1 := decide_eq_true_iff
  simp only [toCompute, firstStatus_cons, hbad, hfull]
  split
  · rfl
  · split
    · rfl
    · split <;> rfl

/-- R428, R429: a drain cancelled. -/
theorem cancelDrain_eq (n : Nat) (s : State) :
    cancelDrain n s = if s.role n = .draining then (s.withPkstat 0).setRole n .compute else s.withPkstat 3 := by
  unfold cancelDrain
  rw [firstStatus_one]
  by_cases h : s.role n = .draining
  · simp [h, pkWrite_taken]
  · simp [h, pkWrite_refused]

/-! Agents (R412, R437). -/

section
variable {s : State} {v : Dword} (h63 : bits v 63 16 = 0) (h14 : bits v 14 9 = 0)
include h63 h14

/-- R412, R428: no condition stands against a DEAD of a module, or of a port that there is, with its reserved bits 0. -/
theorem deadStatus_ok (hid : v.getLsbD 15 = true ∨ bits v 8 0 < 2) :
    firstStatus [(bits v 63 16 ≠ 0 || bits v 14 9 ≠ 0 || (!bit v 15 && decide (2 ≤ bits v 8 0)), 3)] = 0 := by
  rw [firstStatus_one, h63, h14]
  rcases hid with h | h
  · rw [bit, h]; rfl
  · rw [decide_eq_false (Nat.not_le.mpr h), Bool.and_false]; rfl

/-- R412, R428: DEAD of a host port fences it. -/
theorem writeDead_host (hm : v.getLsbD 15 = false) (hid : bits v 8 0 < 2) :
    writeDead v s = (s.withPkstat 0).fencePort (bits v 8 0) := by
  have hm' : ¬bit v 15 = true := Bool.eq_false_iff.mp hm
  unfold writeDead
  dsimp only
  rw [deadStatus_ok h63 h14 (.inr hid), pkWrite_taken, if_neg hm']
  rfl

/-- R412, R428: of a module with a peer entry, it fences the module. -/
theorem writeDead_module (hm : v.getLsbD 15 = true) (hp : (s.mgmt.peers.any (·.mod == bits v 8 0)) = true) :
    writeDead v s = (s.withPkstat 0).fenceModule (bits v 8 0) := by
  have hp' : ((s.withPkstat 0).mgmt.peers.any (·.mod == bits v 8 0)) = true := hp
  unfold writeDead
  dsimp only
  rw [deadStatus_ok h63 h14 (.inl hm), pkWrite_taken, if_pos (show bit v 15 = true from hm), if_pos hp']
  rfl

end

/-- R437: HATTACH of a port that is heard and scrubbed attaches it. -/
theorem writeHattach_taken {s : State} {v : Dword} (h63 : bits v 63 1 = 0) (hs : s.silent (bits v 0 0) = false)
    (hc : s.scrubbing (bits v 0 0) = false) : writeHattach v s = { s.withPkstat 0 with mgmt := { (s.withPkstat 0).mgmt with
      hosts := s.mgmt.hosts.mapFinIdx fun i h _ =>
        if i = bits v 0 0 then { h with attached := true, fenced := false, missed := 0 } else h } } := by
  simp only [writeHattach, firstStatus_cons, h63, hs, hc]
  rfl

/-! The management window (R415). -/

section
variable (v : Dword) (s : State)

theorem writeWindow_reserved {off : Nat} (h : off % 8 ≠ 0 ∨ 0x3000 ≤ off) : writeWindow off v s = s := by
  unfold writeWindow
  split
  · rfl
  · rw [if_neg (by omega), if_neg (by omega)]

theorem writeWindow_package {off : Nat} (h : off < 0x1000) (h8 : off % 8 = 0) : writeWindow off v s = writePackage off v s := by
  unfold writeWindow
  rw [if_neg (not_not_intro h8), if_pos h]

theorem writeWindow_partition {p off : Nat} (hp : p < 16) (h : off < 0x200) (h8 : off % 8 = 0) :
    writeWindow (0x1000 + 0x200 * p + off) v s = writePartition p off v s := by
  have hblock : (0x1000 + 0x200 * p + off - 0x1000) / 0x200 = p := by omega
  have hoff : (0x1000 + 0x200 * p + off - 0x1000) % 0x200 = off := by omega
  unfold writeWindow
  rw [if_neg (by omega), if_neg (by omega), if_pos (by omega), hblock, hoff]

end

/-! Intervals (R426, R439). -/

/-- R425, log 83: partition p is enabled and its mask holds cluster k. -/
def State.holdsRate (s : State) (k p : Nat) : Bool := p < 16 && (s.part p).en && (s.partMask p).getLsbD k

/-- An entry of a list that is made number by number. -/
theorem getD_map_range {α : Type} (f : Nat → α) (d : α) (n p : Nat) : (((List.range n).map f)[p]?).getD d = if p < n then f p else d := by
  by_cases h : p < n <;> simp [h]

/-- R426: an interval moves the rate of a cluster by the verdict of the lowest-numbered partition that holds it. -/
theorem bwStep_rates (queues : List (List Nat)) (s : State) {k l : Nat} (h : s.mgmt.rates[k]? = some l) :
    (bwStep queues s).mgmt.rates[k]? = some (match (List.range 16).find? (s.holdsRate k) with
      | some p => nextRate (queues.any fun h => s.above h p) l
      | none => l) := by
  have hholds : (fun p => (((((List.range Config.partCount).map fun p => if (s.part p).en then s.partMask p else 0))[p]?).getD 0).getLsbD k) =
      s.holdsRate k := by
    funext p
    rw [getD_map_range]
    unfold State.holdsRate Config.partCount
    by_cases hp : p < 16
    · cases he : (s.part p).en <;> simp [hp]
    · simp [hp]
  refine (getElem?_mapFinIdx_of_some _ h).trans (congrArg some ?_)
  rw [hholds]
  cases hf : (List.range 16).find? (s.holdsRate k) with
  | none => simp only [Config.partCount, hf]
  | some p =>
    have hp := List.find?_some hf
    simp only [State.holdsRate, Bool.and_eq_true, decide_eq_true_eq] at hp
    obtain ⟨⟨hlt, hen⟩, -⟩ := hp
    simp only [Config.partCount, hf]
    rw [getD_map_range, if_pos hlt, hen, Bool.true_and]

/-- R425, R426: a cluster's rate rises or falls with the verdict of its partition, the lowest-numbered that holds it. -/
theorem bwStep_held (queues : List (List Nat)) {s : State} {k l p : Nat} (h : s.mgmt.rates[k]? = some l) (hp : s.holdsRate k p = true)
    (hq : ∀ q < p, s.holdsRate k q = false) :
    (bwStep queues s).mgmt.rates[k]? = some (nextRate (queues.any fun h => s.above h p) l) := by
  have hlt : p < 16 := by
    simp only [State.holdsRate, Bool.and_eq_true, decide_eq_true_eq] at hp
    exact hp.1.1
  have hfirst : (List.range 16).find? (s.holdsRate k) = some p :=
    List.find?_range_eq_some.mpr ⟨hp, List.mem_range.mpr hlt, fun q hlt => by rw [hq q hlt]; rfl⟩
  rw [bwStep_rates queues s h, hfirst]

/-- R425: the rate of a cluster that no enabled partition holds stands. -/
theorem bwStep_free (queues : List (List Nat)) {s : State} {k l : Nat} (h : s.mgmt.rates[k]? = some l)
    (hq : ∀ q, s.holdsRate k q = false) : (bwStep queues s).mgmt.rates[k]? = some l := by
  have hnone : (List.range 16).find? (s.holdsRate k) = none := List.find?_eq_none.mpr fun q _ => by simp [hq q]
  rw [bwStep_rates queues s h, hnone]

/-- R439: an interval moves each island's step by its reading; above the cap, one island is capped. -/
theorem islandInterval_islands (readings : List IslandReading) (watts : Nat) {s : State} {i k : Nat} (h : s.mgmt.islands[i]? = some k) :
    (islandInterval readings watts s).mgmt.islands[i]? = some (nextStep k (readingOf readings i)
      ((if s.mgmt.pwrcap < watts then cappedIsland s.mgmt.islands readings else none) == some i) (decide (s.mgmt.pwrcap < watts))) := by
  simp only [islandInterval, decide_eq_true_eq]
  exact getElem?_mapFinIdx_of_some (fun i k => nextStep k (readingOf readings i) (_ == some i) _) h

end Sys2Proof.Machine

namespace Sys2Proof

open Machine

/-- Settles O51: from bring-up on each write is taken as its own conditions say, before it nothing; a role's end and the intervals and
heartbeats do what their own meanings say, entry by entry. -/
theorem packageEventsHappen : Obligations.PackageEventsHappen := by
  intro s n port v readings watts queues status
  refine ⟨fun hdown => ?down, fun hup => ⟨?memoryOnly, ?compute, ?cancel⟩, fun hd => ?drainEnd, fun hr ho => ?powerUp,
    fun hup h63 h14 => ⟨fun hm hid => ?deadHost, fun hm hp => ?deadModule⟩, fun hup h63 hs hc => ?hattach,
    fun hup off hoff => ?reserved, fun hup p off hp h h8 => ?partition, fun hup off h h8 => ?package, ?bandwidth, ?islands,
    fun hup => ?period, ?heartbeat⟩
  case down =>
    simp only [List.forall_mem_cons]
    refine ⟨?_, ?_, ?_, ?_, ?_, ?_, fun _ h => nomatch h⟩ <;> exact congrArg Host.Outcome.next (State.served_down hdown _)
  case memoryOnly => exact next_served hup (toMemoryOnly_eq n s)
  case compute => exact next_served hup (toCompute_eq n s)
  case cancel => exact next_served hup (cancelDrain_eq n s)
  case drainEnd => exact next_of_ready hd rfl
  case powerUp =>
    have hready : s.role n == .powering ∧ !s.ownerAwaits := ⟨beq_iff_eq.mpr hr, by rw [ho]; rfl⟩
    exact next_of_ready hready rfl
  case deadHost => exact next_served hup (writeDead_host h63 h14 hm hid)
  case deadModule => exact next_served hup (writeDead_module h63 h14 hm hp)
  case hattach =>
    exact ⟨_, next_served hup (writeHattach_taken h63 hs hc), rfl, fun h hh =>
      (getElem?_mapFinIdx_of_some _ hh).trans (congrArg some (if_pos rfl))⟩
  case reserved => exact next_served hup (writeWindow_reserved v s hoff)
  case partition => exact next_served hup (writeWindow_partition v s hp h h8)
  case package => exact next_served hup (writeWindow_package v s h h8)
  case bandwidth => exact ⟨bwStep queues s, rfl, fun k l h => ⟨fun p hp hq => bwStep_held queues h hp hq, fun hq => bwStep_free queues h hq⟩⟩
  case islands => exact ⟨islandInterval readings watts s, rfl, fun i k h => islandInterval_islands readings watts h⟩
  case period =>
    refine ⟨endPeriod s, next_of_ready hup rfl, rfl, ?_⟩
    simp only [endPeriod, List.length_append, List.length_map]
  case heartbeat =>
    refine ⟨_, rfl, fun i h hh => (getElem?_mapFinIdx_of_some _ hh).trans (congrArg some ?_)⟩
    by_cases hi : i = port
    · simp [hi]
    · simp [hi, beq_eq_false_iff_ne.mpr hi]

end Sys2Proof
